-- ==== Sys2Proof/Word.lean ====
section
/-!
DEFINITION. The words of the Broker: bytes, 7-bit station addresses, and the numbers by which segments,
job slots, roster handles and station records are named (1.8, Table 2-1, Table 6-1).
-/

namespace Sys2Proof

/-- A byte of the host line or of a segment. -/
abbrev Byte := BitVec 8

/-- A station address, always the 7-bit value and never the address byte (1.8). -/
abbrev Addr := BitVec 7

/-- A segment: 0 is A, 1 is B, 2 is C, 3 is D (Table 13-1). -/
abbrev Seg := Fin 4

/-- A job slot number, 0 to 31 (R1). -/
abbrev Slot := Fin 32

/-- A roster handle, 0 to 63 (R87). -/
abbrev Handle := Fin 64

/-- A station record that has an address, index 0 or 1 (R122). -/
abbrev StationIx := Fin 2

/-- A record of the Station Unit: 0 and 1 are the station records, 2 is the broadcast inbox (8.1). -/
abbrev RecordIx := Fin 3

/-- The 8-byte identity of an enrolling device, in the order the device sends it (R104). -/
abbrev Identity := Vector Byte 8

/-- The byte whose value is `n`, modulo 256. -/
abbrev byteOf (n : Nat) : Byte := BitVec.ofNat 8 n

end Sys2Proof
end

