-- ==== Sys2Proof/Config.lean ====
section
/-!
DEFINITION. What the part fixes: the sizes and limits the manual gives, the speed profiles and the host line
rates. The manual leaves no result of a command undefined, so there is no free value here.
-/

namespace Sys2Proof.Config

/-- Blocks in the Block Pool (R147). -/
def poolBlocks : Nat := 96

/-- Bytes in one block (10.1). -/
def blockBytes : Nat := 32

/-- The level of the free count below which job acceptance may not go (R148). -/
def inboundReserve : Nat := 8

/-- The largest write total of a job (R5). -/
def maxWriteTotal : Nat := 480

/-- The largest read reserve of a job (R5). -/
def maxReadReserve : Nat := 224

/-- The largest deadline, in ms (R5). -/
def maxDeadline : Nat := 60000

/-- The retry budget that the request value 0FFh stands for (R5). -/
def defaultRetryBudget : Nat := 3

/-- The staging timer, in ms (R8). -/
def stagingTime : Nat := 1000

/-- Entries of the reply queue (R169). -/
def maxReplies : Nat := 8

/-- Entries of the reply cache (R168). -/
def maxCache : Nat := 8

/-- Entries of the Report Queue (R171). -/
def maxReports : Nat := 64

/-- Entries of the Report Queue that may be SENT (R170). -/
def sentWindow : Nat := 16

/-- Bytes of one host frame's body (R165). -/
def maxBody : Nat := 240

/-- Messages in one inbound list (R125). -/
def maxInbound : Nat := 4

/-- Bytes of one inbound message (R126). -/
def maxMessage : Nat := 128

/-- Bytes of a posted reply (R133). -/
def maxPosted : Nat := 64

/-- The fairness count at which the next selection is from ROUTINE (R31). -/
def fairnessLimit : Nat := 4

/-- The miss count at which an entry becomes MISSING (R90). -/
def missLimit : Nat := 3

/-- Acknowledged ASSIGNs after which a sweep ends SWEEP_LIMIT (R113). -/
def sweepLimit : Nat := 32

/-- Re-issues of an IDENTIFY, an ASSIGN or a PARK (R110, R113, R114). -/
def enrolRetries : Nat := 3

/-- Losses in a row on one enrolment command that are retried (R115). -/
def enrolLosses : Nat := 8

/-- Clock pulses of one recovery (R61). -/
def recoveryPulses : Nat := 9

/-- The largest value of a count that "stops at 255". -/
def countLimit : Nat := 255

/-- The lead byte of a host frame (R165). -/
def frameLead : Byte := 0x5A

/-- The three speed profiles (R44). -/
inductive SpeedProfile
  | p100 | p400 | p1000
  deriving DecidableEq, Repr

/-- One row of Table 4-1, times in ns. -/
structure ProfileTimes where
  rateKbit : Nat
  clockLow : Nat
  clockHigh : Nat
  freeTime : Nat
  deriving DecidableEq, Repr

/-- Table 4-1. Read by no command, since time is not counted (log entry 1). -/
def profileTimes : SpeedProfile → ProfileTimes
  | .p100 => ⟨100, 5000, 5000, 5000⟩
  | .p400 => ⟨400, 1500, 1000, 1500⟩
  | .p1000 => ⟨1000, 600, 400, 600⟩

/-- Table 1-3: the host line rate in units of 100 bit/s that the straps RATE1 and RATE0 select
(true is high). Read by no command. -/
def hostLineRate (rate1 rate0 : Bool) : Nat :=
  match rate1, rate0 with
  | false, false => 1152
  | false, true => 4608
  | true, false => 9216
  | true, true => 20000

end Sys2Proof.Config
end

