-- ==== Sys2Proof/Syntax.lean ====
section
/-!
DEFINITION. The commands of the Broker: one constructor of `Instr` for each row of spec/opcode_table.json, in the
table's order, and the operands they carry. A request carries its tag and the bytes of its body as Section
Thirteen lays them out. An event carries what happened outside the Broker: what the bus answered, the bytes that
arrived, the line that was held.
-/

namespace Sys2Proof

/-- What the bus gave the Broker for one byte of a transaction it drives as controller (R46, R48).
The answers of a transaction stand in the order of its bytes (log entry 6). -/
inductive BusAnswer
  /-- The byte the Broker sent was acknowledged. -/
  | ack
  /-- The byte the Broker sent was refused. -/
  | nak
  /-- A byte was received, and answered as the part requires. -/
  | byte (b : Byte)
  /-- Arbitration was lost in an address bit of the first address byte; `winner` is the winner's whole address
  byte, which the Broker goes on reading (R49). -/
  | lostTo (winner : Byte)
  /-- Arbitration was lost later: in a 1 bit of a byte the Broker was sending, or in the repeated start before it. -/
  | lost
  /-- A byte was received, and arbitration was lost in the acknowledge bit in which the Broker refused it. -/
  | byteLost (b : Byte)
  deriving DecidableEq, Repr

/-- What one clock pulse of a recovery showed (R61). -/
inductive RecoveryPulse
  /-- The data line read low in the pulse. -/
  | dataLow
  /-- The data line read high, and the stop that followed was made. -/
  | stopMade
  /-- The data line read high, and the stop that followed failed. -/
  | stopFailed
  /-- The clock was held low by another party for 2L during the pulse. -/
  | clockHeld
  deriving DecidableEq, Repr

/-- A segment line that another party holds low (R54, R161). -/
inductive BusLine
  | clock | data
  deriving DecidableEq, Repr

/-- What the bus exchange in flight on a segment had reached when it was cut off: the answers to the bytes of the
transaction the Broker was driving, and the whole bytes it had sent in a read it was serving. Each part is read
only where the segment had such an exchange (R84, R136). -/
structure BusCut where
  answers : List BusAnswer
  sent : Nat
  deriving DecidableEq, Repr

/-- The commands, one for each row of spec/opcode_table.json. -/
inductive Instr
  /-- POWER_ON (R178). -/
  | powerOn
  /-- RST_ASSERT (R178). -/
  | rstAssert
  /-- RST_RELEASE (R178). -/
  | rstRelease
  /-- RESTART_TAKEN (R178): the transmission of the RESTART reply ends. -/
  | restartTaken
  /-- FRAME_DISCARDED (R166): `bytes` arrived on HRX since the receiver last changed, and then, where `lowStop` is
  set, a byte with its stop bit low. `cut` is read by a SEGMENT_DISABLE that the rescan finds. -/
  | frameDiscarded (bytes : List Byte) (lowStop : Bool) (cut : BusCut)
  /-- HRX_GAP_TIMEOUT (R166): `bytes` arrived, and then a gap of more than 5 ms followed. -/
  | hrxGapTimeout (bytes : List Byte) (cut : BusCut)
  /-- UNKNOWN_KIND_FRAME (R167): a good frame whose kind is not a request kind. -/
  | unknownKindFrame (kind tag : Byte) (body : List Byte)
  /-- HTX_FRAME_SENT (R170): the transmission of a frame ends. -/
  | htxFrameSent
  /-- STATUS (R177). -/
  | status (tag : Byte) (body : List Byte)
  /-- RESTART (R178). -/
  | restart (tag : Byte) (body : List Byte)
  /-- SYNC (R175). -/
  | sync (tag : Byte) (body : List Byte)
  /-- ACK_REPORTS (R173). -/
  | ackReports (tag : Byte) (body : List Byte)
  /-- RESEND_REPORTS (R174). -/
  | resendReports (tag : Byte) (body : List Byte)
  /-- SEGMENT_CONFIGURE (R154). -/
  | segmentConfigure (tag : Byte) (body : List Byte)
  /-- SEGMENT_ENABLE (R157). -/
  | segmentEnable (tag : Byte) (body : List Byte)
  /-- SEGMENT_DISABLE (R158); `cut` is what the bus exchange in flight had reached. -/
  | segmentDisable (tag : Byte) (body : List Byte) (cut : BusCut)
  /-- SEGMENT_RECOVER (R163). -/
  | segmentRecover (tag : Byte) (body : List Byte)
  /-- SUBMIT (R8). -/
  | submit (tag : Byte) (body : List Byte)
  /-- APPEND (R11). -/
  | append (tag : Byte) (body : List Byte)
  /-- CANCEL (R40). -/
  | cancel (tag : Byte) (body : List Byte)
  /-- QUERY_JOB (R14). -/
  | queryJob (tag : Byte) (body : List Byte)
  /-- ROSTER_READ (R96). -/
  | rosterRead (tag : Byte) (body : List Byte)
  /-- ROSTER_ADD_FIXED (R92). -/
  | rosterAddFixed (tag : Byte) (body : List Byte)
  /-- ROSTER_REMOVE (R94). -/
  | rosterRemove (tag : Byte) (body : List Byte)
  /-- ENROL_SWEEP (R107). -/
  | enrolSweep (tag : Byte) (body : List Byte)
  /-- ENROL_FORGET (R119). -/
  | enrolForget (tag : Byte) (body : List Byte)
  /-- POST_REPLY (R133). -/
  | postReply (tag : Byte) (body : List Byte)
  /-- WITHDRAW_REPLY (R134). -/
  | withdrawReply (tag : Byte) (body : List Byte)
  /-- STAGING_TIMER_EXPIRY (R12). -/
  | stagingTimerExpiry (slot : Slot)
  /-- DEADLINE_EXPIRY (R13, R38, R39, R82). -/
  | deadlineExpiry (slot : Slot)
  /-- BACKOFF_TIMER_EXPIRY (R36). -/
  | backoffTimerExpiry (g : Seg)
  /-- ROLL_TIMER_EXPIRY (R97). -/
  | rollTimerExpiry (g : Seg)
  /-- HOLD_TIMER_EXPIRY (R132). -/
  | holdTimerExpiry (g : Seg)
  /-- RETRY_WAIT_EXPIRY (R115). -/
  | retryWaitExpiry (g : Seg)
  /-- JOB_ATTEMPT_END (R74): the answers of the attempt's bytes, and whether the stop that closes it was made. Answers
  that do not end the attempt say how far it has come: its address bytes acknowledged so far have their presence effect
  (R79, log entry 7). -/
  | jobAttemptEnd (g : Seg) (bus : List BusAnswer) (stopMade : Bool)
  /-- CANCEL_AT_BYTE_BOUNDARY (R81): the answers up to the byte in flight, the read byte received after it where
  R81 case 3 asks for one, and whether the stop was made. -/
  | cancelAtByteBoundary (g : Seg) (bus : List BusAnswer) (next : Option BusAnswer) (stopMade : Bool)
  /-- PROBE_END (R99). -/
  | probeEnd (g : Seg) (bus : List BusAnswer) (stopMade : Bool)
  /-- CALL_END (R109). -/
  | callEnd (g : Seg) (bus : List BusAnswer) (stopMade : Bool)
  /-- IDENTIFY_END (R110). -/
  | identifyEnd (g : Seg) (bus : List BusAnswer) (stopMade : Bool)
  /-- ASSIGN_END (R113). -/
  | assignEnd (g : Seg) (bus : List BusAnswer) (stopMade : Bool)
  /-- PARK_END (R114). -/
  | parkEnd (g : Seg) (bus : List BusAnswer) (stopMade : Bool)
  /-- FORGET_END (R119). -/
  | forgetEnd (g : Seg) (bus : List BusAnswer) (stopMade : Bool)
  /-- NOTICE_QUERY_END (R141 to R144). -/
  | noticeQueryEnd (g : Seg) (bus : List BusAnswer) (stopMade : Bool)
  /-- NOTICE_LINE_ASSERTED (R140). -/
  | noticeLineAsserted (g : Seg)
  /-- NOTICE_LINE_RELEASED (R142, R143). -/
  | noticeLineReleased (g : Seg)
  /-- BUS_START_SEEN (R53). -/
  | busStartSeen (g : Seg)
  /-- CLOCK_FALL_DATA_HIGH (R53). -/
  | clockFallDataHigh (g : Seg)
  /-- BUS_STOP_SEEN (R58); `sent` is the whole bytes sent of a read being served. -/
  | busStopSeen (g : Seg) (sent : Nat)
  /-- BUS_REPEATED_START_SEEN (R58); `sent` as for a stop. -/
  | busRepeatedStartSeen (g : Seg) (sent : Nat)
  /-- FREE_TIME_ELAPSED (R53). -/
  | freeTimeElapsed (g : Seg)
  /-- LINES_HIGH_1MS (R53, R58, R162); `sent` as for a stop. -/
  | linesHigh1ms (g : Seg) (sent : Nat)
  /-- STUCK_DETECTED (R54): `line` is the clock when the clock is low, and the data line when the clock is high and
  the data line low. -/
  | stuckDetected (g : Seg) (line : BusLine) (cut : BusCut)
  /-- STRETCH_TIMEOUT (R51); `afterEighthBit` says that the eighth bit of the byte in flight had been sent. -/
  | stretchTimeout (g : Seg) (afterEighthBit : Bool)
  /-- RECOVERY_END (R61): what each clock pulse showed. -/
  | recoveryEnd (g : Seg) (pulses : List RecoveryPulse)
  /-- ADDRESS_MATCH (R124): an address byte from another controller. -/
  | addressMatch (g : Seg) (address : Byte)
  /-- INBOUND_BYTE (R126). -/
  | inboundByte (g : Seg) (b : Byte)
  /-- SERVED_READ_END (R129): the whole bytes sent. -/
  | servedReadEnd (g : Seg) (sent : Nat)
  deriving DecidableEq, Repr

end Sys2Proof
end

