-- ==== Sys2Proof/Decode.lean ====
section
/-!
DEFINITION. The command that a word spells by the bits of spec/opcode_table.json. No row of that table gives any bits.
-/

namespace Sys2Proof

/-- The command a word of `nbits` bits spells: none, since the table gives no row any bits (log entry 24). -/
def decodeTableWord (_nbits _w : Nat) : Option Instr := none

end Sys2Proof
end

