-- ==== Sys2Proof/Machine/State.lean ====
section
/-!
DEFINITION. The state of the Broker as plain data, the reasons a step can stop, and the state right after reset.
-/

namespace Sys2Proof.Machine

/-! ### The Job Table (Section Two) -/

/-- A job id: slot and generation (R1). -/
structure JobId where
  slot : Slot
  gen : BitVec 8
  deriving DecidableEq, Repr

/-- The states of a slot that holds a job (Table 2-2); a FREE slot holds none. -/
inductive JobState
  | staging | held | queued | active | backoff | ended
  deriving DecidableEq, Repr

/-- Priority class of a job. -/
inductive JobClass
  | urgent | routine
  deriving DecidableEq, Repr

/-- What a job addresses: a roster handle, or a raw station address (2.4). -/
inductive Target
  | handle (h : Handle)
  | raw (a : Addr)
  deriving DecidableEq, Repr

/-- The predecessor field of a job record (Table 2-1). -/
inductive Predecessor
  | absent
  | job (id : JobId)
  | failed
  deriving DecidableEq, Repr

/-- One step of a job (2.2). -/
inductive JobStep
  | write (n : Nat)
  | read (n : Nat)
  | countedRead (max : Nat)
  deriving DecidableEq, Repr

/-- The end statuses of a job (Table 5-4). -/
inductive EndStatus
  | ok | noResponse | dataNak | lost | checkMismatch | countTooLarge | stretchTimeout | busFault
  | deadline | cancelled | predecessorFailed | targetMissing | targetMoved | rosterRemoved
  | segmentDisabled | stageTimeout
  deriving DecidableEq, Repr

/-- The outcome record of an ENDED job (2.2, R86). -/
structure JobOutcome where
  status : EndStatus
  written : Nat
  read : List Byte
  checkByte : Option Byte
  overdue : Bool
  finalRefused : Bool
  checkMismatch : Bool
  attempts : Nat
  deriving DecidableEq, Repr

/-- The record of a slot that holds a job (Table 2-1), with its write data and its two timers. A timer is
stopped (`none`) or holds the time it was set to, in ms (log entry 1). -/
structure Job where
  state : JobState
  segment : Seg
  target : Target
  cls : JobClass
  retryBudget : Nat
  deadline : Option Nat
  check : Bool
  predecessor : Predecessor
  steps : List JobStep
  writeTotal : Nat
  staged : Nat
  readReserve : Nat
  blocksHeld : Nat
  attempts : Nat
  resolved : Option Addr
  overdue : Bool
  cancelPending : Bool
  removalPending : Bool
  outcome : Option JobOutcome
  writeData : List Byte
  deadlineTimer : Option Nat
  stagingTimer : Option Nat
  deriving DecidableEq, Repr

/-- One slot of the Job Table. A slot without a job is FREE and keeps its generation only (R1, R3). -/
structure JobSlot where
  generation : BitVec 8
  job : Option Job
  deriving DecidableEq, Repr

/-- One entry of the held set: the dependent and its predecessor's job id (R23). -/
structure HeldEntry where
  slot : Slot
  predecessor : JobId
  deriving DecidableEq, Repr

/-! ### Segment configuration (Section Eleven) -/

/-- Read policy of a station (R122). -/
inductive ReadPolicy
  | refuse | hold
  deriving DecidableEq, Repr

/-- The configuration items of one station (Table 11-1). -/
structure StationConfig where
  address : Addr
  enable : Bool
  policy : ReadPolicy
  deriving DecidableEq, Repr

/-- The configuration items of one segment (Table 11-1). Limits in ms, the backoff unit in units of 0.5 ms, the
roll interval in s. -/
structure SegConfig where
  profile : Config.SpeedProfile
  stretchLimit : Nat
  backoffUnit : Nat
  station0 : StationConfig
  station1 : StationConfig
  holdLimit : Nat
  broadcastAccept : Bool
  enrolAddress : Addr
  poolFirst : Addr
  poolLast : Addr
  noticeService : Bool
  noticeAddress : Addr
  rollInterval : Nat
  deriving DecidableEq, Repr

/-- The defaults of Table 11-1. -/
def SegConfig.default : SegConfig where
  profile := .p100
  stretchLimit := 25
  backoffUnit := 4
  station0 := ⟨0x10, false, .refuse⟩
  station1 := ⟨0x11, false, .refuse⟩
  holdLimit := 20
  broadcastAccept := false
  enrolAddress := 0x5C
  poolFirst := 0x20
  poolLast := 0x3F
  noticeService := false
  noticeAddress := 0x19
  rollInterval := 0

/-! ### The Segment Controller, the bus monitor and Dispatch (Sections Three and Four) -/

/-- Segment Controller states (Table 4-4). -/
inductive ScState
  | disabled | idle | contending | controlling | serving | recovering | fault
  deriving DecidableEq, Repr

/-- Bus monitor states (Table 4-2). -/
inductive MonitorState
  | off | unknown | free | busy | stuck
  deriving DecidableEq, Repr

/-- The activity handed to the Segment Controller (3.3). A probe names the entry it was handed for and the address
probed; the entry becomes `none` when that entry is removed (R100). -/
inductive Activity
  | job (slot : Slot)
  | notice
  | enrol
  | probe (entry : Option Handle) (address : Addr)
  deriving DecidableEq, Repr

/-! ### The Enrolment Engine (Section Seven) -/

/-- Sweep states (Table 7-3). -/
inductive SweepState
  | none | pending | calling | identifying | assigning | parking | forgetting
  deriving DecidableEq, Repr

/-- Which request made the work (Table 7-3). -/
inductive WorkKind
  | sweep | forget
  deriving DecidableEq, Repr

/-- An identity with its class code, as IDENTIFY gave them (Table 7-3). -/
structure Found where
  identity : Identity
  cls : Byte
  deriving DecidableEq, Repr

/-- End causes of a sweep or a FORGET (Table 7-5). -/
inductive SweepCause
  | complete | rosterFull | poolExhausted | sweepLimit | corrupt | interrupted | aborted | forgotten
  deriving DecidableEq, Repr

/-- The sweep state of one segment (Table 7-3). The retry wait holds the backoff unit it was started with. -/
structure Engine where
  state : SweepState
  work : Option WorkKind
  current : Option Found
  chosen : Option Addr
  assigned : Nat
  identRetries : Nat
  cmdRetries : Nat
  losses : Nat
  retryWait : Option Nat
  deriving DecidableEq, Repr

/-- The values of Table 7-3 after any reset. -/
def Engine.reset : Engine where
  state := .none
  work := .none
  current := .none
  chosen := .none
  assigned := 0
  identRetries := 0
  cmdRetries := 0
  losses := 0
  retryWait := .none

/-- A waiting SWEEP_ENDED claim (R117). -/
structure SweepClaim where
  cause : SweepCause
  assigned : Nat
  ends : Nat
  deriving DecidableEq, Repr

/-- A waiting ENROL_CONFLICT claim (R118). -/
structure ConflictClaim where
  found : Found
  handle : Handle
  segment : Seg
  conflicts : Nat
  deriving DecidableEq, Repr

/-- A waiting fault claim (R161): `recovered` is the kind of the latest change. -/
structure FaultClaim where
  recovered : Bool
  line : Option BusLine
  faults : Nat
  recoveries : Nat
  deriving DecidableEq, Repr

/-! ### The Station Unit (Section Eight) -/

/-- A posted reply: 1 to 64 bytes, STANDING or ONE_SHOT (Table 8-1). -/
structure PostedReply where
  bytes : List Byte
  standing : Bool
  deriving DecidableEq, Repr

/-- An inbound message (R125). `reported` says that its INBOUND claim has been admitted. -/
structure Message where
  record : RecordIx
  address : Addr
  bytes : List Byte
  truncated : Bool
  endedByRestart : Bool
  reported : Bool
  deriving DecidableEq, Repr

/-- A station record but for its configuration items and its inbound list (Table 8-1). -/
structure Station where
  posted : Option PostedReply
  served : Nat
  lastLength : Nat
  lastOverread : Nat
  expired : Nat
  waits : Nat
  deriving DecidableEq, Repr

/-- A station record after any reset (Table 8-1). -/
def Station.reset : Station := ⟨.none, 0, 0, 0, 0, 0⟩

/-- What the target role is doing for another controller (Section Eight). -/
inductive Service
  /-- No service: the Segment Controller is not SERVING. -/
  | none
  /-- A repeated start was seen; the address byte that follows is awaited (R58). -/
  | awaiting
  /-- The address was refused, or the read is over: the Broker takes no further part (R124, R132). -/
  | passive
  /-- The message in progress (R125). -/
  | receiving (m : Message)
  /-- A read being served from a snapshot; `current` says that the station's posted reply is still the one the
  snapshot was taken of (R129). -/
  | reading (ix : StationIx) (snapshot : PostedReply) (current : Bool)
  /-- A held read with the hold timer, in ms (R131). -/
  | holding (ix : StationIx) (timer : Nat)
  deriving DecidableEq, Repr

/-! ### The Notice Monitor (Section Nine) -/

/-- Notice service states (Table 9-1). -/
inductive NoticeState
  | off | watching | querying | paused
  deriving DecidableEq, Repr

/-- A waiting notice claim (R145). -/
inductive NoticeClaim
  | notice (address : Addr) (cause : Byte) (handle : Option Handle) (mismatches : Nat)
  | unclaimed (corrupt stretched : Bool)
  deriving DecidableEq, Repr

/-- The notice service of one segment (R139). -/
structure Notice where
  state : NoticeState
  retries : Nat
  claim : Option NoticeClaim
  deriving DecidableEq, Repr

/-! ### A segment -/

/-- Everything the Broker keeps for one segment, and the level of its notice line. -/
structure Segment where
  config : SegConfig
  sc : ScState
  monitor : MonitorState
  stopSeen : Bool
  stretch : Option Bool
  recoverRequested : Bool
  urgent : List Slot
  routine : List Slot
  current : Option Slot
  handed : Option Activity
  fairness : Nat
  backoffTimer : Option Nat
  backoffExpired : Bool
  engine : Engine
  sweepClaim : Option SweepClaim
  conflictClaim : Option ConflictClaim
  faultClaim : Option FaultClaim
  stations : Vector Station 2
  inbound : Vector (List Message) 3
  service : Service
  notice : Notice
  noticeLine : Bool
  rollTimer : Option Nat
  deriving DecidableEq, Repr

/-- A segment after a reset (Table 11-2), with the configuration and the notice line level given. -/
def Segment.after (config : SegConfig) (noticeLine : Bool) : Segment where
  config := config
  sc := .disabled
  monitor := .off
  stopSeen := false
  stretch := none
  recoverRequested := false
  urgent := []
  routine := []
  current := none
  handed := none
  fairness := 0
  backoffTimer := none
  backoffExpired := false
  engine := Engine.reset
  sweepClaim := none
  conflictClaim := none
  faultClaim := none
  stations := Vector.replicate 2 Station.reset
  inbound := Vector.replicate 3 []
  service := .none
  notice := ⟨.off, 0, none⟩
  noticeLine := noticeLine
  rollTimer := none

/-! ### The Roster (Section Six) -/

/-- How an entry was made (R87). -/
inductive EntryKind
  | fixed
  | enrolled (found : Found)
  deriving DecidableEq, Repr

/-- Entry states (Table 6-2). -/
inductive EntryState
  | unconfirmed | present | missing
  deriving DecidableEq, Repr

/-- A roster entry (Table 6-1). -/
structure Entry where
  segment : Seg
  address : Addr
  kind : EntryKind
  state : EntryState
  misses : Nat
  probeDue : Bool
  claimWaiting : Bool
  created : Bool
  moved : Bool
  changes : Nat
  deriving DecidableEq, Repr

/-! ### The Host Link Controller (Section Twelve) -/

/-- The three station reports (R135). -/
inductive StationReport
  | waiting | served | expired
  deriving DecidableEq, Repr

/-- The claimant objects of Table 12-2. The INBOUND claims of one inbound list stand in the order of its messages. -/
inductive Claimant
  | jobEnded (slot : Slot)
  | inbound (g : Seg) (r : RecordIx)
  | station (g : Seg) (ix : StationIx) (what : StationReport)
  | notice (g : Seg)
  | sweepEnded (g : Seg)
  | conflict (g : Seg)
  | fault (g : Seg)
  | roster (h : Handle)
  | hlc
  deriving DecidableEq, Repr

/-- Kind, tag and body of a host frame (R165). -/
structure Frame where
  kind : Byte
  tag : Byte
  body : List Byte
  deriving DecidableEq, Repr

/-- One entry of the reply cache (R168). -/
structure CacheEntry where
  tag : Byte
  reply : Frame
  deriving DecidableEq, Repr

/-- One entry of the Report Queue (R171); `sent` is SENT, else WAITING. -/
structure Report where
  kind : Byte
  seq : BitVec 8
  body : List Byte
  owner : Claimant
  sent : Bool
  deriving DecidableEq, Repr

/-- Restart modes (R178). -/
inductive RestartMode
  | cold | warm
  deriving DecidableEq, Repr

/-- The reasons STARTED carries (R178). -/
inductive StartReason
  | powerOn | rstPin | cold | warm
  deriving DecidableEq, Repr

/-! ### The whole state -/

/-- The state of the Broker and the queue of commands that wait. -/
structure State where
  slots : Vector JobSlot 32
  heldSet : List HeldEntry
  accepted : List Slot
  segs : Vector Segment 4
  roster : Vector (Option Entry) 64
  poolFree : Nat
  rx : Option (List Byte)
  cache : List CacheEntry
  replies : List Frame
  reports : List Report
  nextSeq : BitVec 8
  claims : List Claimant
  attn : Bool
  htx : Option Frame
  restart : Option RestartMode
  rstLow : Bool
  rate1 : Bool
  rate0 : Bool
  choiceDue : List Seg
  pending : List Instr
  deriving DecidableEq, Repr

/-- Reasons to stop that the spec gives the machine: none. The Broker has no exception and no state in which it
takes no further step (FAULT is a state of a Segment Controller). -/
inductive Fault
  deriving DecidableEq, Repr

/-- Reasons for which the model gives a command no meaning. -/
inductive Refusal
  /-- Raised by an arm of `exec` for a row that has no meaning yet; safe. No arm raises it. -/
  | notModelled (mnemonic : String)
  deriving DecidableEq, Repr

/-- The STARTED report (R178, Table 13-6): reason, and the free count of 96. -/
def startedFrame (reason : Byte) : Frame := ⟨0x80, 0, [reason, byteOf Config.poolBlocks]⟩

/-- The machine right after power-on (R178): the cold values of every block, STARTED admitted with sequence 0,
ATTN asserted, and the transmitter sending STARTED as its first frame. -/
def State.reset : State where
  slots := Vector.replicate 32 ⟨0, none⟩
  heldSet := []
  accepted := []
  segs := Vector.replicate 4 (Segment.after SegConfig.default false)
  roster := Vector.replicate 64 none
  poolFree := Config.poolBlocks
  rx := none
  cache := []
  replies := []
  reports := [⟨0x80, 0, [0, byteOf Config.poolBlocks], .hlc, true⟩]
  nextSeq := 1
  claims := []
  attn := true
  htx := some (startedFrame 0)
  restart := none
  rstLow := false
  rate1 := false
  rate0 := false
  choiceDue := []
  pending := []

end Sys2Proof.Machine
end

