-- ==== Sys2Proof/Machine/Codes.lean ====
section
/-!
DEFINITION. The codes of Section Thirteen: the enumerated fields (Table 13-1), the reply statuses (Table 13-2), the
request and report kinds (Tables 13-4 and 13-6) and the end statuses (Table 5-4).
-/

namespace Sys2Proof.Machine

/-! ### Codes the Broker sends -/

/-- Table 13-1, segment. -/
def segCode (g : Seg) : Byte := byteOf g.val

/-- Table 13-1, off/on settings and flags sent as 00h or 01h. -/
def boolCode (b : Bool) : Byte := if b then 1 else 0

/-- Table 13-1, job state of a slot that holds a job. -/
def jobStateCode : JobState → Byte
  | .staging => 1
  | .held => 2
  | .queued => 3
  | .active => 4
  | .backoff => 5
  | .ended => 6

/-- Table 5-4. -/
def endStatusCode : EndStatus → Byte
  | .ok => 0x00
  | .noResponse => 0x01
  | .dataNak => 0x02
  | .lost => 0x03
  | .checkMismatch => 0x04
  | .countTooLarge => 0x05
  | .stretchTimeout => 0x06
  | .busFault => 0x07
  | .deadline => 0x08
  | .cancelled => 0x09
  | .predecessorFailed => 0x0A
  | .targetMissing => 0x0B
  | .targetMoved => 0x0C
  | .rosterRemoved => 0x0D
  | .segmentDisabled => 0x0E
  | .stageTimeout => 0x0F

/-- Table 13-1, Segment Controller state. -/
def scCode : ScState → Byte
  | .disabled => 0
  | .idle => 1
  | .contending => 2
  | .controlling => 3
  | .serving => 4
  | .recovering => 5
  | .fault => 6

/-- Table 13-1, bus monitor state. -/
def monitorCode : MonitorState → Byte
  | .off => 0
  | .unknown => 1
  | .free => 2
  | .busy => 3
  | .stuck => 4

/-- Table 13-1, sweep state. -/
def sweepCode : SweepState → Byte
  | .none => 0
  | .pending => 1
  | .calling => 2
  | .identifying => 3
  | .assigning => 4
  | .parking => 5
  | .forgetting => 6

/-- Table 13-1, notice service state. -/
def noticeCode : NoticeState → Byte
  | .off => 0
  | .watching => 1
  | .querying => 2
  | .paused => 3

/-- Table 13-1, sweep end cause. -/
def causeCode : SweepCause → Byte
  | .complete => 0
  | .rosterFull => 1
  | .poolExhausted => 2
  | .sweepLimit => 3
  | .corrupt => 4
  | .interrupted => 5
  | .aborted => 6
  | .forgotten => 7

/-- Table 13-1, fault line. -/
def faultLineCode : Option BusLine → Byte
  | some .clock => 0x00
  | some .data => 0x01
  | none => 0xFF

/-- Table 13-1, STARTED reason. -/
def reasonCode : StartReason → Byte
  | .powerOn => 0
  | .rstPin => 1
  | .cold => 2
  | .warm => 3

/-- Table 13-1, speed profile. -/
def profileCode : Config.SpeedProfile → Byte
  | .p100 => 0
  | .p400 => 1
  | .p1000 => 2

/-- Table 13-1, read policy. -/
def policyCode : ReadPolicy → Byte
  | .refuse => 0
  | .hold => 1

/-- A station address sent as one byte; its top bit is 0. -/
def addrCode (a : Addr) : Byte := a.setWidth 8

/-- A handle sent as one byte, FFh for none (Table 13-6). -/
def handleCode : Option Handle → Byte
  | some h => byteOf h.val
  | none => 0xFF

/-- A two-byte field, least significant byte first (13.1). -/
def word16 (n : Nat) : List Byte := [byteOf n, byteOf (n / 256)]

/-! ### Codes the Broker reads -/

/-- Table 13-1, segment. -/
def segOf (b : Byte) : Option Seg := if h : b.toNat < 4 then some ⟨b.toNat, h⟩ else none

/-- A slot number of a request, 0 to 31 (R2). -/
def slotOf (b : Byte) : Option Slot := if h : b.toNat < 32 then some ⟨b.toNat, h⟩ else none

/-- A roster handle of a request, 0 to 63. -/
def handleOf (b : Byte) : Option Handle := if h : b.toNat < 64 then some ⟨b.toNat, h⟩ else none

/-- A station index of a request, 0 or 1 (R133). -/
def stationOf (b : Byte) : Option StationIx := if h : b.toNat < 2 then some ⟨b.toNat, h⟩ else none

/-- Table 13-1, off/on settings. -/
def boolOf (b : Byte) : Option Bool := if b = 0 then some false else if b = 1 then some true else none

/-- Table 13-1, class. -/
def classOf (b : Byte) : Option JobClass := if b = 0 then some .urgent else if b = 1 then some .routine else none

/-- Table 13-1, restart mode. -/
def restartModeOf (b : Byte) : Option RestartMode := if b = 0 then some .cold else if b = 1 then some .warm else none

/-- Table 13-1, read policy. -/
def policyOf (b : Byte) : Option ReadPolicy := if b = 0 then some .refuse else if b = 1 then some .hold else none

/-- Table 13-1, speed profile. -/
def profileOf (b : Byte) : Option Config.SpeedProfile :=
  if b = 0 then some .p100 else if b = 1 then some .p400 else if b = 2 then some .p1000 else none

/-- The station addresses of a range written 08h to 77h. -/
def inAddrRange (n : Nat) : Bool := decide (0x08 ≤ n) && decide (n ≤ 0x77)

/-- A byte that lies in 08h to 77h, as a station address. -/
def addrOf (b : Byte) : Option Addr := if inAddrRange b.toNat then some (b.setWidth 7) else none

/-! ### Reply statuses and kinds -/

/-- The statuses of a refusal (Table 13-2); OK is not among them. -/
inductive Status
  | malformed | unknownKind | badValue | noSlot | poolShort | stale | notStaging | alreadyEnded
  | predecessorFailed | segmentEnabled | segmentDisabled | busy | notFound | inUse | conflict
  | reservedAddress | stillPresent | rosterFull
  deriving DecidableEq, Repr

/-- Table 13-2. -/
def statusCode : Status → Byte
  | .malformed => 0x01
  | .unknownKind => 0x02
  | .badValue => 0x03
  | .noSlot => 0x04
  | .poolShort => 0x05
  | .stale => 0x06
  | .notStaging => 0x07
  | .alreadyEnded => 0x08
  | .predecessorFailed => 0x09
  | .segmentEnabled => 0x0A
  | .segmentDisabled => 0x0B
  | .busy => 0x0C
  | .notFound => 0x0D
  | .inUse => 0x0E
  | .conflict => 0x0F
  | .reservedAddress => 0x10
  | .stillPresent => 0x11
  | .rosterFull => 0x12

/-- The owning block's answer to a request: OK with what follows the status byte, or a refusal (R169). -/
inductive Answer
  | ok (payload : List Byte)
  | refused (status : Status)
  deriving DecidableEq, Repr

/-- The kind of a refusal reply (R169). -/
def refusalKind : Byte := 0x7F

/-- What an OK reply's kind adds to the request's (R169). -/
def okKindOffset : Byte := 0x40

/-- The reply frame of an answer (R169). -/
def replyFrame (kind tag : Byte) : Answer → Frame
  | .ok payload => ⟨kind + okKindOffset, tag, 0 :: payload⟩
  | .refused st => ⟨refusalKind, tag, [kind, statusCode st]⟩

/-- The request kinds of Table 13-4. -/
def requestKinds : List Byte :=
  [0x01, 0x02, 0x03, 0x04, 0x05, 0x10, 0x11, 0x12, 0x13, 0x20, 0x21, 0x22, 0x23, 0x30, 0x31, 0x32, 0x33, 0x34,
    0x38, 0x39]

/-- The kind of a RESTART's OK reply. -/
def restartReplyKind : Byte := 0x42

end Sys2Proof.Machine
end

