-- ==== Sys2Proof/Machine/Crc.lean ====
section
/-!
DEFINITION. The two check computations of the manual: the segment check byte (R63) and the host frame check
(R165).
-/

namespace Sys2Proof.Machine

/-- One of the eight shifts of R63. -/
def crc8Shift (r : BitVec 8) : BitVec 8 :=
  if r.msb then (r <<< 1) ^^^ 0x2F else r <<< 1

/-- Eight shifts. -/
def crc8Shifts (r : BitVec 8) : BitVec 8 :=
  crc8Shift (crc8Shift (crc8Shift (crc8Shift (crc8Shift (crc8Shift (crc8Shift (crc8Shift r)))))))

/-- The register after one covered byte (R63). -/
def crc8Byte (r b : BitVec 8) : BitVec 8 := crc8Shifts (r ^^^ b)

/-- The register at each start (R63). -/
def crc8Init : BitVec 8 := 0xFF

/-- The check byte over the bytes of a transaction (R63). -/
def crc8 (bytes : List Byte) : Byte := bytes.foldl crc8Byte crc8Init

/-- One of the eight shifts of R165. -/
def crc16Shift (r : BitVec 16) : BitVec 16 :=
  if r.msb then (r <<< 1) ^^^ 0x1021 else r <<< 1

/-- The register after one covered byte (R165). -/
def crc16Byte (r : BitVec 16) (b : Byte) : BitVec 16 :=
  let r := r ^^^ (b.setWidth 16 <<< 8)
  crc16Shift (crc16Shift (crc16Shift (crc16Shift (crc16Shift (crc16Shift (crc16Shift (crc16Shift r)))))))

/-- The check of a host frame over its length, kind, tag and body bytes (R165). -/
def crc16 (bytes : List Byte) : BitVec 16 := bytes.foldl crc16Byte 0xFFFF

end Sys2Proof.Machine
end

