-- ==== Sys2Proof/Machine/Ops.lean ====
section
/-!
DEFINITION. The named operations over the state: reading and writing a segment, a slot and a roster entry, marking a
choice point, the reply queue and reply cache, the bus monitor's moves, and the address byte.
-/

namespace Sys2Proof.Machine

/-! ### One home for each register -/

/-- The state of a segment. -/
def State.seg (s : State) (g : Seg) : Segment := s.segs[g.val]

/-- Change one segment. -/
def State.modSeg (s : State) (g : Seg) (f : Segment → Segment) : State :=
  { s with segs := s.segs.set g.val (f (s.seg g)) }

/-- The job in a slot, if it is not FREE. -/
def State.jobAt (s : State) (i : Slot) : Option Job := s.slots[i.val].job

/-- The generation of a slot (R1). -/
def State.genAt (s : State) (i : Slot) : BitVec 8 := s.slots[i.val].generation

/-- The job id of the job now in a slot (R1). -/
def State.idAt (s : State) (i : Slot) : JobId := ⟨i, s.genAt i⟩

/-- Put a job record into a slot, keeping the generation. -/
def State.putJob (s : State) (i : Slot) (j : Option Job) : State :=
  { s with slots := s.slots.set i.val { s.slots[i.val] with job := j } }

/-- Change the job record of a slot; a FREE slot stays FREE. -/
def State.modJob (s : State) (i : Slot) (f : Job → Job) : State := s.putJob i ((s.jobAt i).map f)

/-- A roster entry. -/
def State.entryAt (s : State) (h : Handle) : Option Entry := s.roster[h.val]

/-- Write a roster entry, or free its handle. -/
def State.putEntry (s : State) (h : Handle) (e : Option Entry) : State :=
  { s with roster := s.roster.set h.val e }

/-- Change a roster entry; a free handle stays free. -/
def State.modEntry (s : State) (h : Handle) (f : Entry → Entry) : State := s.putEntry h ((s.entryAt h).map f)

/-- Every segment, in the order A to D. -/
def allSegs : List Seg := [0, 1, 2, 3]

/-- Every slot number, lowest first. -/
def allSlots : List Slot := List.finRange 32

/-- Every handle, lowest first. -/
def allHandles : List Handle := List.finRange 64

/-- A count that stops at 255. -/
def bump (n : Nat) : Nat := min (n + 1) Config.countLimit

/-- The blocks needed for `n` bytes (R148, R149). -/
def blocksFor (n : Nat) : Nat := (n + (Config.blockBytes - 1)) / Config.blockBytes

/-- The blocks an inbound message holds (R149). -/
def messageBlocks (m : Message) : Nat := blocksFor m.bytes.length

/-! ### Choice points -/

/-- An event of R29 happens on a segment: the choice point is made, if its conditions hold, when the action's own
changes are done (log entry 4). Two events of one action make at most one choice. -/
def State.markChoice (s : State) (g : Seg) : State :=
  if g ∈ s.choiceDue then s else { s with choiceDue := s.choiceDue ++ [g] }

/-! ### Jobs -/

/-- A live job is one in STAGING, HELD, QUEUED, ACTIVE or BACKOFF (R93, R155). -/
def Job.live (j : Job) : Bool := j.state != .ended

/-- A job id is stale when its slot is FREE or holds another generation (R2). -/
def State.staleId (s : State) (id : JobId) : Bool :=
  (s.jobAt id.slot).isNone || s.genAt id.slot != id.gen

/-- The class list of a segment (R21). -/
def Segment.classList (sg : Segment) : JobClass → List Slot
  | .urgent => sg.urgent
  | .routine => sg.routine

/-- Put a slot number at the tail of a class list (R21). -/
def Segment.enqueue (sg : Segment) (c : JobClass) (i : Slot) : Segment :=
  match c with
  | .urgent => { sg with urgent := sg.urgent ++ [i] }
  | .routine => { sg with routine := sg.routine ++ [i] }

/-- Set the fairness count to 0 when the ROUTINE list is empty (R31). -/
def Segment.fairnessAfter (sg : Segment) : Segment :=
  if sg.routine.isEmpty then { sg with fairness := 0 } else sg

/-- Take a slot number out of a class list, wherever it stands (R21). -/
def Segment.dequeue (sg : Segment) (c : JobClass) (i : Slot) : Segment :=
  match c with
  | .urgent => { sg with urgent := sg.urgent.filter (· != i) }.fairnessAfter
  | .routine => { sg with routine := sg.routine.filter (· != i) }.fairnessAfter

/-! ### The bus -/

/-- The address byte of a station address and direction (R47). -/
def addressByte (a : Addr) (read : Bool) : Byte := (a.setWidth 8 <<< 1) ||| boolCode read

/-- The station address in an address byte (R47). -/
def addressOf (b : Byte) : Addr := (b >>> 1).setWidth 7

/-- The read direction of an address byte (R47). -/
def isRead (b : Byte) : Bool := b.getLsbD 0

/-- The monitor sees a stop: the free time is counted from it in BUSY and STUCK (R53). -/
def Segment.seeStop (sg : Segment) : Segment :=
  if sg.monitor = .busy ∨ sg.monitor = .stuck then { sg with stopSeen := true } else sg

/-- The monitor turns BUSY (R53). -/
def Segment.seeStart (sg : Segment) : Segment := { sg with monitor := .busy, stopSeen := false }

/-- A start is seen: from every state but OFF the monitor is BUSY (R53). -/
def Segment.startSeen (sg : Segment) : Segment := if sg.monitor = .off then sg else sg.seeStart

/-- An activity waiting in CONTENDING drives its start when the monitor is FREE (R50, R55); its own start turns the
monitor BUSY. -/
def Segment.driveStart (sg : Segment) : Segment :=
  if sg.sc = .contending ∧ sg.monitor = .free then
    { sg.seeStart with sc := .controlling, stretch := none }
  else sg

/-- Hand an activity: IDLE to CONTENDING, and the start at once when the monitor is FREE (R57). -/
def Segment.hand (sg : Segment) (a : Activity) : Segment :=
  { sg with sc := .contending, handed := some a }.driveStart

/-- The clock line is pulled by the Broker for a held read (R52). -/
def Segment.holdsClock (sg : Segment) : Bool :=
  match sg.service with
  | .holding _ _ => true
  | _ => false

/-- The segment is enabled. -/
def Segment.enabled (sg : Segment) : Bool := sg.sc != .disabled

/-- The configuration of a station record. -/
def SegConfig.station (c : SegConfig) (ix : StationIx) : StationConfig :=
  if ix = 0 then c.station0 else c.station1

/-- The reserved addresses of a segment: each station whose enable is on, the enrolment address and the notice
address (R155). -/
def SegConfig.reserved (c : SegConfig) : List Addr :=
  (if c.station0.enable then [c.station0.address] else []) ++
  (if c.station1.enable then [c.station1.address] else []) ++ [c.enrolAddress, c.noticeAddress]

/-- The record index of a station record. -/
def recordOf (ix : StationIx) : RecordIx := ⟨ix.val, by omega⟩

/-- Record index 2, the broadcast inbox. -/
def inboxRecord : RecordIx := 2

/-- A station record of a segment. -/
def Segment.station (sg : Segment) (ix : StationIx) : Station := sg.stations[ix.val]

/-- Change a station record. -/
def Segment.modStation (sg : Segment) (ix : StationIx) (f : Station → Station) : Segment :=
  { sg with stations := sg.stations.set ix.val (f (sg.station ix)) }

/-- An inbound list of a segment. -/
def Segment.inboundAt (sg : Segment) (r : RecordIx) : List Message := sg.inbound[r.val]

/-- Change an inbound list. -/
def Segment.modInbound (sg : Segment) (r : RecordIx) (f : List Message → List Message) : Segment :=
  { sg with inbound := sg.inbound.set r.val (f (sg.inboundAt r)) }

/-! ### The Roster -/

/-- The entry of a segment that holds an address (R101). -/
def State.entryByAddress (s : State) (g : Seg) (a : Addr) : Option Handle :=
  allHandles.find? fun h => match s.entryAt h with
    | some e => e.segment == g && e.address == a
    | none => false

/-- The identity an entry holds, present for ENROLLED only (R87). -/
def Entry.identity (e : Entry) : Option Identity :=
  match e.kind with
  | .fixed => none
  | .enrolled f => some f.identity

/-- The entry, on any segment, that holds an identity (R101). -/
def State.entryByIdentity (s : State) (d : Identity) : Option Handle :=
  allHandles.find? fun h => match s.entryAt h with
    | some e => e.identity == some d
    | none => false

/-- The free handle with the lowest number (R88). -/
def State.freeHandle (s : State) : Option Handle := allHandles.find? fun h => (s.entryAt h).isNone

/-- The entry of a segment with probe due set and the lowest handle (R98). -/
def State.probeHandle (s : State) (g : Seg) : Option Handle :=
  allHandles.find? fun h => match s.entryAt h with
    | some e => e.segment == g && e.probeDue
    | none => false

/-! ### Replies -/

/-- Queue a reply (R169). -/
def State.queueReply (s : State) (f : Frame) : State := { s with replies := s.replies ++ [f] }

/-- The cached reply of a tag (R168). -/
def State.cached (s : State) (tag : Byte) : Option Frame :=
  (s.cache.find? fun e => e.tag == tag).map (·.reply)

/-- Enter a reply in the cache; the oldest entry goes when the cache is full (R168). -/
def State.enterCache (s : State) (tag : Byte) (f : Frame) : State :=
  { s with cache := (if s.cache.length < Config.maxCache then s.cache else s.cache.drop 1) ++ [⟨tag, f⟩] }

end Sys2Proof.Machine
end

