-- ==== Sys2Proof/Machine/Flags.lean ====
section
/-!
DEFINITION. The flags bytes of Section Thirteen.
-/

namespace Sys2Proof.Machine

/-- A flags byte from the value of each bit, bit 0 first; the other bits are 0 (R180). -/
def flagsByte (b0 b1 b2 b3 b4 b5 : Bool) : Byte :=
  boolCode b0 ||| (boolCode b1 <<< 1) ||| (boolCode b2 <<< 2) ||| (boolCode b3 <<< 3) |||
    (boolCode b4 <<< 4) ||| (boolCode b5 <<< 5)

/-- Bits 1 and 0 of the entry flags byte: 00 UNCONFIRMED, 01 PRESENT, 10 MISSING (13.1). -/
def entryStateBits : EntryState → Bool × Bool
  | .unconfirmed => (false, false)
  | .present => (false, true)
  | .missing => (true, false)

/-- The kind bit of the entry flags byte: 1 for ENROLLED (13.1). -/
def Entry.isEnrolled (e : Entry) : Bool :=
  match e.kind with
  | .fixed => false
  | .enrolled _ => true

/-- The entry flags byte of ROSTER_READ: state, kind and probe due (13.1). -/
def entryFlags (e : Entry) : Byte :=
  flagsByte (entryStateBits e.state).2 (entryStateBits e.state).1 e.isEnrolled e.probeDue false false

/-- The entry flags byte of ROSTER_CHANGED: bit 3 is 0, bit 4 created and bit 5 moved (13.1). -/
def entryChangeFlags (e : Entry) : Byte :=
  flagsByte (entryStateBits e.state).2 (entryStateBits e.state).1 e.isEnrolled false e.created e.moved

/-- The job flags byte of JOB_ENDED (13.1). -/
def outcomeFlags (o : JobOutcome) : Byte :=
  flagsByte o.overdue o.finalRefused o.checkMismatch o.checkByte.isSome false false

/-- The job flags byte of QUERY_JOB: bit 0 only (Table 13-5). -/
def queryFlags (j : Job) : Byte := flagsByte j.overdue false false false false false

/-- The flags byte of INBOUND (Table 13-6). -/
def messageFlags (m : Message) : Byte := flagsByte m.truncated m.endedByRestart false false false false

/-- The flags byte of NOTICE_UNCLAIMED (Table 13-6). -/
def unclaimedFlags (corrupt stretched : Bool) : Byte := flagsByte corrupt stretched false false false false

/-- The flags byte of the POST_REPLY reply (Table 13-5). -/
def postFlags (replaced released : Bool) : Byte := flagsByte replaced released false false false false

end Sys2Proof.Machine
end

