-- ==== Sys2Proof/Machine/Reports.lean ====
section
/-!
DEFINITION. Reports: how each is formed from its claimant (Table 13-6), what its claimant gives up when it enters the
Report Queue, and the claim list (R172).
-/

namespace Sys2Proof.Machine

/-! ### Report bodies -/

/-- Target form and target byte (Table 13-6, JOB_ENDED). -/
def targetBytes : Target → List Byte
  | .handle h => [0, byteOf h.val]
  | .raw a => [1, addrCode a]

/-- A station address used, or FFh (Table 13-6, JOB_ENDED). -/
def resolvedCode : Option Addr → Byte
  | some a => addrCode a
  | none => 0xFF

/-- The body of JOB_ENDED (R86). -/
def jobEndedBody (i : Slot) (gen : BitVec 8) (j : Job) (o : JobOutcome) : List Byte :=
  [byteOf i.val, gen, segCode j.segment] ++ targetBytes j.target ++
    [resolvedCode j.resolved, endStatusCode o.status, outcomeFlags o, byteOf o.attempts] ++ word16 o.written ++
    [byteOf o.read.length, o.checkByte.getD 0] ++ o.read

/-- The body of INBOUND (R128). -/
def inboundBody (g : Seg) (m : Message) : List Byte :=
  [segCode g, byteOf m.record.val, addrCode m.address, messageFlags m, byteOf m.bytes.length] ++ m.bytes

/-- A held read of the station is in progress (R135). -/
def Segment.holdsReadOf (sg : Segment) (ix : StationIx) : Bool :=
  match sg.service with
  | .holding k _ => k == ix
  | _ => false

/-- The bodies of the station reports (R135). -/
def stationBody (g : Seg) (sg : Segment) (ix : StationIx) : StationReport → List Byte
  | .waiting =>
    [segCode g, byteOf ix.val, addrCode (sg.config.station ix).address, byteOf (sg.station ix).waits,
      boolCode (sg.holdsReadOf ix)]
  | .served =>
    [segCode g, byteOf ix.val, addrCode (sg.config.station ix).address, byteOf (sg.station ix).served,
      byteOf (sg.station ix).lastLength, byteOf (sg.station ix).lastOverread,
      boolCode (sg.station ix).posted.isSome]
  | .expired =>
    [segCode g, byteOf ix.val, addrCode (sg.config.station ix).address, byteOf (sg.station ix).expired]

/-- The kinds of the station reports (Table 13-6). -/
def stationKind : StationReport → Byte
  | .waiting => 0x83
  | .served => 0x84
  | .expired => 0x85

/-- Kind and body of a notice report (R141, R142). -/
def noticeReport (g : Seg) : NoticeClaim → Byte × List Byte
  | .notice a cause h n => (0x86, [segCode g, addrCode a, cause, handleCode h, byteOf n])
  | .unclaimed corrupt stretched => (0x87, [segCode g, unclaimedFlags corrupt stretched])

/-- Identity and class code, for ENROLLED only. -/
def kindBytes : EntryKind → List Byte
  | .fixed => []
  | .enrolled f => f.identity.toList ++ [f.cls]

/-- The body of ROSTER_CHANGED (R91). -/
def rosterChangedBody (h : Handle) (e : Entry) : List Byte :=
  [byteOf h.val, segCode e.segment, addrCode e.address, entryChangeFlags e, byteOf e.changes] ++ kindBytes e.kind

/-- The body of SWEEP_ENDED (R117). -/
def sweepEndedBody (g : Seg) (c : SweepClaim) : List Byte :=
  [segCode g, causeCode c.cause, byteOf c.assigned, byteOf c.ends]

/-- The body of ENROL_CONFLICT (R118). -/
def conflictBody (g : Seg) (c : ConflictClaim) : List Byte :=
  segCode g :: c.found.identity.toList ++ [c.found.cls, byteOf c.handle.val, segCode c.segment, byteOf c.conflicts]

/-- Kind and body of a fault report (R161). -/
def faultReport (g : Seg) (c : FaultClaim) : Byte × List Byte :=
  (if c.recovered then 0x8C else 0x8B, [segCode g, faultLineCode c.line, byteOf c.faults, byteOf c.recoveries])

/-- The oldest message of an inbound list whose claim waits. -/
def firstUnreported (ms : List Message) : Option Message := ms.find? fun m => !m.reported

/-- The report a claimant's claim becomes, formed from the claimant as it stands (R172). -/
def formReport (s : State) : Claimant → Option (Byte × List Byte)
  | .jobEnded i => (s.jobAt i).bind fun j => j.outcome.map fun o => (0x81, jobEndedBody i (s.genAt i) j o)
  | .inbound g r => (firstUnreported ((s.seg g).inboundAt r)).map fun m => (0x82, inboundBody g m)
  | .station g ix what => some (stationKind what, stationBody g (s.seg g) ix what)
  | .notice g => (s.seg g).notice.claim.map (noticeReport g)
  | .sweepEnded g => (s.seg g).sweepClaim.map fun c => (0x89, sweepEndedBody g c)
  | .conflict g => (s.seg g).conflictClaim.map fun c => (0x8A, conflictBody g c)
  | .fault g => (s.seg g).faultClaim.map (faultReport g)
  | .roster h => (s.entryAt h).map fun e => (0x88, rosterChangedBody h e)
  | .hlc => none

/-! ### What the claimant gives up at the report's entry into the queue -/

/-- Mark the oldest unreported message of a list as reported. -/
def markReported : List Message → List Message
  | [] => []
  | m :: ms => if m.reported then m :: markReported ms else { m with reported := true } :: ms

/-- The count a station report carries returns to 0 (R135). -/
def Station.clearCount (st : Station) : StationReport → Station
  | .waiting => { st with waits := 0 }
  | .served => { st with served := 0 }
  | .expired => { st with expired := 0 }

/-- The notice claim is taken: after a NOTICE claim a service still in QUERYING passes to WATCHING (R145). -/
def Notice.takeClaim (n : Notice) : Notice :=
  match n.claim with
  | some (.notice _ _ _ _) => { n with claim := none, state := if n.state = .querying then .watching else n.state }
  | _ => { n with claim := none }

/-- Event 10 of R29: the service is left WATCHING with the line asserted. -/
def State.noticeChoice (s : State) (g : Seg) : State :=
  if (s.seg g).notice.state = .watching ∧ (s.seg g).noticeLine then s.markChoice g else s

/-- The claimant's side of a claim's entry into the Report Queue. -/
def clearClaim (s : State) : Claimant → State
  | .jobEnded _ => s
  | .inbound g r => s.modSeg g (·.modInbound r markReported)
  | .station g ix what => s.modSeg g (·.modStation ix (·.clearCount what))
  | .notice g => (s.modSeg g fun sg => { sg with notice := sg.notice.takeClaim }).noticeChoice g
  | .sweepEnded g => s.modSeg g fun sg => { sg with sweepClaim := none }
  | .conflict g => s.modSeg g fun sg => { sg with conflictClaim := none }
  | .fault g => s.modSeg g fun sg => { sg with faultClaim := none }
  | .roster h => s.modEntry h fun e => { e with claimWaiting := false, created := false, moved := false, changes := 0 }
  | .hlc => s

/-! ### The claim list -/

/-- A report enters the tail of the Report Queue as WAITING with the next sequence (R171, R172), and ATTN is asserted
(R176). -/
def State.enqueueReport (s : State) (owner : Claimant) (kind : Byte) (body : List Byte) : State :=
  { s with
    reports := s.reports ++ [⟨kind, s.nextSeq, body, owner, false⟩]
    nextSeq := s.nextSeq + 1
    attn := true }

/-- The oldest claim enters the Report Queue. -/
def takeOldestClaim (s : State) : State :=
  match s.claims with
  | [] => s
  | c :: rest =>
    match formReport s c with
    | none => { s with claims := rest }
    | some r => (clearClaim { s with claims := rest } c).enqueueReport c r.1 r.2

/-- `n` times, as long as there is room and a claim waits. -/
def takeClaims : Nat → State → State
  | 0, s => s
  | n + 1, s =>
    if s.reports.length < Config.maxReports ∧ s.claims ≠ [] then takeClaims n (takeOldestClaim s) else s

/-- Whenever the queue has room and claims wait, the oldest enters, until the queue is full or the list empty
(R172). -/
def State.fillQueue (s : State) : State := takeClaims s.claims.length s

/-- Place a claim at the end of the claim list (R172). -/
def State.placeClaim (s : State) (c : Claimant) : State := { s with claims := s.claims ++ [c] }.fillQueue

/-- Place a claim unless the claimant has one waiting (R135). -/
def State.placeClaimOnce (s : State) (c : Claimant) : State := if c ∈ s.claims then s else s.placeClaim c

/-- A claim withdrawn by its owner leaves the list (R172). -/
def State.withdrawClaim (s : State) (c : Claimant) : State := { s with claims := s.claims.filter (· != c) }

end Sys2Proof.Machine
end

