-- ==== Sys2Proof/Machine/RosterOps.lean ====
section
/-!
DEFINITION. The Roster's shared operations: ROSTER_CHANGED claims (R91) and the two signals (R90).
-/

namespace Sys2Proof.Machine

/-- The entry after a change that is claimed: a waiting claim takes the change, else a claim with a count of 1
begins (R91). -/
def Entry.noteChange (e : Entry) (created moved : Bool) : Entry :=
  if e.claimWaiting then
    { e with changes := bump e.changes, created := e.created || created, moved := e.moved || moved }
  else { e with claimWaiting := true, changes := 1, created := created, moved := moved }

/-- An entry places or updates its ROSTER_CHANGED claim (R91). -/
def State.rosterChange (s : State) (h : Handle) (created moved : Bool) : State :=
  match s.entryAt h with
  | none => s
  | some e =>
    let s := s.putEntry h (some (e.noteChange created moved))
    if e.claimWaiting then s else s.placeClaim (.roster h)

/-- Write an entry whose state may have changed, and claim the change of state (R90). -/
def State.updateEntry (s : State) (h : Handle) (old new : Entry) : State :=
  let s := s.putEntry h (some new)
  if old.state = new.state then s else s.rosterChange h false false

/-- The entry's side of the acknowledged signal (R90). -/
def Entry.acknowledged (e : Entry) : Entry := { e with misses := 0, state := .present }

/-- The acknowledged signal (R90). -/
def State.ackSignal (s : State) (h : Handle) : State :=
  match s.entryAt h with
  | none => s
  | some e => s.updateEntry h e e.acknowledged

/-- The entry's side of the miss signal (R90). -/
def Entry.missed (e : Entry) : Entry :=
  if e.state = .missing then e
  else if e.misses + 1 < Config.missLimit then { e with misses := e.misses + 1 }
  else { e with misses := 0, state := .missing }

/-- The miss signal (R90). -/
def State.missSignal (s : State) (h : Handle) : State :=
  match s.entryAt h with
  | none => s
  | some e => s.updateEntry h e e.missed

end Sys2Proof.Machine
end

