-- ==== Sys2Proof/Machine/JobEnds.lean ====
section
/-!
DEFINITION. Becoming QUEUED, placement, and the end of a job with its dependents (R9, R10, R15, R24, R25).
-/

namespace Sys2Proof.Machine

/-- A job becomes QUEUED at the tail of its list, which is event 2 of R29 on its segment (R21). -/
def State.becomeQueued (s : State) (i : Slot) : State :=
  match s.jobAt i with
  | none => s
  | some j =>
    ((s.modJob i fun j => { j with state := .queued, predecessor := .absent }).modSeg j.segment
      (·.enqueue j.cls i)).markChoice j.segment

/-- What an end reports besides the status (R75, R86). -/
structure EndCounts where
  written : Nat
  read : List Byte
  checkByte : Option Byte
  finalRefused : Bool
  mismatch : Bool
  deriving DecidableEq, Repr

/-- Bytes written 0 and read data of length 0. -/
def EndCounts.nothing : EndCounts := ⟨0, [], none, false, false⟩

/-- The record of a job that has ended (R15, steps 1 to 3). -/
def Job.ended (j : Job) (st : EndStatus) (c : EndCounts) : Job :=
  { j with
    state := .ended
    outcome := some ⟨st, c.written, c.read, c.checkByte, j.overdue, c.finalRefused, c.mismatch, j.attempts⟩
    deadlineTimer := none
    stagingTimer := none }

/-- Dispatch lets go of its current job: the backoff timer stops and backoff expired is cleared (R37). -/
def Segment.dropCurrent (sg : Segment) : Segment :=
  { sg with current := none, backoffTimer := none, backoffExpired := false }

/-- The slot is taken out of wherever it stood (R15, step 4). The end of a job in BACKOFF is event 8 of R29. -/
def State.leavePlace (s : State) (i : Slot) (j : Job) : State :=
  match j.state with
  | .queued => s.modSeg j.segment (·.dequeue j.cls i)
  | .held => { s with heldSet := s.heldSet.filter (·.slot != i) }
  | .active => s.modSeg j.segment (·.dropCurrent)
  | .backoff => (s.modSeg j.segment (·.dropCurrent)).markChoice j.segment
  | .staging => s
  | .ended => s

/-- The predecessor field of a STAGING dependent when the job it names ends (R10). -/
def Job.visited (j : Job) (id : JobId) (ok : Bool) : Job :=
  if j.state = .staging ∧ j.predecessor = .job id then
    { j with predecessor := if ok then .absent else .failed }
  else j

/-- Every STAGING dependent of a job that ends is visited (R10). -/
def State.visitStaging (s : State) (id : JobId) (ok : Bool) : State :=
  { s with slots := s.slots.map fun sl => { sl with job := sl.job.map (·.visited id ok) } }

/-- One job ends, without its HELD dependents (R15). A job already ENDED is not ended again. -/
def State.endOne (s : State) (i : Slot) (st : EndStatus) (c : EndCounts) : State :=
  match s.jobAt i with
  | none => s
  | some j =>
    if j.state = .ended then s
    else
      (((s.leavePlace i j).putJob i (some (j.ended st c))).visitStaging (s.idAt i) (st = .ok)).placeClaim (.jobEnded i)

/-- A HELD job that waits on the job `id`. -/
def State.waitsOn (s : State) (i : Slot) (id : JobId) : Bool :=
  match s.jobAt i with
  | some j => j.state == .held && j.predecessor == .job id
  | none => false

/-- The job `id` has ended with a status other than OK. -/
def State.endedNotOk (s : State) (id : JobId) : Bool :=
  !s.staleId id && match (s.jobAt id.slot).bind (·.outcome) with
    | some o => o.status != .ok
    | none => false

/-- A HELD job that waits on a job that has ended with a status other than OK. -/
def State.waitsOnFailed (s : State) (i : Slot) : Bool :=
  match s.jobAt i with
  | some j => j.state == .held && match j.predecessor with
    | .job id => s.endedNotOk id
    | _ => false
  | none => false

/-- A HELD job is released: it leaves the held set and becomes QUEUED (R24). -/
def State.release (s : State) (i : Slot) : State :=
  { s with heldSet := s.heldSet.filter (·.slot != i) }.becomeQueued i

/-- The HELD dependents of a job that ended OK are released in order of acceptance (R24). -/
def State.releaseDependents (s : State) (id : JobId) : State :=
  s.accepted.foldl (fun s i => if s.waitsOn i id then s.release i else s) s

/-- The cascade: every HELD job that waits, directly or through other HELD jobs, on a job that did not end OK ends
PREDECESSOR_FAILED, in order of acceptance (R25). Each predecessor was accepted before its dependent, so one pass
finds them all. -/
def State.cascade (s : State) : State :=
  s.accepted.foldl (fun s i => if s.waitsOnFailed i then s.endOne i .predecessorFailed .nothing else s) s

/-- A job ends: its own end and claim, and then its HELD dependents' release or cascade (R15, R24, R25). -/
def State.endJob (s : State) (i : Slot) (st : EndStatus) (c : EndCounts) : State :=
  if st = .ok then (s.endOne i st c).releaseDependents (s.idAt i) else (s.endOne i st c).cascade

/-- What placement makes of a job whose data is complete (R9). -/
inductive Placement
  | queue
  | hold (id : JobId)
  | fail
  deriving DecidableEq, Repr

/-- The job `id` has not ended: it is in STAGING, HELD, QUEUED, ACTIVE or BACKOFF. -/
def State.liveId (s : State) (id : JobId) : Bool :=
  !s.staleId id && match s.jobAt id.slot with
    | some p => p.live
    | none => false

/-- Placement by the predecessor field as it stands (R9). -/
def State.placement (s : State) (j : Job) : Placement :=
  match j.predecessor with
  | .absent => .queue
  | .failed => .fail
  | .job id => if s.liveId id then .hold id else if s.endedNotOk id then .fail else .queue

/-- The Job Table places a job whose write data is complete; its staging timer stops (R9). -/
def State.placeJob (s : State) (i : Slot) : State :=
  match s.jobAt i with
  | none => s
  | some j =>
    let s := s.modJob i fun j => { j with stagingTimer := none }
    match s.placement j with
    | .queue => s.becomeQueued i
    | .hold id =>
      { s.modJob i (fun j => { j with state := .held }) with heldSet := s.heldSet ++ [⟨i, id⟩] }
    | .fail => s.endJob i .predecessorFailed .nothing

/-- The number of jobs that are ENDED; a request that ends jobs reports how many it added. -/
def State.endedCount (s : State) : Nat :=
  (allSlots.filter fun i => match s.jobAt i with
    | some j => j.state == .ended
    | none => false).length

/-- The live jobs whose record meets `p`, in order of acceptance. -/
def State.liveJobs (s : State) (p : Job → Bool) : List Slot :=
  s.accepted.filter fun i => match s.jobAt i with
    | some j => j.live && p j
    | none => false

/-- The end of an ACTIVE job's wait: its attempt is abandoned before it starts (R57, R80). From CONTENDING the
Segment Controller passes to IDLE; from SERVING or RECOVERING it stays. -/
def State.abandonWait (s : State) (g : Seg) : State :=
  if (s.seg g).sc = .contending then
    (s.modSeg g fun sg => { sg with sc := .idle, handed := none }).markChoice g
  else s.modSeg g fun sg => { sg with handed := none }

/-- The attempt of a job has driven its start (R81, R82). -/
def Segment.started (sg : Segment) (i : Slot) : Bool := sg.sc == .controlling && sg.handed == some (.job i)

end Sys2Proof.Machine
end

