-- ==== Sys2Proof/Machine/Transaction.lean ====
section
/-!
DEFINITION. A transaction the Broker drives as controller: its description (R59), the course it takes under the
answers of the bus, byte by byte (R68 to R73), with its check byte (R63, R64), and the way it ends.
-/

namespace Sys2Proof.Machine

/-- A part of a transaction description (R59). -/
inductive Part
  | write (bytes : List Byte)
  | read (n : Nat)
  | counted (max : Nat)
  deriving DecidableEq, Repr

/-- A transaction description (R59). -/
structure TxDesc where
  address : Addr
  parts : List Part
  check : Bool
  deriving DecidableEq, Repr

/-- The direction of a part's address byte (R47). -/
def Part.isRead : Part → Bool
  | .write _ => false
  | .read _ => true
  | .counted _ => true

/-- The way a transaction's bytes end, before its stop. -/
inductive TxStop
  /-- The last byte of the transaction is over (R68). -/
  | finished
  /-- A count byte above max was refused (R72). -/
  | countAboveMax
  | addressRefused
  | dataRefused
  /-- Lost in the first address byte to the controller that sent `winner` (R48). -/
  | lostFirst (winner : Byte)
  | lostLater
  deriving DecidableEq, Repr

/-- The byte that comes next on the bus, or the end. -/
inductive TxPhase
  /-- The address byte of a part, and the parts after it. -/
  | address (p : Part) (rest : List Part)
  /-- The write bytes of the part still to send, the first now. -/
  | data (bytes : List Byte) (rest : List Part)
  /-- The check byte after a last part that is a write. -/
  | checkOut
  /-- The count byte of a counted read part. -/
  | count (max : Nat) (rest : List Part)
  /-- `n` bytes of a read part still to receive. -/
  | recv (n : Nat) (rest : List Part)
  /-- The check byte after a last part that is a read. -/
  | checkIn
  | ended (how : TxStop)
  deriving DecidableEq, Repr

/-- What a transaction has done so far (R59). -/
structure TxRun where
  phase : TxPhase
  /-- The number of the part in hand, 0 first. -/
  part : Nat
  /-- Write bytes acknowledged. -/
  written : Nat
  /-- Read bytes received, in order, the check byte not among them. -/
  read : List Byte
  /-- The check byte register (R63). -/
  crc : Byte
  /-- Address bytes acknowledged. -/
  addressAcks : Nat
  /-- The last byte the Broker sent was refused. -/
  refusedLast : Bool
  /-- The check byte the Broker sent has had its acknowledge bit. -/
  checkSent : Bool
  /-- The check byte the Broker sent was acknowledged. -/
  checkAcked : Bool
  /-- The check byte received. -/
  checkByte : Option Byte
  /-- The check byte received equals the one computed. -/
  matched : Bool
  deriving DecidableEq, Repr

/-- The start of a transaction: the first part's address byte. -/
def TxRun.start (d : TxDesc) : TxRun where
  phase := match d.parts with
    | [] => .ended .finished
    | p :: rest => .address p rest
  part := 0
  written := 0
  read := []
  crc := crc8Init
  addressAcks := 0
  refusedLast := false
  checkSent := false
  checkAcked := false
  checkByte := none
  matched := false

/-- After the last byte of a write part: the next part's address byte, or the check byte, or the end (R64, R68). -/
def afterWrite (check : Bool) : List Part → TxPhase
  | [] => if check then .checkOut else .ended .finished
  | p :: rest => .address p rest

/-- After the last byte of a read part: the same, with a check byte received (R64, R68). -/
def afterRead (check : Bool) : List Part → TxPhase
  | [] => if check then .checkIn else .ended .finished
  | p :: rest => .address p rest

/-- After an acknowledged address byte (R70, R71, R72). -/
def intoPart (check : Bool) (p : Part) (rest : List Part) : TxPhase :=
  match p with
  | .write [] => afterWrite check rest
  | .write (b :: bs) => .data (b :: bs) rest
  | .read 0 => afterRead check rest
  | .read (n + 1) => .recv (n + 1) rest
  | .counted max => .count max rest

/-- The Broker acknowledges the last byte of a read part: with check on, when it is the final part (R71, R72). Every
other part's last byte is refused. -/
def acksLast (check : Bool) (rest : List Part) : Bool := check && rest.isEmpty

/-- The part number after a phase change: a new part begins at each later address byte. -/
def TxRun.goTo (r : TxRun) (ph : TxPhase) : TxRun :=
  match ph with
  | .address _ _ => { r with phase := ph, part := r.part + 1 }
  | _ => { r with phase := ph }

/-- A loss in the acknowledge bit in which the Broker refuses the read byte `b` (R48, R71). -/
def TxRun.lostRead (r : TxRun) (b : Byte) : TxRun := { r with read := r.read ++ [b], phase := .ended .lostLater }

/-- One answer of the bus to the byte in hand (R69 to R73). A loss needs a bit in which the Broker has released the
data line (R48): a 1 bit of a byte it sends, the repeated start before a later address byte, or the acknowledge bit of
a read byte it refuses. A loss leaves a check byte that was being received out of the result (R64). An answer that this
byte cannot have changes nothing. -/
def TxRun.answer (d : TxDesc) (r : TxRun) (a : BusAnswer) : TxRun :=
  match r.phase with
  | .address p rest =>
    let sent := addressByte d.address p.isRead
    match a with
    | .ack => { r with crc := crc8Byte r.crc sent, addressAcks := r.addressAcks + 1, refusedLast := false }.goTo
        (intoPart d.check p rest)
    | .nak => { r with crc := crc8Byte r.crc sent, refusedLast := true, phase := .ended .addressRefused }
    | .lostTo w => if r.part = 0 ∧ w.toNat < sent.toNat then { r with phase := .ended (.lostFirst w) } else r
    | .lost => if r.part = 0 then r else { r with phase := .ended .lostLater }
    | _ => r
  | .data [] _ => r
  | .data (b :: bs) rest =>
    match a with
    | .ack =>
      let r := { r with crc := crc8Byte r.crc b, written := r.written + 1, refusedLast := false }
      match bs with
      | [] => r.goTo (afterWrite d.check rest)
      | _ :: _ => { r with phase := .data bs rest }
    | .nak =>
      { r with
        crc := crc8Byte r.crc b
        refusedLast := true
        phase := .ended (if bs = [] ∧ rest = [] ∧ d.check = false then .finished else .dataRefused) }
    | .lost => if b = 0 then r else { r with phase := .ended .lostLater }
    | _ => r
  | .checkOut =>
    match a with
    | .ack => { r with checkSent := true, checkAcked := true, refusedLast := false, phase := .ended .finished }
    | .nak => { r with checkSent := true, refusedLast := true, phase := .ended .finished }
    | .lost => if r.crc = 0 then r else { r with phase := .ended .lostLater }
    | _ => r
  | .count max rest =>
    match a with
    | .byte c =>
      let r := { r with read := r.read ++ [c], crc := crc8Byte r.crc c }
      if max < c.toNat then { r with phase := .ended .countAboveMax }
      else if c.toNat = 0 then r.goTo (afterRead d.check rest)
      else { r with phase := .recv c.toNat rest }
    | .byteLost c => if max < c.toNat ∨ (c = 0 ∧ acksLast d.check rest = false) then r.lostRead c else r
    | _ => r
  | .recv n rest =>
    match a with
    | .byte b =>
      let r := { r with read := r.read ++ [b], crc := crc8Byte r.crc b }
      if n ≤ 1 then r.goTo (afterRead d.check rest) else { r with phase := .recv (n - 1) rest }
    | .byteLost b => if n ≤ 1 ∧ acksLast d.check rest = false then r.lostRead b else r
    | _ => r
  | .checkIn =>
    match a with
    | .byte b => { r with checkByte := some b, matched := b == r.crc, phase := .ended .finished }
    | .byteLost _ => { r with phase := .ended .lostLater }
    | _ => r
  | .ended _ => r

/-- The course of a transaction under the answers of the bus. -/
def runTx (d : TxDesc) (bus : List BusAnswer) : TxRun := bus.foldl (TxRun.answer d) (TxRun.start d)

/-- The byte the target sends while a cancel waits for its boundary is refused, so a loss is open in it whatever byte
it is (R48, R81). -/
def TxRun.answerRefused (d : TxDesc) (r : TxRun) (a : BusAnswer) : TxRun :=
  match r.phase, a with
  | .count _ _, .byteLost b => r.lostRead b
  | .recv _ _, .byteLost b => r.lostRead b
  | _, _ => r.answer d a

/-- The course of a transaction up to the byte boundary at which a cancel takes effect (R81). -/
def runTxCancelled (d : TxDesc) (bus : List BusAnswer) : TxRun :=
  match bus.getLast? with
  | none => TxRun.start d
  | some a => (runTx d bus.dropLast).answerRefused d a

/-- What a transaction that had a stretch timeout gives back: it ended early, so it has no check byte and nothing was
compared (R64). -/
def TxRun.afterStretch (r : TxRun) (stretched : Bool) : TxRun :=
  if stretched then { r with checkByte := none, matched := false } else r

/-- The way a transaction ended (R59). `abandoned` is not among them: an abandoned activity has no result. -/
inductive TxWay
  | finished
  | countAboveMax
  | addressRefused
  | dataRefused
  | lostFirst (winner : Byte)
  | lostLater
  | stretchTimeout
  /-- Bus fault; `failedStop` says that it came of a stop that failed (R60), and not of an entry to STUCK or FAULT. -/
  | busFault (failedStop : Bool)
  /-- The stop of a cancel at a byte boundary (R81). -/
  | cancelStop
  deriving DecidableEq, Repr

/-- The result of bytes that ended and of the stop after them (R60). -/
def TxStop.way (stopMade : Bool) : TxStop → TxWay
  | .lostFirst w => .lostFirst w
  | .lostLater => .lostLater
  | .finished => if stopMade then .finished else .busFault true
  | .countAboveMax => if stopMade then .countAboveMax else .busFault true
  | .addressRefused => if stopMade then .addressRefused else .busFault true
  | .dataRefused => if stopMade then .dataRefused else .busFault true

/-- The way a transaction ends: after a stretch timeout by R51, else by its own bytes and stop. `none` where its
bytes have not ended. -/
def TxRun.way (r : TxRun) (stretched : Bool) (stopMade : Bool) : Option TxWay :=
  if stretched then some (if stopMade then .stretchTimeout else .busFault true)
  else match r.phase with
    | .ended how => some (how.way stopMade)
    | _ => none

/-! ### The descriptions of the four kinds of activity -/

/-- The parts of a job's steps; WRITE steps take their bytes from the write data in order (2.2, 5.2). -/
def partsOf : List JobStep → List Byte → List Part
  | [], _ => []
  | .write n :: rest, bytes => .write (bytes.take n) :: partsOf rest (bytes.drop n)
  | .read n :: rest, bytes => .read n :: partsOf rest bytes
  | .countedRead max :: rest, bytes => .counted max :: partsOf rest bytes

/-- The description of a job's attempt at the address it resolved (5.2). -/
def jobDesc (j : Job) : TxDesc := ⟨j.resolved.getD 0, partsOf j.steps j.writeData, j.check⟩

/-- A roll-call probe: one write part of 0 bytes, check off (R98). -/
def probeDesc (a : Addr) : TxDesc := ⟨a, [.write []], false⟩

/-- A notice query: one read part of 2 bytes, check on (R140). -/
def noticeDesc (c : SegConfig) : TxDesc := ⟨c.noticeAddress, [.read 2], true⟩

/-- The enrolment command of a sweep state (Table 7-1). -/
def enrolParts (e : Engine) : List Part :=
  let identity := match e.current with
    | some f => f.identity.toList
    | none => []
  match e.state with
  | .calling => [.write [0xA1]]
  | .identifying => [.write [0xA2], .read 9]
  | .assigning => [.write (0xA3 :: identity ++ [addrCode (e.chosen.getD 0)])]
  | .parking => [.write (0xA4 :: identity)]
  | .forgetting => [.write [0xA5]]
  | .none => []
  | .pending => []

/-- The description of an enrolment command, check on (R104). -/
def enrolDesc (c : SegConfig) (e : Engine) : TxDesc := ⟨c.enrolAddress, enrolParts e, true⟩

/-- The description of the activity handed on a segment. -/
def State.descOf (s : State) (g : Seg) : Activity → TxDesc
  | .job i => match s.jobAt i with
    | some j => jobDesc j
    | none => ⟨0, [], false⟩
  | .notice => noticeDesc (s.seg g).config
  | .enrol => enrolDesc (s.seg g).config (s.seg g).engine
  | .probe _ a => probeDesc a

end Sys2Proof.Machine
end

