-- ==== Sys2Proof/Machine/Choice.lean ====
section
/-!
DEFINITION. Dispatch's choice (R29 to R31), the handing of an attempt with its resolution (R65), and what closes every
action: the choice points it made and the transmitter's choice (R170).
-/

namespace Sys2Proof.Machine

/-! ### Resolution -/

/-- The result of resolution (Table 5-1). -/
inductive Resolution
  | address (a : Addr)
  | ends (st : EndStatus)
  deriving DecidableEq, Repr

/-- Table 5-1, its tests in order; for a raw-address job resolution always succeeds (R65). -/
def State.resolve (s : State) (j : Job) : Resolution :=
  match j.target with
  | .raw a => .address a
  | .handle h =>
    match s.entryAt h with
    | none => .ends .rosterRemoved
    | some e =>
      if j.removalPending then .ends .rosterRemoved
      else if e.state = .missing then .ends .targetMissing
      else if e.segment ≠ j.segment then .ends .targetMoved
      else .address e.address

/-- Hand an activity to the Segment Controller (R57). -/
def State.handActivity (s : State) (g : Seg) (a : Activity) : State := s.modSeg g (·.hand a)

/-- An ACTIVE job's attempt is handed and resolved, both in one action (R65). Where resolution ends the job the
Segment Controller returns to IDLE without touching the lines, which is event 1 of R29. -/
def State.handAttempt (s : State) (g : Seg) (i : Slot) : State :=
  match s.jobAt i with
  | none => s
  | some j =>
    match s.resolve j with
    | .ends st => (s.endJob i st .nothing).markChoice g
    | .address a =>
      (s.modJob i fun j => { j with attempts := j.attempts + 1, resolved := some a }).handActivity g (.job i)

/-! ### The choice -/

/-- The work Dispatch takes at a choice point (Table 3-1). -/
inductive Work
  | resume (i : Slot)
  | query
  | enrol
  | select (c : JobClass) (i : Slot)
  | probe (h : Handle)
  | nothing
  deriving DecidableEq, Repr

/-- A sweep or a FORGET is PENDING or running (R106). -/
def Engine.busy (e : Engine) : Bool := e.state != .none

/-- The job R31 takes: the head of URGENT, or of ROUTINE when URGENT is empty or the fairness count has reached 4. -/
def Segment.selection (sg : Segment) : Work :=
  match sg.urgent, sg.routine with
  | [], [] => .nothing
  | [], r :: _ => .select .routine r
  | u :: _, [] => .select .urgent u
  | u :: _, r :: _ => if sg.fairness = Config.fairnessLimit then .select .routine r else .select .urgent u

/-- Level 1 of Table 3-1: the current job is in BACKOFF with backoff expired set. -/
def State.resumable (s : State) (g : Seg) : Option Slot :=
  match (s.seg g).current with
  | some i =>
    if (s.seg g).backoffExpired ∧ (s.jobAt i).any (·.state == .backoff) then some i else none
  | none => none

/-- Level 2 of Table 3-1. -/
def Segment.queryDue (sg : Segment) : Bool :=
  sg.notice.state == .watching && sg.noticeLine && sg.notice.claim.isNone

/-- Level 3 of Table 3-1; while the retry wait runs no command is ready (R108). -/
def Segment.enrolDue (sg : Segment) : Bool :=
  sg.engine.busy && sg.engine.retryWait.isNone && sg.current.isNone

/-- Level 4 of Table 3-1. -/
def Segment.selectDue (sg : Segment) : Bool :=
  sg.current.isNone && !sg.engine.busy && (!sg.urgent.isEmpty || !sg.routine.isEmpty)

/-- Level 5 of Table 3-1, but for the entry. -/
def Segment.probeAllowed (sg : Segment) : Bool :=
  sg.current.isNone && sg.urgent.isEmpty && sg.routine.isEmpty

/-- The first level of Table 3-1 whose condition holds (R30). -/
def State.pick (s : State) (g : Seg) : Work :=
  match s.resumable g with
  | some i => .resume i
  | none =>
    if (s.seg g).queryDue then .query
    else if (s.seg g).enrolDue then .enrol
    else if (s.seg g).selectDue then (s.seg g).selection
    else if (s.seg g).probeAllowed then
      match s.probeHandle g with
      | some h => .probe h
      | none => .nothing
    else .nothing

/-- The segment's side of a selection: the head leaves its list, becomes the current job, and the fairness count
changes (R31). -/
def Segment.select (sg : Segment) (c : JobClass) (i : Slot) : Segment :=
  match c with
  | .urgent =>
    { sg with
      urgent := sg.urgent.drop 1
      current := some i
      fairness := if sg.routine.isEmpty then 0 else sg.fairness + 1 }
  | .routine => { sg with routine := sg.routine.drop 1, current := some i, fairness := 0 }

/-- The sweep state after a command is handed (R108). -/
def Engine.handed (e : Engine) : Engine :=
  match e.state, e.work with
  | .pending, some .forget => { e with state := .forgetting }
  | .pending, _ => { e with state := .calling }
  | _, _ => e

/-- Dispatch hands the work it took (R30). -/
def State.handWork (s : State) (g : Seg) : Work → State
  | .resume i =>
    ((s.modJob i fun j => { j with state := .active }).modSeg g fun sg => { sg with backoffExpired := false }).handAttempt
      g i
  | .query =>
    (s.modSeg g fun sg => { sg with notice := { sg.notice with state := .querying } }).handActivity g .notice
  | .enrol => (s.modSeg g fun sg => { sg with engine := sg.engine.handed }).handActivity g .enrol
  | .select c i => ((s.modSeg g (·.select c i)).modJob i fun j => { j with state := .active }).handAttempt g i
  | .probe h =>
    match s.entryAt h with
    | some e => s.handActivity g (.probe (some h) e.address)
    | none => s
  | .nothing => s

/-- The conditions of a choice point: the Segment Controller is IDLE and nothing is handed (R29). -/
def Segment.ready (sg : Segment) : Bool := sg.sc == .idle && sg.handed.isNone

/-- A choice point on a segment, if its conditions hold. -/
def State.choicePoint (s : State) (g : Seg) : State :=
  if (s.seg g).ready then s.handWork g (s.pick g) else s

/-- The choice points of an action, in the order of their events, with those that a choice itself gives rise to. -/
def State.settleChoices : Nat → State → State
  | 0, s => s
  | n + 1, s =>
    match s.choiceDue with
    | [] => s
    | g :: rest => State.settleChoices n ({ s with choiceDue := rest }.choicePoint g)

/-- More choices than one action can give rise to: each choice that hands nothing on the bus ends one of at most 32
jobs, and at most four segments are marked at a time. -/
def choiceLimit : Nat := 256

/-! ### The transmitter -/

/-- The SENT entries of the Report Queue (R170). -/
def State.sentCount (s : State) : Nat := (s.reports.filter (·.sent)).length

/-- The oldest WAITING entry becomes SENT. -/
def sendOldest : List Report → List Report
  | [] => []
  | r :: rs => if r.sent then r :: sendOldest rs else { r with sent := true } :: rs

/-- The frame of a report; its tag is its sequence (R165). -/
def Report.frame (r : Report) : Frame := ⟨r.kind, r.seq, r.body⟩

/-- The transmitter, when idle, takes the oldest reply, or else the oldest WAITING report within the window of 16
(R170). -/
def State.transmit (s : State) : State :=
  match s.htx with
  | some _ => s
  | none =>
    match s.replies with
    | f :: rest => { s with htx := some f, replies := rest }
    | [] =>
      match s.reports.find? (fun r => !r.sent) with
      | some r =>
        if s.sentCount < Config.sentWindow then { s with htx := some r.frame, reports := sendOldest s.reports } else s
      | none => s

/-! ### An action -/

/-- What closes every action: its choice points, then the transmitter (log entries 4 and 5). -/
def State.settle (s : State) : State := (State.settleChoices choiceLimit s).transmit

/-- The outcome of an action with the effect `f`. While RST is low every block is held at its reset values, and
nothing else happens (R178). -/
def act (f : State → State) (s : State) : Host.Outcome State Fault Refusal :=
  .next (if s.rstLow then s else (f s).settle)

end Sys2Proof.Machine
end

