-- ==== Sys2Proof/Machine/Operands.lean ====
section
/-!
DEFINITION. The request bodies: their allowed sizes (R179) and the operands read from them (Table 13-4), with the value
checks that the owning rules make before any state is looked at.
-/

namespace Sys2Proof.Machine

/-- The byte of a body at an offset. -/
def byteAt (body : List Byte) (n : Nat) : Byte := body.getD n 0

/-- A two-byte field, least significant byte first (13.1). -/
def wordAt (body : List Byte) (n : Nat) : Nat := (byteAt body n).toNat + 256 * (byteAt body (n + 1)).toNat

/-! ### Body sizes -/

/-- A body of exactly `n` bytes. -/
def sizeIs (n : Nat) (body : List Byte) : Bool := body.length == n

/-- A body of at least `n` bytes. -/
def sizeAtLeast (n : Nat) (body : List Byte) : Bool := decide (n ≤ body.length)

/-- The steps of a SUBMIT that its size test counts: the step count when it lies from 1 to 6, and 0 otherwise
(R179). -/
def countedSteps (body : List Byte) : Nat :=
  let k := (byteAt body 11).toNat
  if 1 ≤ k ∧ k ≤ 6 then k else 0

/-- The size of a SUBMIT body: at least 12 + 2k (Table 13-4). -/
def submitSize (body : List Byte) : Bool := sizeAtLeast (12 + 2 * countedSteps body) body

/-- The size of a SEGMENT_CONFIGURE body: 2 + 2n (Table 13-4). -/
def configureSize (body : List Byte) : Bool := sizeAtLeast 2 body && sizeIs (2 + 2 * (byteAt body 1).toNat) body

/-! ### Lists of pairs -/

/-- The first `n` pairs of bytes. -/
def pairsOf : Nat → List Byte → List (Byte × Byte)
  | 0, _ => []
  | _ + 1, [] => []
  | _ + 1, [_] => []
  | n + 1, a :: b :: rest => (a, b) :: pairsOf n rest

/-! ### SUBMIT -/

/-- A step of a SUBMIT (R5): type, then n or max. -/
def stepOf (p : Byte × Byte) : Option JobStep :=
  if p.1 = 0 then some (.write p.2.toNat)
  else if p.1 = 1 then if p.2 = 0 then none else some (.read p.2.toNat)
  else if p.1 = 2 then if p.2 = 0 ∨ p.2 = 255 then none else some (.countedRead p.2.toNat)
  else none

/-- Every value of a list of options, or none. -/
def allSome {α : Type} : List (Option α) → Option (List α)
  | [] => some []
  | none :: _ => none
  | some a :: rest => (allSome rest).map (a :: ·)

/-- The sum of n over the WRITE steps (2.2). -/
def writeTotalOf : List JobStep → Nat
  | [] => 0
  | .write n :: rest => n + writeTotalOf rest
  | _ :: rest => writeTotalOf rest

/-- The sum over the READ and COUNTED_READ steps (2.2). -/
def readSpaceOf : List JobStep → Nat
  | [] => 0
  | .write _ :: rest => readSpaceOf rest
  | .read n :: rest => n + readSpaceOf rest
  | .countedRead max :: rest => max + 1 + readSpaceOf rest

/-- READ and COUNTED_READ steps. -/
def JobStep.isRead : JobStep → Bool
  | .write _ => false
  | .read _ => true
  | .countedRead _ => true

/-- The read reserve: one more byte when check is on and the last step is a read (2.2). -/
def readReserveOf (steps : List JobStep) (check : Bool) : Nat :=
  readSpaceOf steps + if check && steps.getLast?.any (·.isRead) then 1 else 0

/-- The target of a SUBMIT as named: a handle byte, or a raw address byte on a segment. -/
inductive SubmitTarget
  | handle (h : Byte)
  | raw (g : Seg) (a : Byte)
  deriving DecidableEq, Repr

/-- A SUBMIT whose fields are in range and whose step list is well formed (R5). -/
structure SubmitReq where
  target : SubmitTarget
  cls : JobClass
  retryBudget : Nat
  deadline : Option Nat
  check : Bool
  predecessor : Option JobId
  steps : List JobStep
  data : List Byte
  deriving DecidableEq, Repr

/-- The target form, handle or raw address, and for a raw-address job the segment (R5). -/
def submitTargetOf (body : List Byte) : Option SubmitTarget :=
  if byteAt body 0 = 0 then some (.handle (byteAt body 1))
  else if byteAt body 0 = 1 then (segOf (byteAt body 2)).map fun g => .raw g (byteAt body 1)
  else none

/-- 0 to 7, or 0FFh for 3 (R5). -/
def retryBudgetOf (b : Byte) : Option Nat :=
  if b.toNat ≤ 7 then some b.toNat else if b = 0xFF then some Config.defaultRetryBudget else none

/-- 0 for none, else 1 to 60000 ms (R5). -/
def deadlineOf (n : Nat) : Option (Option Nat) :=
  if n = 0 then some none else if n ≤ Config.maxDeadline then some (some n) else none

/-- Absent, or a job id whose slot is 0 to 31 (R5, 13.3). -/
def predecessorOf (body : List Byte) : Option (Option JobId) :=
  if byteAt body 8 = 0 then some none
  else if byteAt body 8 = 1 then (slotOf (byteAt body 9)).map fun i => some ⟨i, byteAt body 10⟩
  else none

/-- The step list, 1 to 6 steps (R5). -/
def stepsOf (body : List Byte) : Option (List JobStep) :=
  if countedSteps body = 0 then none
  else allSome ((pairsOf (countedSteps body) (body.drop 12)).map stepOf)

/-- A raw-address job to the broadcast address with a read among its steps (R5). -/
def broadcastRead (t : SubmitTarget) (steps : List JobStep) : Bool :=
  match t with
  | .raw _ a => a == 0 && steps.any (·.isRead)
  | .handle _ => false

/-- Row 1 of Table 2-4: the fields of a SUBMIT, or `none` where R5 refuses it BAD_VALUE. -/
def submitReqOf (body : List Byte) : Option SubmitReq :=
  (submitTargetOf body).bind fun t =>
  (classOf (byteAt body 3)).bind fun c =>
  (retryBudgetOf (byteAt body 4)).bind fun rb =>
  (deadlineOf (wordAt body 5)).bind fun dl =>
  (boolOf (byteAt body 7)).bind fun ck =>
  (predecessorOf body).bind fun p =>
  (stepsOf body).bind fun st =>
    let data := body.drop (12 + 2 * countedSteps body)
    if Config.maxWriteTotal < writeTotalOf st ∨ Config.maxReadReserve < readReserveOf st ck ∨
        broadcastRead t st ∨ writeTotalOf st < data.length then none
    else some ⟨t, c, rb, dl, ck, p, st, data⟩

/-- The blocks a SUBMIT needs (2.2). -/
def SubmitReq.blocks (r : SubmitReq) : Nat :=
  blocksFor (writeTotalOf r.steps) + blocksFor (readReserveOf r.steps r.check)

/-! ### Job ids -/

/-- The job id at offsets 0 and 1 of an APPEND, CANCEL or QUERY_JOB; `none` for a slot above 31 (R2). -/
def jobIdOf (body : List Byte) : Option JobId := (slotOf (byteAt body 0)).map fun i => ⟨i, byteAt body 1⟩

/-! ### SEGMENT_CONFIGURE -/

/-- Give one item a value: `none` for an item that Table 11-1 does not hold or a value outside its range (R154). -/
def SegConfig.setItem (c : SegConfig) (item v : Byte) : Option SegConfig :=
  let n := v.toNat
  match item.toNat with
  | 0x00 => (profileOf v).map fun x => { c with profile := x }
  | 0x01 => if 1 ≤ n ∧ n ≤ 100 then some { c with stretchLimit := n } else none
  | 0x02 => if 1 ≤ n ∧ n ≤ 40 then some { c with backoffUnit := n } else none
  | 0x03 => (addrOf v).map fun x => { c with station0 := { c.station0 with address := x } }
  | 0x04 => (boolOf v).map fun x => { c with station0 := { c.station0 with enable := x } }
  | 0x05 => (policyOf v).map fun x => { c with station0 := { c.station0 with policy := x } }
  | 0x06 => (addrOf v).map fun x => { c with station1 := { c.station1 with address := x } }
  | 0x07 => (boolOf v).map fun x => { c with station1 := { c.station1 with enable := x } }
  | 0x08 => (policyOf v).map fun x => { c with station1 := { c.station1 with policy := x } }
  | 0x09 => if 1 ≤ n ∧ n ≤ 200 then some { c with holdLimit := n } else none
  | 0x0A => (boolOf v).map fun x => { c with broadcastAccept := x }
  | 0x0B => (addrOf v).map fun x => { c with enrolAddress := x }
  | 0x0C => (addrOf v).map fun x => { c with poolFirst := x }
  | 0x0D => (addrOf v).map fun x => { c with poolLast := x }
  | 0x0E => (boolOf v).map fun x => { c with noticeService := x }
  | 0x0F => (addrOf v).map fun x => { c with noticeAddress := x }
  | 0x10 => some { c with rollInterval := n }
  | _ => none

/-- Give every item of a list its value. -/
def SegConfig.setItems (c : SegConfig) : List (Byte × Byte) → Option SegConfig
  | [] => some c
  | p :: rest => (c.setItem p.1 p.2).bind fun c => c.setItems rest

/-- The live items (Table 11-1). -/
def liveItem (item : Byte) : Bool := item == 0x0E || item == 0x10

/-- The 17 item values in item-code order (Table 13-5). -/
def SegConfig.items (c : SegConfig) : List Byte :=
  [profileCode c.profile, byteOf c.stretchLimit, byteOf c.backoffUnit,
    addrCode c.station0.address, boolCode c.station0.enable, policyCode c.station0.policy,
    addrCode c.station1.address, boolCode c.station1.enable, policyCode c.station1.policy,
    byteOf c.holdLimit, boolCode c.broadcastAccept, addrCode c.enrolAddress, addrCode c.poolFirst,
    addrCode c.poolLast, boolCode c.noticeService, addrCode c.noticeAddress, byteOf c.rollInterval]

/-- No item is named twice (R154). -/
def itemsDistinct (ps : List (Byte × Byte)) : Bool := decide ((ps.map (·.1)).Nodup)

end Sys2Proof.Machine
end

