-- ==== Sys2Proof/Machine/HostLink.lean ====
section
/-!
DEFINITION. The Host Link Controller: the decoding of a request (R167, R168), frames on the line (R165), the resets
(R178), and the meanings of STATUS, RESTART, SYNC, ACK_REPORTS, RESEND_REPORTS, UNKNOWN_KIND_FRAME, HTX_FRAME_SENT,
POWER_ON, RST_ASSERT, RST_RELEASE and RESTART_TAKEN.
-/

namespace Sys2Proof.Machine

/-! ### Decoding a request -/

/-- Queue a reply and enter it in the cache under its tag (R168). -/
def State.reply (s : State) (kind tag : Byte) (a : Answer) : State :=
  (s.queueReply (replyFrame kind tag a)).enterCache tag (replyFrame kind tag a)

/-- A frame received whole with a good check (R167, Table 12-1). `run` is the owning block's execution with its answer,
or `none` for a kind that is not a request kind; `sizeOk` is row 5. From a RESTART's OK reply to the restart no frame
is taken (R178). After the frame the receiver hunts (R166). -/
def takeFrame (kind tag : Byte) (sizeOk : Bool) (run : State → State × Answer) (s : State) : State :=
  if s.restart.isSome then s
  else
    let s := { s with rx := none }
    if Config.maxReplies ≤ s.replies.length then s
    else
      match s.cached tag with
      | some f => s.queueReply f
      | none =>
        if tag = 0 then s.queueReply (replyFrame kind 0 (.refused .malformed))
        else if sizeOk then (run s).1.reply kind tag (run s).2
        else s.reply kind tag (.refused .malformed)

/-! ### Frames on the line -/

/-- The length byte's value: kind, tag and body (R165). -/
def Frame.length (f : Frame) : Nat := f.body.length + 2

/-- The bytes the frame check covers (R165). -/
def Frame.covered (f : Frame) : List Byte := byteOf f.length :: f.kind :: f.tag :: f.body

/-- A 16-bit check, low byte first (R165). -/
def checkBytes (c : BitVec 16) : List Byte := [c.setWidth 8, (c >>> 8).setWidth 8]

/-- A frame as the line carries it (R165, Table 13-3). -/
def Frame.bytes (f : Frame) : List Byte := Config.frameLead :: f.covered ++ checkBytes (crc16 f.covered)

/-! ### STATUS -/

/-- The six bytes of one segment (Table 13-5). -/
def segmentStatus (sg : Segment) : List Byte :=
  [scCode sg.sc, monitorCode sg.monitor, byteOf sg.urgent.length, byteOf sg.routine.length,
    sweepCode sg.engine.state, noticeCode sg.notice.state]

/-- The number of FREE slots. -/
def State.freeSlots (s : State) : Nat := (allSlots.filter fun i => (s.jobAt i).isNone).length

/-- The answer to STATUS (R177). -/
def statusAnswer (s : State) : Answer :=
  .ok ([byteOf s.freeSlots, byteOf s.poolFree, byteOf s.reports.length, byteOf s.sentCount, byteOf s.claims.length] ++
    allSegs.flatMap fun g => segmentStatus (s.seg g))

/-- STATUS as a request (R177). -/
def requestStatus (tag : Byte) (body : List Byte) (s : State) : State :=
  takeFrame 0x01 tag (sizeIs 0 body) (fun s => (s, statusAnswer s)) s

/-- The meaning of STATUS (R177). -/
def execStatus (tag : Byte) (body : List Byte) (s : State) : Host.Outcome State Fault Refusal :=
  act (requestStatus tag body) s

/-! ### RESTART -/

/-- RESTART executed (R178): from now on no frame is taken. -/
def runRestart (body : List Byte) (s : State) : State × Answer :=
  match restartModeOf (byteAt body 0) with
  | none => (s, .refused .badValue)
  | some m => ({ s with restart := some m }, .ok [])

/-- RESTART as a request (R178). -/
def requestRestart (tag : Byte) (body : List Byte) (s : State) : State :=
  takeFrame 0x02 tag (sizeIs 1 body) (runRestart body) s

/-- The meaning of RESTART (R178). -/
def execRestart (tag : Byte) (body : List Byte) (s : State) : Host.Outcome State Fault Refusal :=
  act (requestRestart tag body) s

/-! ### SYNC -/

/-- Every entry made WAITING. -/
def allWaiting (rs : List Report) : List Report := rs.map fun r => { r with sent := false }

/-- The sequence SYNC answers: the oldest entry's, or the next sequence when the queue is empty (R175). -/
def State.oldestSeq (s : State) : BitVec 8 :=
  match s.reports with
  | [] => s.nextSeq
  | r :: _ => r.seq

/-- SYNC executed (R175). -/
def runSync (s : State) : State × Answer :=
  ({ s with cache := [], reports := allWaiting s.reports }, .ok [s.oldestSeq])

/-- SYNC as a request (R175). -/
def requestSync (tag : Byte) (body : List Byte) (s : State) : State :=
  takeFrame 0x03 tag (sizeIs 0 body) runSync s

/-- The meaning of SYNC (R175). -/
def execSync (tag : Byte) (body : List Byte) (s : State) : Host.Outcome State Fault Refusal :=
  act (requestSync tag body) s

/-! ### ACK_REPORTS -/

/-- The sequence names a SENT entry (R173, R174). -/
def State.namesSent (s : State) (q : BitVec 8) : Bool := s.reports.any fun r => r.seq == q && r.sent

/-- The entries up to and including the one with sequence `q`. -/
def upTo (q : BitVec 8) : List Report → List Report
  | [] => []
  | r :: rs => if r.seq = q then [r] else r :: upTo q rs

/-- The entries after the one with sequence `q`. -/
def after (q : BitVec 8) : List Report → List Report
  | [] => []
  | r :: rs => if r.seq = q then rs else after q rs

/-- The slot named by an acknowledged JOB_ENDED report becomes FREE and returns its blocks (R16). -/
def State.freeSlot (s : State) (i : Slot) : State :=
  match s.jobAt i with
  | none => s
  | some j =>
    if j.state = .ended then
      { s.putJob i none with poolFree := s.poolFree + j.blocksHeld, accepted := s.accepted.filter (· != i) }
    else s

/-- The message of an acknowledged INBOUND report leaves the head of its list and returns its blocks (R128). -/
def State.freeMessage (s : State) (g : Seg) (r : RecordIx) : State :=
  match (s.seg g).inboundAt r with
  | [] => s
  | m :: _ => { s.modSeg g (·.modInbound r (·.drop 1)) with poolFree := s.poolFree + messageBlocks m }

/-- The owner of a removed entry is told (R173). -/
def State.tellOwner (s : State) (r : Report) : State :=
  match r.owner with
  | .jobEnded i => s.freeSlot i
  | .inbound g k => s.freeMessage g k
  | _ => s

/-- ACK_REPORTS executed (R173): the removals and the owners' effects, then the claims that the room allows; ATTN is
released when the queue empties (R176). -/
def runAck (body : List Byte) (s : State) : State × Answer :=
  let q := byteAt body 0
  if s.namesSent q then
    let gone := upTo q s.reports
    let left := after q s.reports
    ((gone.foldl State.tellOwner { s with reports := left, attn := !left.isEmpty }).fillQueue, .ok [byteOf gone.length])
  else (s, .refused .badValue)

/-- ACK_REPORTS as a request (R173). -/
def requestAck (tag : Byte) (body : List Byte) (s : State) : State :=
  takeFrame 0x04 tag (sizeIs 1 body) (runAck body) s

/-- The meaning of ACK_REPORTS (R173). -/
def execAckReports (tag : Byte) (body : List Byte) (s : State) : Host.Outcome State Fault Refusal :=
  act (requestAck tag body) s

/-! ### RESEND_REPORTS -/

/-- The entry with sequence `q` and every entry after it made WAITING. -/
def waitingFrom (q : BitVec 8) : List Report → List Report
  | [] => []
  | r :: rs => if r.seq = q then allWaiting (r :: rs) else r :: waitingFrom q rs

/-- RESEND_REPORTS executed (R174). -/
def runResend (body : List Byte) (s : State) : State × Answer :=
  let q := byteAt body 0
  if s.namesSent q then
    let new := waitingFrom q s.reports
    ({ s with reports := new }, .ok [byteOf (s.sentCount - (new.filter (·.sent)).length)])
  else (s, .refused .badValue)

/-- RESEND_REPORTS as a request (R174). -/
def requestResend (tag : Byte) (body : List Byte) (s : State) : State :=
  takeFrame 0x05 tag (sizeIs 1 body) (runResend body) s

/-- The meaning of RESEND_REPORTS (R174). -/
def execResendReports (tag : Byte) (body : List Byte) (s : State) : Host.Outcome State Fault Refusal :=
  act (requestResend tag body) s

/-! ### UNKNOWN_KIND_FRAME -/

/-- A good frame whose kind is not a request kind (Table 12-1, row 4). -/
def requestUnknown (kind tag : Byte) (s : State) : State :=
  takeFrame kind tag true (fun s => (s, .refused .unknownKind)) s

/-- A frame with an unknown kind arrives; its body is not looked at (R180). A frame of a request kind is not this
event, and changes nothing here (log entry 3). -/
def unknownArrives (kind tag : Byte) (s : State) : State :=
  if requestKinds.contains kind then s else requestUnknown kind tag s

/-- The meaning of UNKNOWN_KIND_FRAME (R167). -/
def execUnknownKindFrame (kind tag : Byte) (_body : List Byte) (s : State) : Host.Outcome State Fault Refusal :=
  act (unknownArrives kind tag) s

/-! ### Resets -/

/-- Every block at the values of Section tables "after reset", with the Report Queue empty: cold values, or what a
warm restart keeps (R17, R103, R147, R164, R178). The pins and the command queue are outside the Broker. The Roster has been told of
every address byte that an attempt had acknowledged by then (R79, log entry 7). -/
def State.cleared (s : State) (warm : Bool) : State where
  slots := s.slots.map fun sl => ⟨if warm then sl.generation else 0, none⟩
  heldSet := []
  accepted := []
  segs := s.segs.map fun sg => Segment.after (if warm then sg.config else SegConfig.default) sg.noticeLine
  roster := s.roster.map fun o =>
    if warm then
      o.map fun e =>
        { e with misses := 0, probeDue := false, claimWaiting := false, created := false, moved := false, changes := 0 }
    else none
  poolFree := Config.poolBlocks
  rx := none
  cache := []
  replies := []
  reports := []
  nextSeq := 0
  claims := []
  attn := false
  htx := none
  restart := none
  rstLow := s.rstLow
  rate1 := s.rate1
  rate0 := s.rate0
  choiceDue := []
  pending := s.pending

/-- STARTED enters the Report Queue at once as its only entry, with sequence 0, and ATTN is asserted (R178). -/
def State.started (s : State) (r : StartReason) : State :=
  s.enqueueReport .hlc 0x80 [reasonCode r, byteOf s.poolFree]

/-- The restart that a RESTART asked for, taken as one action (R178). -/
def State.restarted (s : State) : RestartMode → State
  | .cold => ((s.cleared false).started .cold).transmit
  | .warm => ((s.cleared true).started .warm).transmit

/-- The meaning of POWER_ON (R178). The RST pin is taken as high (log entry 18). -/
def execPowerOn (s : State) : Host.Outcome State Fault Refusal :=
  .next (({ s.cleared false with rstLow := false }.started .powerOn).transmit)

/-- The meaning of RST_ASSERT (R178): every block takes its values and is held at them, with ATTN released and HTX
resting high. -/
def execRstAssert (s : State) : Host.Outcome State Fault Refusal := .next { s.cleared false with rstLow := true }

/-- The meaning of RST_RELEASE (R178). RST that is not low cannot be released. -/
def execRstRelease (s : State) : Host.Outcome State Fault Refusal :=
  .next (if s.rstLow then ({ s with rstLow := false }.started .rstPin).transmit else s)

/-- The restart that the end of the frame on HTX brings: the frame is the RESTART's OK reply (R178). -/
def State.restartDue (s : State) : Option RestartMode :=
  match s.restart, s.htx with
  | some m, some f => if f.kind = restartReplyKind then some m else none
  | _, _ => none

/-- The meaning of RESTART_TAKEN (R178): the RESTART reply's transmission ends and the restart is taken. -/
def execRestartTaken (s : State) : Host.Outcome State Fault Refusal :=
  .next (match s.restartDue with
    | some m => if s.rstLow then s else s.restarted m
    | none => s)

/-! ### HTX_FRAME_SENT -/

/-- A frame's transmission ends; the transmitter's next choice closes the action (R170). The end of the RESTART reply
is the restart (log entry 25). -/
def frameSent (s : State) : State :=
  match s.restartDue with
  | some m => s.restarted m
  | none => { s with htx := none }

/-- The meaning of HTX_FRAME_SENT (R170). -/
def execHtxFrameSent (s : State) : Host.Outcome State Fault Refusal := act frameSent s

end Sys2Proof.Machine
end

