-- ==== Sys2Proof/Machine/Jobs.lean ====
section
/-!
DEFINITION. The Job Table's requests and timers: SUBMIT, APPEND, CANCEL, QUERY_JOB, STAGING_TIMER_EXPIRY,
DEADLINE_EXPIRY and BACKOFF_TIMER_EXPIRY (Sections Two, Three and Five).
-/

namespace Sys2Proof.Machine

/-! ### SUBMIT -/

/-- Rows 2 and 3 of Table 2-4: the target of the record and the segment of the job (R6). -/
inductive TargetCheck
  | good (t : Target) (g : Seg)
  | bad (st : Status)
  deriving DecidableEq, Repr

/-- A raw address that a job may name on a segment: 00h or 08h to 77h, and none of the segment's reserved addresses
(R6). -/
def rawUsable (c : SegConfig) (a : Byte) : Bool :=
  (a == 0 || inAddrRange a.toNat) && !c.reserved.contains (a.setWidth 7)

/-- The target checks of R6. -/
def State.checkTarget (s : State) : SubmitTarget → TargetCheck
  | .handle b =>
    match handleOf b with
    | none => .bad .notFound
    | some h =>
      match s.entryAt h with
      | none => .bad .notFound
      | some e => .good (.handle h) e.segment
  | .raw g a => if rawUsable (s.seg g).config a then .good (.raw (a.setWidth 7)) g else .bad .reservedAddress

/-- Rows 4 and 5 of Table 2-4: the status of a refused predecessor, if it is refused (R7). -/
def State.checkPredecessor (s : State) : Option JobId → Option Status
  | none => none
  | some id => if s.staleId id then some .stale else if s.endedNotOk id then some .predecessorFailed else none

/-- The predecessor field at acceptance: a predecessor that has ended OK is none (2.2, R7). -/
def State.recordedPredecessor (s : State) : Option JobId → Predecessor
  | none => .absent
  | some id => if s.liveId id then .job id else .absent

/-- The FREE slot with the lowest slot number (R8). -/
def State.freeSlotNumber (s : State) : Option Slot := allSlots.find? fun i => (s.jobAt i).isNone

/-- The record at acceptance (R8, steps 2 to 5), before it is placed. -/
def newJob (r : SubmitReq) (t : Target) (g : Seg) (p : Predecessor) : Job where
  state := .staging
  segment := g
  target := t
  cls := r.cls
  retryBudget := r.retryBudget
  deadline := r.deadline
  check := r.check
  predecessor := p
  steps := r.steps
  writeTotal := writeTotalOf r.steps
  staged := r.data.length
  readReserve := readReserveOf r.steps r.check
  blocksHeld := r.blocks
  attempts := 0
  resolved := none
  overdue := false
  cancelPending := false
  removalPending := false
  outcome := none
  writeData := r.data
  deadlineTimer := r.deadline
  stagingTimer := some Config.stagingTime

/-- The job takes the slot under the incremented generation, and its blocks are taken (R8, steps 1 to 5). -/
def State.takeSlot (s : State) (i : Slot) (j : Job) : State :=
  { s with
    slots := s.slots.set i.val ⟨s.genAt i + 1, some j⟩
    accepted := s.accepted ++ [i]
    poolFree := s.poolFree - j.blocksHeld }

/-- A job whose data is complete is placed; another stays STAGING with its staging timer at 1000 ms (R8, R11). -/
def State.placeIfComplete (s : State) (i : Slot) : State :=
  match s.jobAt i with
  | none => s
  | some j =>
    if j.staged = j.writeTotal then s.placeJob i
    else s.modJob i fun j => { j with stagingTimer := some Config.stagingTime }

/-- The answer that carries the job id, the state and staged (Table 13-5). -/
def stagedAnswer (s : State) (i : Slot) : Answer :=
  match s.jobAt i with
  | some j => .ok ([byteOf i.val, s.genAt i, jobStateCode j.state] ++ word16 j.staged)
  | none => .ok [byteOf i.val, s.genAt i, 0, 0, 0]

/-- Rows 6 and 7 of Table 2-4, and acceptance (R8). -/
def acceptJob (r : SubmitReq) (t : Target) (g : Seg) (s : State) : State × Answer :=
  match s.freeSlotNumber with
  | none => (s, .refused .noSlot)
  | some i =>
    if s.poolFree < r.blocks + Config.inboundReserve then (s, .refused .poolShort)
    else
      let s := (s.takeSlot i (newJob r t g (s.recordedPredecessor r.predecessor))).placeIfComplete i
      (s, stagedAnswer s i)

/-- SUBMIT executed: the checks of Table 2-4 in order, and acceptance (R4). -/
def runSubmit (body : List Byte) (s : State) : State × Answer :=
  match submitReqOf body with
  | none => (s, .refused .badValue)
  | some r =>
    match s.checkTarget r.target with
    | .bad st => (s, .refused st)
    | .good t g =>
      match s.checkPredecessor r.predecessor with
      | some st => (s, .refused st)
      | none => acceptJob r t g s

/-- SUBMIT as a request (R4). -/
def requestSubmit (tag : Byte) (body : List Byte) (s : State) : State :=
  takeFrame 0x20 tag (submitSize body) (runSubmit body) s

/-- The meaning of SUBMIT (R8). -/
def execSubmit (tag : Byte) (body : List Byte) (s : State) : Host.Outcome State Fault Refusal :=
  act (requestSubmit tag body) s

/-! ### APPEND -/

/-- The bytes stored after the bytes already staged (R11). -/
def Job.stage (j : Job) (data : List Byte) : Job :=
  { j with writeData := j.writeData ++ data, staged := j.staged + data.length }

/-- APPEND executed (R11). -/
def runAppend (body : List Byte) (s : State) : State × Answer :=
  match jobIdOf body with
  | none => (s, .refused .badValue)
  | some id =>
    if s.staleId id then (s, .refused .stale)
    else
      match s.jobAt id.slot with
      | none => (s, .refused .stale)
      | some j =>
        if j.state ≠ .staging then (s, .refused .notStaging)
        else if j.writeTotal < j.staged + (body.drop 2).length then (s, .refused .badValue)
        else
          let s := (s.modJob id.slot (·.stage (body.drop 2))).placeIfComplete id.slot
          (s, stagedAnswer s id.slot)

/-- APPEND as a request (R11). -/
def requestAppend (tag : Byte) (body : List Byte) (s : State) : State :=
  takeFrame 0x21 tag (sizeAtLeast 2 body) (runAppend body) s

/-- The meaning of APPEND (R11). -/
def execAppend (tag : Byte) (body : List Byte) (s : State) : Host.Outcome State Fault Refusal :=
  act (requestAppend tag body) s

/-! ### CANCEL -/

/-- The attempt of a job is handed and has not driven its start: it waits in CONTENDING, or through SERVING or
RECOVERING (R80). -/
def Segment.waits (sg : Segment) (i : Slot) : Bool := sg.handed == some (.job i) && sg.sc != .controlling

/-- An ACTIVE job whose attempt waits ends at once, its attempt abandoned (R80, R82). -/
def State.endWaiting (s : State) (g : Seg) (i : Slot) (st : EndStatus) : State :=
  (s.abandonWait g).endJob i st .nothing

/-- CANCEL of a job that has not ended (R40, R41, R80). -/
def State.cancelJob (s : State) (i : Slot) (j : Job) : State :=
  if j.state = .active then
    let s := s.modJob i fun j => { j with cancelPending := true }
    if (s.seg j.segment).waits i then s.endWaiting j.segment i .cancelled else s
  else s.endJob i .cancelled .nothing

/-- CANCEL executed (R40). An ACTIVE job is answered ACTIVE, also where its waiting attempt is then abandoned at once
(R41, log entry 11). -/
def runCancel (body : List Byte) (s : State) : State × Answer :=
  match jobIdOf body with
  | none => (s, .refused .badValue)
  | some id =>
    if s.staleId id then (s, .refused .stale)
    else
      match s.jobAt id.slot with
      | none => (s, .refused .stale)
      | some j =>
        if j.state = .ended then (s, .refused .alreadyEnded)
        else
          (s.cancelJob id.slot j,
            .ok [byteOf id.slot.val, id.gen, jobStateCode (if j.state = .active then .active else .ended)])

/-- CANCEL as a request (R40). -/
def requestCancel (tag : Byte) (body : List Byte) (s : State) : State :=
  takeFrame 0x22 tag (sizeIs 2 body) (runCancel body) s

/-- The meaning of CANCEL (R40). -/
def execCancel (tag : Byte) (body : List Byte) (s : State) : Host.Outcome State Fault Refusal :=
  act (requestCancel tag body) s

/-! ### QUERY_JOB -/

/-- The position of a QUEUED job in its class list, FFh in every other state (R14). -/
def State.position (s : State) (i : Slot) (j : Job) : Byte :=
  if j.state = .queued then byteOf (((s.seg j.segment).classList j.cls).idxOf i) else 0xFF

/-- The end status of an ENDED job, FFh in other states (R14). -/
def endStatusField (j : Job) : Byte :=
  match j.outcome with
  | some o => if j.state = .ended then endStatusCode o.status else 0xFF
  | none => 0xFF

/-- The answer to QUERY_JOB (R14). -/
def runQuery (body : List Byte) (s : State) : State × Answer :=
  match jobIdOf body with
  | none => (s, .refused .badValue)
  | some id =>
    if s.staleId id then (s, .refused .stale)
    else
      match s.jobAt id.slot with
      | none => (s, .refused .stale)
      | some j =>
        (s, .ok ([byteOf id.slot.val, id.gen, jobStateCode j.state, byteOf j.attempts, queryFlags j] ++
          word16 j.staged ++ word16 j.writeTotal ++ [s.position id.slot j, endStatusField j]))

/-- QUERY_JOB as a request (R14). -/
def requestQuery (tag : Byte) (body : List Byte) (s : State) : State :=
  takeFrame 0x23 tag (sizeIs 2 body) (runQuery body) s

/-- The meaning of QUERY_JOB (R14). -/
def execQueryJob (tag : Byte) (body : List Byte) (s : State) : Host.Outcome State Fault Refusal :=
  act (requestQuery tag body) s

/-! ### Timers -/

/-- The staging timer of a STAGING job expires (R12). -/
def stagingExpires (i : Slot) (s : State) : State :=
  match s.jobAt i with
  | none => s
  | some j => if j.state = .staging ∧ j.stagingTimer.isSome then s.endJob i .stageTimeout .nothing else s

/-- The meaning of STAGING_TIMER_EXPIRY (R12). -/
def execStagingTimerExpiry (i : Slot) (s : State) : Host.Outcome State Fault Refusal := act (stagingExpires i) s

/-- The deadline reaches a job (R13, R38, R39, R82): an attempt that waits is abandoned, one that has started goes on
with the overdue flag, and in every other state the job ends DEADLINE. -/
def State.deadlineReaches (s : State) (i : Slot) (j : Job) : State :=
  if j.state = .active then
    if (s.seg j.segment).waits i then s.endWaiting j.segment i .deadline
    else s.modJob i fun j => { j with overdue := true, deadlineTimer := none }
  else s.endJob i .deadline .nothing

/-- The deadline timer of a job expires. -/
def deadlineExpires (i : Slot) (s : State) : State :=
  match s.jobAt i with
  | none => s
  | some j => if j.deadlineTimer.isSome then s.deadlineReaches i j else s

/-- The meaning of DEADLINE_EXPIRY (R13, R38, R39, R82). -/
def execDeadlineExpiry (i : Slot) (s : State) : Host.Outcome State Fault Refusal := act (deadlineExpires i) s

/-- The backoff timer of a segment expires: backoff expired is set, and the expiry is event 3 of R29 (R36). -/
def backoffExpires (g : Seg) (s : State) : State :=
  if (s.seg g).backoffTimer.isSome then
    (s.modSeg g fun sg => { sg with backoffTimer := none, backoffExpired := true }).markChoice g
  else s

/-- The meaning of BACKOFF_TIMER_EXPIRY (R36). -/
def execBackoffTimerExpiry (g : Seg) (s : State) : Host.Outcome State Fault Refusal := act (backoffExpires g) s

end Sys2Proof.Machine
end

