-- ==== Sys2Proof/Machine/Stations.lean ====
section
/-!
DEFINITION. The Station Unit and the target role of the Segment Controller (Section Eight, R58): ADDRESS_MATCH,
INBOUND_BYTE, SERVED_READ_END, HOLD_TIMER_EXPIRY, BUS_STOP_SEEN, BUS_REPEATED_START_SEEN, POST_REPLY and
WITHDRAW_REPLY.
-/

namespace Sys2Proof.Machine

/-! ### Matching an address (R124) -/

/-- The decisions of Table 8-2. -/
inductive Decision
  | receive (r : RecordIx) (a : Addr)
  | serve (ix : StationIx) (reply : PostedReply)
  | hold (ix : StationIx)
  | refuse
  | noMatch
  deriving DecidableEq, Repr

/-- The station whose enable is on and whose address is `a`. -/
def SegConfig.stationAt (c : SegConfig) (a : Addr) : Option StationIx :=
  if c.station0.enable ∧ c.station0.address = a then some 0
  else if c.station1.enable ∧ c.station1.address = a then some 1
  else none

/-- A write is received while the record's inbound list has room (Table 8-2). -/
def Segment.writeDecision (sg : Segment) (r : RecordIx) (a : Addr) : Decision :=
  if (sg.inboundAt r).length < Config.maxInbound then .receive r a else .refuse

/-- A read of a station (Table 8-2). -/
def Segment.readDecision (sg : Segment) (ix : StationIx) : Decision :=
  match (sg.station ix).posted with
  | some p => .serve ix p
  | none => if (sg.config.station ix).policy = .hold then .hold ix else .refuse

/-- Table 8-2. -/
def Segment.decide (sg : Segment) (b : Byte) : Decision :=
  match sg.config.stationAt (addressOf b) with
  | some ix => if isRead b then sg.readDecision ix else sg.writeDecision (recordOf ix) (addressOf b)
  | none =>
    if addressOf b = 0 ∧ isRead b = false ∧ sg.config.broadcastAccept then sg.writeDecision inboxRecord 0 else .noMatch

/-- The message in progress as it is created (R125). -/
def newMessage (r : RecordIx) (a : Addr) : Message := ⟨r, a, [], false, false, false⟩

/-! ### The end of a service -/

/-- A SERVING that ends returns to CONTENDING when an activity still waits, and to IDLE otherwise, which is event 1 of
R29; an activity drives its start at once when the monitor is FREE (R58). -/
def State.leaveServing (s : State) (g : Seg) : State :=
  if (s.seg g).handed.isSome then
    s.modSeg g fun sg => { sg with sc := .contending, service := .none }.driveStart
  else (s.modSeg g fun sg => { sg with sc := .idle, service := .none }).markChoice g

/-- The bytes of a served read: the snapshot's, and FFh beyond its length (R129). -/
def servedBytes (p : PostedReply) (n : Nat) : List Byte := (List.range n).map fun k => p.bytes.getD k 0xFF

/-- The filler bytes among the `n` bytes of a served read (R129). -/
def overread (p : PostedReply) (n : Nat) : Nat := n - p.bytes.length

/-- A station's record of a served read of `n` whole bytes (R129): the counts, and a ONE_SHOT reply that is still the
posted one is removed. Last overread is the whole number of filler bytes, which stops at 255 by itself (log entry 36). -/
def Station.recordServed (st : Station) (p : PostedReply) (current : Bool) (n : Nat) : Station :=
  { st with
    served := bump st.served
    lastLength := min n Config.countLimit
    lastOverread := min (overread p n) Config.countLimit
    posted := if current ∧ p.standing = false then none else st.posted }

/-- The end of a served read (R129); the claim is placed after the reply is removed (log entry 9). -/
def State.endRead (s : State) (g : Seg) (n : Nat) : State :=
  match (s.seg g).service with
  | .reading ix p current =>
    (s.modSeg g fun sg =>
      { sg.modStation ix (·.recordServed p current n) with service := .passive }).placeClaimOnce (.station g ix .served)
  | _ => s

/-- The message in progress completes (R127). -/
def State.completeMessage (s : State) (g : Seg) (byRestart : Bool) : State :=
  match (s.seg g).service with
  | .receiving m =>
    let s := s.modSeg g fun sg => { sg with service := .passive }
    if m.bytes = [] ∧ m.truncated = false then s
    else
      (s.modSeg g (·.modInbound m.record (· ++ [{ m with endedByRestart := byRestart }]))).placeClaim
        (.inbound g m.record)
  | _ => s

/-- The transaction served ends, with `n` whole bytes sent where a read is being served (R127, R129). -/
def State.endTransaction (s : State) (g : Seg) (n : Nat) (byRestart : Bool) : State :=
  (s.completeMessage g byRestart).endRead g n

/-- A service is abandoned (R136): the message in progress is discarded and its blocks return, a held read is released
without report, and a read being served is counted. -/
def State.abandonService (s : State) (g : Seg) (n : Nat) : State :=
  match (s.seg g).service with
  | .receiving m =>
    { s.modSeg g (fun sg => { sg with service := .none }) with poolFree := s.poolFree + messageBlocks m }
  | .reading _ _ _ => (s.endRead g n).modSeg g fun sg => { sg with service := .none }
  | _ => s.modSeg g fun sg => { sg with service := .none }

/-! ### ADDRESS_MATCH -/

/-- A held read starts: the clock is held, the hold timer started, the wait counted and claimed (R131). -/
def State.startHold (s : State) (g : Seg) (ix : StationIx) : State :=
  (s.modSeg g fun sg =>
    { sg.modStation ix (fun st => { st with waits := bump st.waits }) with
      sc := .serving
      service := .holding ix sg.config.holdLimit }).placeClaimOnce (.station g ix .waiting)

/-- The target role acts on the decision for an address byte (R124, R58). With no match a service that was waiting for
the address ends, and any other state stays. -/
def State.serveDecision (s : State) (g : Seg) : Decision → State
  | .receive r a => s.modSeg g fun sg => { sg with sc := .serving, service := .receiving (newMessage r a) }
  | .serve ix p => s.modSeg g fun sg => { sg with sc := .serving, service := .reading ix p true }
  | .hold ix => s.startHold g ix
  | .refuse => s.modSeg g fun sg => { sg with sc := .serving, service := .passive }
  | .noMatch => if (s.seg g).sc = .serving then s.leaveServing g else s

/-- The Segment Controller evaluates address bytes in IDLE and CONTENDING, and in SERVING after a repeated start
(R58). -/
def Segment.evaluates (sg : Segment) : Bool :=
  match sg.sc with
  | .idle => true
  | .contending => true
  | .serving => sg.service == .awaiting
  | _ => false

/-- An address byte from another controller is evaluated (R58, R124). -/
def addressSeen (g : Seg) (b : Byte) (s : State) : State :=
  if (s.seg g).evaluates then s.serveDecision g ((s.seg g).decide b) else s

/-- The meaning of ADDRESS_MATCH (R124). -/
def execAddressMatch (g : Seg) (b : Byte) (s : State) : Host.Outcome State Fault Refusal := act (addressSeen g b) s

/-! ### INBOUND_BYTE -/

/-- The byte needs a new block (R126). -/
def needsBlock (m : Message) : Bool := m.bytes.length % Config.blockBytes == 0

/-- A data byte is stored or refused (R126). -/
def byteArrives (g : Seg) (b : Byte) (s : State) : State :=
  match (s.seg g).service with
  | .receiving m =>
    let refused := s.modSeg g fun sg => { sg with service := .receiving { m with truncated := true } }
    let stored := fun s : State =>
      s.modSeg g fun sg => { sg with service := .receiving { m with bytes := m.bytes ++ [b] } }
    if m.truncated then s
    else if Config.maxMessage ≤ m.bytes.length then refused
    else if needsBlock m then
      if s.poolFree = 0 then refused else stored { s with poolFree := s.poolFree - 1 }
    else stored s
  | _ => s

/-- The meaning of INBOUND_BYTE (R126). -/
def execInboundByte (g : Seg) (b : Byte) (s : State) : Host.Outcome State Fault Refusal := act (byteArrives g b) s

/-! ### SERVED_READ_END, stop, repeated start -/

/-- The meaning of SERVED_READ_END (R129): the reader refused a byte, or its stop or repeated start ends the read. The
Segment Controller stays SERVING. -/
def execServedReadEnd (g : Seg) (n : Nat) (s : State) : Host.Outcome State Fault Refusal :=
  act (fun s => s.endRead g n) s

/-- A stop is seen: the monitor counts the free time, and a service ends (R53, R58). While a read is held the Broker
keeps the clock low, and no stop can be seen. -/
def stopSeen (g : Seg) (n : Nat) (s : State) : State :=
  if (s.seg g).holdsClock then s
  else
    let s := s.modSeg g (·.seeStop)
    if (s.seg g).sc = .serving then (s.endTransaction g n false).leaveServing g else s

/-- The meaning of BUS_STOP_SEEN (R58). -/
def execBusStopSeen (g : Seg) (n : Nat) (s : State) : Host.Outcome State Fault Refusal := act (stopSeen g n) s

/-- A repeated start is seen: a start to the monitor; the message or the read served ends, and the address byte that
follows is awaited (R53, R58, R127). While a read is held the clock is low, and none can be seen. -/
def repeatedStartSeen (g : Seg) (n : Nat) (s : State) : State :=
  if (s.seg g).holdsClock then s
  else
    let s := s.modSeg g (·.startSeen)
    if (s.seg g).sc = .serving then
      (s.endTransaction g n true).modSeg g fun sg => { sg with service := .awaiting }
    else s

/-- The meaning of BUS_REPEATED_START_SEEN (R58). -/
def execBusRepeatedStartSeen (g : Seg) (n : Nat) (s : State) : Host.Outcome State Fault Refusal :=
  act (repeatedStartSeen g n) s

/-! ### HOLD_TIMER_EXPIRY -/

/-- A held read expires: the address is refused, the clock released, and the expiry counted and claimed (R132). -/
def holdExpires (g : Seg) (s : State) : State :=
  match (s.seg g).service with
  | .holding ix _ =>
    (s.modSeg g fun sg =>
      { sg.modStation ix (fun st => { st with expired := bump st.expired }) with service := .passive }).placeClaimOnce
      (.station g ix .expired)
  | _ => s

/-- The meaning of HOLD_TIMER_EXPIRY (R132). -/
def execHoldTimerExpiry (g : Seg) (s : State) : Host.Outcome State Fault Refusal := act (holdExpires g) s

/-! ### POST_REPLY and WITHDRAW_REPLY -/

/-- Where a POST_REPLY or a WITHDRAW_REPLY points: a station whose enable is on, or the refusal (R133, R134). -/
inductive StationCheck
  | good (g : Seg) (ix : StationIx)
  | bad (st : Status)
  deriving DecidableEq, Repr

/-- Segment and station index of a request (R133). -/
def State.checkStation (s : State) (body : List Byte) : StationCheck :=
  match segOf (byteAt body 0), stationOf (byteAt body 1) with
  | some g, some ix => if ((s.seg g).config.station ix).enable then .good g ix else .bad .notFound
  | _, _ => .bad .badValue

/-- The reply of a POST_REPLY: mode ONE_SHOT or STANDING and 1 to 64 bytes (R133). -/
def postedReplyOf (body : List Byte) : Option PostedReply :=
  (boolOf (byteAt body 2)).bind fun standing =>
    if body.length ≤ 3 ∨ Config.maxPosted < (body.drop 3).length then none else some ⟨body.drop 3, standing⟩

/-- A read being served from an earlier reply of the station goes on with its snapshot, which is no longer the posted
reply (R133, R134). -/
def Service.outdated (sv : Service) (ix : StationIx) : Service :=
  match sv with
  | .reading k p c => if k = ix then .reading k p false else .reading k p c
  | other => other

/-- A held read of the station is served from the new reply (R132). -/
def Service.released (sv : Service) (ix : StationIx) (p : PostedReply) : Service :=
  match sv with
  | .holding k t => if k = ix then .reading k p true else .holding k t
  | other => other

/-- A reply is posted at a station (R133). -/
def Segment.post (sg : Segment) (ix : StationIx) (p : PostedReply) : Segment :=
  { sg.modStation ix (fun st => { st with posted := some p }) with
    service := (sg.service.outdated ix).released ix p }

/-- POST_REPLY executed (R133). -/
def runPost (body : List Byte) (s : State) : State × Answer :=
  match postedReplyOf body with
  | none => (s, .refused .badValue)
  | some p =>
    match s.checkStation body with
    | .bad st => (s, .refused st)
    | .good g ix =>
      (s.modSeg g (·.post ix p),
        .ok [postFlags ((s.seg g).station ix).posted.isSome ((s.seg g).holdsReadOf ix)])

/-- POST_REPLY as a request (R133). -/
def requestPost (tag : Byte) (body : List Byte) (s : State) : State :=
  takeFrame 0x38 tag (sizeAtLeast 3 body) (runPost body) s

/-- The meaning of POST_REPLY (R133). -/
def execPostReply (tag : Byte) (body : List Byte) (s : State) : Host.Outcome State Fault Refusal :=
  act (requestPost tag body) s

/-- The posted reply of a station is removed (R134). -/
def Segment.withdraw (sg : Segment) (ix : StationIx) : Segment :=
  { sg.modStation ix (fun st => { st with posted := none }) with service := sg.service.outdated ix }

/-- WITHDRAW_REPLY executed (R134). -/
def runWithdraw (body : List Byte) (s : State) : State × Answer :=
  match s.checkStation body with
  | .bad st => (s, .refused st)
  | .good g ix => (s.modSeg g (·.withdraw ix), .ok [boolCode ((s.seg g).station ix).posted.isSome])

/-- WITHDRAW_REPLY as a request (R134). -/
def requestWithdraw (tag : Byte) (body : List Byte) (s : State) : State :=
  takeFrame 0x39 tag (sizeIs 2 body) (runWithdraw body) s

/-- The meaning of WITHDRAW_REPLY (R134). -/
def execWithdrawReply (tag : Byte) (body : List Byte) (s : State) : Host.Outcome State Fault Refusal :=
  act (requestWithdraw tag body) s

end Sys2Proof.Machine
end

