-- ==== Sys2Proof/Machine/Attempts.lean ====
section
/-!
DEFINITION. The end of a controller activity on the bus (R57), and the two rows that end a job's attempt:
JOB_ATTEMPT_END and CANCEL_AT_BYTE_BOUNDARY (Section Five).
-/

namespace Sys2Proof.Machine

/-! ### The Segment Controller at the end of an activity -/

/-- The state a way of ending leaves the Segment Controller in, and what the monitor sees: IDLE after a stop made or a
loss, RECOVERING after a failed stop (R57, R60, R78). -/
def Segment.afterWay (sg : Segment) (w : TxWay) : Segment :=
  let sg := { sg with handed := none, stretch := none }
  match w with
  | .lostFirst _ => { sg with sc := .idle }
  | .lostLater => { sg with sc := .idle }
  | .busFault _ => { sg with sc := .recovering, recoverRequested := false }
  | _ => { sg.seeStop with sc := .idle }

/-- An activity ends: nothing is handed any more, and after a loss in the first address byte the winner's address byte
goes to the target role (R49). The entry to IDLE is event 1 of R29. -/
def State.leaveBus (s : State) (g : Seg) (w : TxWay) : State :=
  let s := s.modSeg g (·.afterWay w)
  let s := match w with
    | .lostFirst b => addressSeen g b s
    | _ => s
  s.markChoice g

/-- The transaction of an activity that runs on a segment, and the way it ended; `none` where that activity is not on the bus or has
not ended. -/
def State.txEnd (s : State) (g : Seg) (a : Activity) (bus : List BusAnswer) (stopMade : Bool) :
    Option (TxRun × TxWay) :=
  if (s.seg g).sc = .controlling ∧ (s.seg g).handed = some a then
    ((runTx (s.descOf g a) bus).way (s.seg g).stretch.isSome stopMade).map fun w =>
      ((runTx (s.descOf g a) bus).afterStretch (s.seg g).stretch.isSome, w)
  else none

/-! ### Presence effects (R79) -/

/-- The entry that a job's attempt has presence effects on, if any. -/
def State.presenceEntry (s : State) (j : Job) : Option Handle :=
  match j.target with
  | .raw _ => none
  | .handle h =>
    match s.entryAt h with
    | some e => if j.removalPending = false ∧ e.segment = j.segment then some h else none
    | none => none

/-- The Roster is told of the acknowledged address bytes of an attempt (R79). A byte that it has been told of before
leaves the entry as it is (log entry 7). -/
def State.presenceAck (s : State) (j : Job) (r : TxRun) : State :=
  match s.presenceEntry j with
  | some h => if r.addressAcks = 0 then s else s.ackSignal h
  | none => s

/-- The Roster is told of a job that ended NO_RESPONSE (R79). -/
def State.presenceMiss (s : State) (j : Job) (st : EndStatus) : State :=
  match s.presenceEntry j with
  | some h => if st = .noResponse then s.missSignal h else s
  | none => s

/-! ### Outcomes (R74 to R76) -/

/-- The class of a result (Table 5-2): it ends the job, or it is retryable with the status it ends the job with when
it does not retry. -/
inductive AttemptClass
  | ends (st : EndStatus)
  | retry (st : EndStatus)
  deriving DecidableEq, Repr

/-- Table 5-2. -/
def attemptClass (r : TxRun) : TxWay → AttemptClass
  | .finished => .ends (if r.checkByte.isSome ∧ r.matched = false then .checkMismatch else .ok)
  | .countAboveMax => .ends .countTooLarge
  | .addressRefused => if r.part = 0 then .retry .noResponse else .ends .noResponse
  | .dataRefused => .ends .dataNak
  | .lostFirst _ => .retry .lost
  | .lostLater => .ends .lost
  | .stretchTimeout => .ends .stretchTimeout
  | .busFault _ => .ends .busFault
  | .cancelStop => .ends .cancelled

/-- The counts and flags of the attempt at which a job ended (R75). -/
def TxRun.counts (r : TxRun) : EndCounts :=
  ⟨r.written, r.read, r.checkByte, r.refusedLast, r.checkByte.isSome && !r.matched⟩

/-- Table 5-3: the status that ends the job, or `none` where it passes to BACKOFF. -/
def retryDecision (j : Job) (st : EndStatus) : Option EndStatus :=
  if j.cancelPending then some .cancelled
  else if j.removalPending then some .rosterRemoved
  else if j.overdue then some .deadline
  else if j.retryBudget < j.attempts then some st
  else none

/-- The job passes to BACKOFF, and the backoff timer starts at the unit times attempts made (R35). -/
def State.enterBackoff (s : State) (g : Seg) (i : Slot) (attempts : Nat) : State :=
  (s.modJob i fun j => { j with state := .backoff }).modSeg g fun sg =>
    { sg with backoffTimer := some (sg.config.backoffUnit * attempts), backoffExpired := false }

/-- A job ends with the presence effect of its status, which comes after the claims of its end (R79). -/
def State.endAttempt (s : State) (i : Slot) (j : Job) (st : EndStatus) (c : EndCounts) : State :=
  (s.endJob i st c).presenceMiss j st

/-- The Job Table takes the result of an attempt (R74, R76). -/
def State.jobOutcome (s : State) (g : Seg) (i : Slot) (r : TxRun) (w : TxWay) : State :=
  match s.jobAt i with
  | none => s
  | some j =>
    let s := s.presenceAck j r
    match attemptClass r w with
    | .ends st => s.endAttempt i j st r.counts
    | .retry st =>
      match retryDecision j st with
      | some st => s.endAttempt i j st .nothing
      | none => s.enterBackoff g i j.attempts

/-! ### JOB_ATTEMPT_END -/

/-- The attempt of a job on a segment has come as far as these answers and goes on: the Roster is told of the address
bytes acknowledged so far (R79). An attempt that is not on the bus has no answers, and nothing happens (log entry 3). -/
def State.attemptGoesOn (s : State) (g : Seg) (i : Slot) (bus : List BusAnswer) : State :=
  match s.jobAt i with
  | some j => if (s.seg g).sc = .controlling then s.presenceAck j (runTx (jobDesc j) bus) else s
  | none => s

/-- The answers to the bytes of the attempt running on a segment: they end it, or say how far it has come (log entry
7). -/
def attemptEnds (g : Seg) (bus : List BusAnswer) (stopMade : Bool) (s : State) : State :=
  match (s.seg g).handed with
  | some (.job i) =>
    match s.txEnd g (.job i) bus stopMade with
    | some (r, w) => (s.leaveBus g w).jobOutcome g i r w
    | none => s.attemptGoesOn g i bus
  | _ => s

/-- The meaning of JOB_ATTEMPT_END (R74, R79). -/
def execJobAttemptEnd (g : Seg) (bus : List BusAnswer) (stopMade : Bool) (s : State) :
    Host.Outcome State Fault Refusal :=
  act (attemptEnds g bus stopMade) s

/-! ### CANCEL_AT_BYTE_BOUNDARY -/

/-- The stop of a cancel, made or failed (R81). -/
def cancelWay (stopMade : Bool) : TxWay := if stopMade then .cancelStop else .busFault true

/-- The byte in flight was the acknowledged address byte of a read part: the target is about to drive the line (R81,
case 3). -/
def readAddressTaken (r : TxRun) (bus : List BusAnswer) : Bool :=
  bus.getLast? == some .ack && match r.phase with
    | .recv _ _ => true
    | .count _ _ => true
    | _ => false

/-- What the Segment Controller does at the byte boundary (R81): the transaction ended by its own byte (case 1), it
receives and refuses one more read byte (case 3, after the address byte), or it makes the stop. -/
def cancelBoundary (r : TxRun) (bus : List BusAnswer) (next : Option BusAnswer) (stopMade : Bool) :
    Option (TxRun × TxWay) :=
  match r.phase with
  | .ended how => some (r, how.way stopMade)
  | _ =>
    if bus = [] then none
    else if readAddressTaken r bus then
      match next with
      | some (.byte b) => some ({ r with read := r.read ++ [b] }, cancelWay stopMade)
      | some (.byteLost b) => some ({ r with read := r.read ++ [b] }, .lostLater)
      | _ => none
    else some (r, cancelWay stopMade)

/-- A pending cancel reaches the byte boundary of the attempt running on a segment. -/
def cancelReaches (g : Seg) (bus : List BusAnswer) (next : Option BusAnswer) (stopMade : Bool) (s : State) : State :=
  match (s.seg g).handed with
  | some (.job i) =>
    if (s.seg g).sc = .controlling ∧ (s.seg g).stretch = none ∧ (s.jobAt i).any (·.cancelPending) then
      match cancelBoundary (runTxCancelled (s.descOf g (.job i)) bus) bus next stopMade with
      | some (r, w) => (s.leaveBus g w).jobOutcome g i r w
      | none => s
    else s
  | _ => s

/-- The meaning of CANCEL_AT_BYTE_BOUNDARY (R81). -/
def execCancelAtByteBoundary (g : Seg) (bus : List BusAnswer) (next : Option BusAnswer) (stopMade : Bool) (s : State) :
    Host.Outcome State Fault Refusal :=
  act (cancelReaches g bus next stopMade) s

end Sys2Proof.Machine
end

