-- ==== Sys2Proof/Machine/Roster.lean ====
section
/-!
DEFINITION. The Roster's requests and its roll call (Section Six): ROSTER_READ, ROSTER_ADD_FIXED, ROSTER_REMOVE,
ROLL_TIMER_EXPIRY and PROBE_END.
-/

namespace Sys2Proof.Machine

/-! ### ROSTER_READ -/

/-- One entry of a ROSTER_READ reply (R96, Table 13-5). -/
def entryBytes (h : Handle) (e : Entry) : List Byte :=
  [byteOf h.val, segCode e.segment, addrCode e.address, entryFlags e, byteOf e.misses] ++ kindBytes e.kind

/-- The handles from `first`, `count` of them, stopping at 63 (R96). -/
def handleRange (first count : Nat) : List Handle :=
  allHandles.filter fun h => decide (first ≤ h.val) && decide (h.val < first + count)

/-- The bytes of the entries found in a range of handles, and their number. -/
def State.readEntries (s : State) (hs : List Handle) : Nat × List Byte :=
  let found := hs.filterMap fun h => (s.entryAt h).map fun e => entryBytes h e
  (found.length, found.flatten)

/-- The answer to ROSTER_READ (R96). -/
def runRosterRead (body : List Byte) (s : State) : State × Answer :=
  let first := (byteAt body 0).toNat
  let count := (byteAt body 1).toNat
  if 63 < first ∨ count = 0 ∨ 16 < count then (s, .refused .badValue)
  else (s, .ok (byteOf (s.readEntries (handleRange first count)).1 :: (s.readEntries (handleRange first count)).2))

/-- ROSTER_READ as a request (R96). -/
def requestRosterRead (tag : Byte) (body : List Byte) (s : State) : State :=
  takeFrame 0x30 tag (sizeIs 2 body) (runRosterRead body) s

/-- The meaning of ROSTER_READ (R96). -/
def execRosterRead (tag : Byte) (body : List Byte) (s : State) : Host.Outcome State Fault Refusal :=
  act (requestRosterRead tag body) s

/-! ### ROSTER_ADD_FIXED -/

/-- A FIXED entry at its creation (Table 6-1). -/
def fixedEntry (g : Seg) (a : Addr) : Entry where
  segment := g
  address := a
  kind := .fixed
  state := .unconfirmed
  misses := 0
  probeDue := false
  claimWaiting := false
  created := false
  moved := false
  changes := 0

/-- The checks of Table 6-3 in order, for a segment and an address byte of at most 7Fh (R92). -/
def State.checkFixed (s : State) (g : Seg) (a : Byte) : Option Status :=
  let addr : Addr := a.setWidth 7
  if !inAddrRange a.toNat || (s.seg g).config.reserved.contains addr then some .reservedAddress
  else if (s.entryByAddress g addr).isSome || (s.seg g).engine.chosen == some addr then some .conflict
  else none

/-- ROSTER_ADD_FIXED executed (R92). -/
def runAddFixed (body : List Byte) (s : State) : State × Answer :=
  match segOf (byteAt body 0) with
  | none => (s, .refused .badValue)
  | some g =>
    if 0x7F < (byteAt body 1).toNat then (s, .refused .badValue)
    else
      match s.checkFixed g (byteAt body 1) with
      | some st => (s, .refused st)
      | none =>
        match s.freeHandle with
        | none => (s, .refused .rosterFull)
        | some h => (s.putEntry h (some (fixedEntry g ((byteAt body 1).setWidth 7))), .ok [byteOf h.val])

/-- ROSTER_ADD_FIXED as a request (R92). -/
def requestAddFixed (tag : Byte) (body : List Byte) (s : State) : State :=
  takeFrame 0x31 tag (sizeIs 2 body) (runAddFixed body) s

/-- The meaning of ROSTER_ADD_FIXED (R92). -/
def execRosterAddFixed (tag : Byte) (body : List Byte) (s : State) : Host.Outcome State Fault Refusal :=
  act (requestAddFixed tag body) s

/-! ### ROSTER_REMOVE -/

/-- The live jobs that name a handle, in order of acceptance (R93). -/
def State.jobsNaming (s : State) (h : Handle) : List Slot := s.liveJobs fun j => j.target == .handle h

/-- Forced removal reaches one job that names the handle (R94): an ACTIVE job is marked, a job this removal has
already ended keeps its status, and any other ends ROSTER_REMOVED. -/
def State.removeReaches (s : State) (i : Slot) : State :=
  match s.jobAt i with
  | none => s
  | some j =>
    if j.state = .active then s.modJob i fun j => { j with removalPending := true }
    else s.endJob i .rosterRemoved .nothing

/-- A probe of the removed entry in flight has lost its entry (R100). -/
def Segment.forgetProbe (sg : Segment) (h : Handle) : Segment :=
  match sg.handed with
  | some (.probe (some k) a) => if k = h then { sg with handed := some (.probe none a) } else sg
  | _ => sg

/-- The entry's claim is withdrawn and its handle becomes free (R94, steps 2 and 3). -/
def State.dropEntry (s : State) (h : Handle) : State :=
  let s := (s.withdrawClaim (.roster h)).putEntry h none
  { s with segs := s.segs.map (·.forgetProbe h) }

/-- An entry that cannot be removed because its device would only be enrolled again (R93). -/
def Entry.stillPresent (e : Entry) : Bool := e.isEnrolled && e.state == .present

/-- An ACTIVE job among some slots. -/
def State.anyActive (s : State) (is : List Slot) : Bool := is.any fun i => (s.jobAt i).any (·.state == .active)

/-- The removal of an entry whose checks have passed, with the live jobs that name it (R94). -/
def State.removeEntry (s : State) (h : Handle) (jobs : List Slot) : State × Answer :=
  let t := (jobs.foldl State.removeReaches s).dropEntry h
  (t, .ok [byteOf (t.endedCount - s.endedCount), boolCode (s.anyActive jobs)])

/-- ROSTER_REMOVE executed (R93, R94). -/
def runRemove (body : List Byte) (s : State) : State × Answer :=
  match handleOf (byteAt body 0), boolOf (byteAt body 1) with
  | some h, some force =>
    match s.entryAt h with
    | none => (s, .refused .notFound)
    | some e =>
      if e.stillPresent then (s, .refused .stillPresent)
      else if s.jobsNaming h ≠ [] ∧ force = false then (s, .refused .inUse)
      else s.removeEntry h (s.jobsNaming h)
  | _, _ => (s, .refused .badValue)

/-- ROSTER_REMOVE as a request (R93). -/
def requestRemove (tag : Byte) (body : List Byte) (s : State) : State :=
  takeFrame 0x32 tag (sizeIs 2 body) (runRemove body) s

/-- The meaning of ROSTER_REMOVE (R94). -/
def execRosterRemove (tag : Byte) (body : List Byte) (s : State) : Host.Outcome State Fault Refusal :=
  act (requestRemove tag body) s

/-! ### Roll call -/

/-- Change every entry of a segment. -/
def State.mapEntries (s : State) (g : Seg) (f : Entry → Entry) : State :=
  { s with roster := s.roster.map fun o => o.map fun e => if e.segment = g then f e else e }

/-- The roll timer expires: probe due is set on every entry of the segment, the timer restarts, and the setting is
event 4 of R29 (R97). -/
def rollExpires (g : Seg) (s : State) : State :=
  if (s.seg g).rollTimer.isSome then
    ((s.mapEntries g fun e => { e with probeDue := true }).modSeg g fun sg =>
      { sg with rollTimer := some sg.config.rollInterval }).markChoice g
  else s

/-- The meaning of ROLL_TIMER_EXPIRY (R97). -/
def execRollTimerExpiry (g : Seg) (s : State) : Host.Outcome State Fault Refusal := act (rollExpires g) s

/-- The entry a probe's result acts on: the entry it was handed for, while that entry stands on the segment at the
address probed (R100). -/
def State.probedEntry (s : State) (g : Seg) (entry : Option Handle) (a : Addr) : Option Handle :=
  entry.filter fun h => match s.entryAt h with
    | some e => e.segment == g && e.address == a
    | none => false

/-- The Roster takes a probe's result (R99, Table 6-5). -/
def State.probeOutcome (s : State) (g : Seg) (entry : Option Handle) (a : Addr) (w : TxWay) : State :=
  match s.probedEntry g entry a with
  | none => s
  | some h =>
    match w with
    | .finished => (s.modEntry h fun e => { e with probeDue := false }).ackSignal h
    | .addressRefused => (s.modEntry h fun e => { e with probeDue := false }).missSignal h
    | _ => s

/-- The end of the probe running on a segment. -/
def probeEnds (g : Seg) (bus : List BusAnswer) (stopMade : Bool) (s : State) : State :=
  match (s.seg g).handed with
  | some (.probe entry a) =>
    match s.txEnd g (.probe entry a) bus stopMade with
    | some (_, w) => (s.leaveBus g w).probeOutcome g entry a w
    | none => s
  | _ => s

/-- The meaning of PROBE_END (R99). -/
def execProbeEnd (g : Seg) (bus : List BusAnswer) (stopMade : Bool) (s : State) : Host.Outcome State Fault Refusal :=
  act (probeEnds g bus stopMade) s

end Sys2Proof.Machine
end

