-- ==== Sys2Proof/Machine/Enrolment.lean ====
section
/-!
DEFINITION. The Enrolment Engine (Section Seven): ENROL_SWEEP, ENROL_FORGET, RETRY_WAIT_EXPIRY and the ends of the five
enrolment commands CALL, IDENTIFY, ASSIGN, PARK and FORGET.
-/

namespace Sys2Proof.Machine

/-- Change the sweep state of a segment. -/
def State.modEngine (s : State) (g : Seg) (f : Engine → Engine) : State :=
  s.modSeg g fun sg => { sg with engine := f sg.engine }

/-! ### ENROL_SWEEP and ENROL_FORGET -/

/-- The Engine accepts work (R107, R119). -/
def Engine.accept (e : Engine) (w : WorkKind) : Engine :=
  { e with state := .pending, work := some w, assigned := 0, identRetries := 0, cmdRetries := 0 }

/-- An enrolment request executed (R107, R119): becoming PENDING is event 6 of R29. -/
def runEnrol (w : WorkKind) (body : List Byte) (s : State) : State × Answer :=
  match segOf (byteAt body 0) with
  | none => (s, .refused .badValue)
  | some g =>
    if (s.seg g).enabled = false then (s, .refused .segmentDisabled)
    else if (s.seg g).engine.busy then (s, .refused .busy)
    else ((s.modEngine g (·.accept w)).markChoice g, .ok [sweepCode .pending])

/-- ENROL_SWEEP as a request (R107). -/
def requestSweep (tag : Byte) (body : List Byte) (s : State) : State :=
  takeFrame 0x33 tag (sizeIs 1 body) (runEnrol .sweep body) s

/-- The meaning of ENROL_SWEEP (R107). -/
def execEnrolSweep (tag : Byte) (body : List Byte) (s : State) : Host.Outcome State Fault Refusal :=
  act (requestSweep tag body) s

/-- ENROL_FORGET as a request (R119). -/
def requestForget (tag : Byte) (body : List Byte) (s : State) : State :=
  takeFrame 0x34 tag (sizeIs 1 body) (runEnrol .forget body) s

/-- The meaning of ENROL_FORGET (R119). -/
def execEnrolForget (tag : Byte) (body : List Byte) (s : State) : Host.Outcome State Fault Refusal :=
  act (requestForget tag body) s

/-! ### The end of a sweep or a FORGET -/

/-- The SWEEP_ENDED claim after an end: a fresh claim, or the waiting one with the end merged into it (R117). -/
def sweepClaimAfter (old : Option SweepClaim) (cause : SweepCause) (assigned : Nat) : SweepClaim :=
  match old with
  | none => ⟨cause, assigned, 1⟩
  | some c => ⟨cause, assigned, bump c.ends⟩

/-- A sweep or a FORGET ends (R116). -/
def State.endSweep (s : State) (g : Seg) (cause : SweepCause) : State :=
  let t := s.modSeg g fun sg =>
    { sg with
      engine := Engine.reset
      sweepClaim := some (sweepClaimAfter sg.sweepClaim cause sg.engine.assigned) }
  if (s.seg g).sweepClaim.isSome then t else t.placeClaim (.sweepEnded g)

/-! ### Decisions -/

/-- The ENROL_CONFLICT claim after a decision of line 3 (R118). -/
def conflictClaimAfter (old : Option ConflictClaim) (f : Found) (h : Handle) (on : Seg) : ConflictClaim :=
  match old with
  | none => ⟨f, h, on, 1⟩
  | some c => ⟨f, h, on, bump c.conflicts⟩

/-- The ENROL_CONFLICT claim is placed or updated (R118). -/
def State.claimConflict (s : State) (g : Seg) (f : Found) (h : Handle) (on : Seg) : State :=
  let t := s.modSeg g fun sg => { sg with conflictClaim := some (conflictClaimAfter sg.conflictClaim f h on) }
  if (s.seg g).conflictClaim.isSome then t else t.placeClaim (.conflict g)

/-- Every station address, lowest first. -/
def allAddrs : List Addr := (List.range 128).map (BitVec.ofNat 7)

/-- An address of the pool range that a move or a new device may take (R112). -/
def State.poolOffers (s : State) (g : Seg) (a : Addr) : Bool :=
  let c := (s.seg g).config
  decide (c.poolFirst.toNat ≤ a.toNat) && decide (a.toNat ≤ c.poolLast.toNat) && (s.entryByAddress g a).isNone &&
    !c.reserved.contains a

/-- The lowest address of the pool range that meets R112. -/
def State.poolAddress (s : State) (g : Seg) : Option Addr := allAddrs.find? (s.poolOffers g)

/-- The Engine will issue an ASSIGN of an address. -/
def Engine.assign (e : Engine) (a : Addr) : Engine := { e with state := .assigning, chosen := some a }

/-- An address is chosen from the pool, or the sweep ends POOL_EXHAUSTED (R112). -/
def State.chooseAddress (s : State) (g : Seg) : State :=
  match s.poolAddress g with
  | some a => s.modEngine g (·.assign a)
  | none => s.endSweep g .poolExhausted

/-- The decision of Table 7-4 on an identity (R111). -/
def State.decideIdentity (s : State) (g : Seg) (f : Found) : State :=
  match s.entryByIdentity f.identity with
  | some h =>
    match s.entryAt h with
    | none => s
    | some e =>
      if e.segment = g then s.modEngine g (·.assign e.address)
      else if e.state = .missing then s.chooseAddress g
      else (s.claimConflict g f h e.segment).modEngine g fun e => { e with state := .parking }
  | none => if s.freeHandle.isSome then s.chooseAddress g else s.endSweep g .rosterFull

/-! ### Results -/

/-- A result that the command's own rule does not read (R115). -/
def State.enrolOther (s : State) (g : Seg) : TxWay → State
  | .lostFirst _ =>
    if (s.seg g).engine.losses + 1 ≤ Config.enrolLosses then
      s.modSeg g fun sg =>
        { sg with
          engine := { sg.engine with
            losses := sg.engine.losses + 1
            retryWait := some sg.config.backoffUnit } }
    else s.endSweep g .interrupted
  | _ => s.endSweep g .interrupted

/-- The device reads nothing of a command: address refused, or data refused (R109 to R114). -/
def TxWay.refused : TxWay → Bool
  | .addressRefused => true
  | .dataRefused => true
  | _ => false

/-- The check byte of an ASSIGN or a PARK was acknowledged: finished, or a failed stop after it (R113, R114). -/
def taken (r : TxRun) (w : TxWay) : Bool := r.checkAcked && (w == .finished || w == .busFault true)

/-- The check byte was refused, or the command before it (R109, R113, R114). -/
def notTaken (r : TxRun) (w : TxWay) : Bool := w.refused || (w == .finished && !r.checkAcked)

/-- The Engine reads the result of a CALL (R109). -/
def State.callOutcome (s : State) (g : Seg) (r : TxRun) (w : TxWay) : State :=
  if w = .finished ∧ r.checkAcked then s.modEngine g fun e => { e with state := .identifying }
  else if notTaken r w then s.endSweep g .complete
  else s.enrolOther g w

/-- The identity and the class code that an IDENTIFY read (R110). -/
def foundIn (read : List Byte) : Found := ⟨Vector.ofFn fun k : Fin 8 => read.getD k.val 0, read.getD 8 0⟩

/-- The Engine keeps an identity; both retry counts become 0 (R110, R111). -/
def Engine.keep (e : Engine) (f : Found) : Engine := { e with current := some f, identRetries := 0, cmdRetries := 0 }

/-- The Engine reads the result of an IDENTIFY (R110). -/
def State.identifyOutcome (s : State) (g : Seg) (r : TxRun) (w : TxWay) : State :=
  if w = .finished then
    if r.matched then (s.modEngine g (·.keep (foundIn r.read))).decideIdentity g (foundIn r.read)
    else if (s.seg g).engine.identRetries < Config.enrolRetries then
      s.modEngine g fun e => { e with identRetries := e.identRetries + 1 }
    else s.endSweep g .corrupt
  else if w.refused then s.endSweep g .complete
  else s.enrolOther g w

/-- An ASSIGN or a PARK is refused: it is re-issued up to 3 times, and then the sweep ends CORRUPT (R113, R114). -/
def State.enrolRefused (s : State) (g : Seg) : State :=
  if (s.seg g).engine.cmdRetries < Config.enrolRetries then
    s.modEngine g fun e => { e with cmdRetries := e.cmdRetries + 1 }
  else s.endSweep g .corrupt

/-- An ENROLLED entry as an acknowledged ASSIGN leaves it (R113). -/
def enrolledEntry (g : Seg) (a : Addr) (f : Found) : Entry where
  segment := g
  address := a
  kind := .enrolled f
  state := .present
  misses := 0
  probeDue := false
  claimWaiting := false
  created := false
  moved := false
  changes := 0

/-- The entry of the device, found again, takes this segment, the address and the class code (R113). -/
def Entry.reassigned (e : Entry) (g : Seg) (a : Addr) (f : Found) : Entry :=
  { e with
    segment := g
    address := a
    kind := .enrolled f
    state := .present
    misses := 0
    probeDue := if e.segment = g then e.probeDue else false }

/-- The roster's side of an acknowledged ASSIGN; `none` where no handle is free (R113). -/
def State.recordAssign (s : State) (g : Seg) (a : Addr) (f : Found) : Option State :=
  match s.entryByIdentity f.identity with
  | some h =>
    match s.entryAt h with
    | none => none
    | some e =>
      some (if e.segment = g then s.updateEntry h e (e.reassigned g a f)
        else (s.putEntry h (some (e.reassigned g a f))).rosterChange h false true)
  | none => s.freeHandle.map fun h => (s.putEntry h (some (enrolledEntry g a f))).rosterChange h true false

/-- The chosen address is given up and the assignment counted (R113). -/
def Engine.counted (e : Engine) : Engine := { e with chosen := none, assigned := e.assigned + 1 }

/-- After an ASSIGN is recorded: the sweep goes on, or ends SWEEP_LIMIT at the 32nd (R113). -/
def State.afterAssign (s : State) (g : Seg) : State :=
  let s := s.modEngine g (·.counted)
  if (s.seg g).engine.assigned < Config.sweepLimit then s.modEngine g fun e => { e with state := .identifying }
  else s.endSweep g .sweepLimit

/-- The named device took the address (R113). -/
def State.assignTaken (s : State) (g : Seg) : State :=
  match (s.seg g).engine.current, (s.seg g).engine.chosen with
  | some f, some a =>
    match s.recordAssign g a f with
    | some t => t.afterAssign g
    | none => (s.modEngine g (·.counted)).endSweep g .rosterFull
  | _, _ => s

/-- The Engine reads the result of an ASSIGN (R113). -/
def State.assignOutcome (s : State) (g : Seg) (r : TxRun) (w : TxWay) : State :=
  if taken r w then s.assignTaken g
  else if notTaken r w then s.enrolRefused g
  else s.enrolOther g w

/-- The Engine reads the result of a PARK (R114). -/
def State.parkOutcome (s : State) (g : Seg) (r : TxRun) (w : TxWay) : State :=
  if taken r w then s.modEngine g fun e => { e with current := none, state := .identifying }
  else if notTaken r w then s.enrolRefused g
  else s.enrolOther g w

/-- The check byte of a FORGET was sent whole: its acknowledge bit is over, or the clock was held in it after the
eighth bit (R119, log entry 22). -/
def checkByteSent (r : TxRun) (eighth : Bool) : Bool := r.checkSent || (r.phase == .checkOut && eighth)

/-- A FORGET reached the devices (R119). -/
def forgetReached (r : TxRun) (eighth : Bool) : TxWay → Bool
  | .finished => true
  | .addressRefused => true
  | .dataRefused => true
  | .busFault true => checkByteSent r eighth
  | .stretchTimeout => checkByteSent r eighth
  | _ => false

/-- A PRESENT ENROLLED entry of the segment becomes MISSING (R119). -/
def State.forgetEntry (g : Seg) (s : State) (h : Handle) : State :=
  match s.entryAt h with
  | none => s
  | some e =>
    if e.segment = g ∧ e.isEnrolled ∧ e.state = .present then s.updateEntry h e { e with state := .missing, misses := 0 }
    else s

/-- The Engine reads the result of a FORGET (R119). -/
def State.forgetOutcome (s : State) (g : Seg) (r : TxRun) (w : TxWay) (eighth : Bool) : State :=
  if forgetReached r eighth w then (allHandles.foldl (State.forgetEntry g) s).endSweep g .forgotten
  else s.enrolOther g w

/-- A loss in the first address byte keeps the loss count; any other result makes it 0 (R115). -/
def Engine.afterResult (e : Engine) : TxWay → Engine
  | .lostFirst _ => e
  | _ => { e with losses := 0 }

/-- The Engine acts on the result of the command it had handed (R109 to R119). -/
def State.engineOutcome (s : State) (g : Seg) (r : TxRun) (w : TxWay) (eighth : Bool) : State :=
  let s := s.modEngine g (·.afterResult w)
  match (s.seg g).engine.state with
  | .calling => s.callOutcome g r w
  | .identifying => s.identifyOutcome g r w
  | .assigning => s.assignOutcome g r w
  | .parking => s.parkOutcome g r w
  | .forgetting => s.forgetOutcome g r w eighth
  | .none => s
  | .pending => s

/-- The end of the enrolment command running on a segment, where the sweep state is the one that issues it. -/
def State.enrolEnds (s : State) (st : SweepState) (g : Seg) (bus : List BusAnswer) (stopMade : Bool) : State :=
  if (s.seg g).engine.state = st then
    match s.txEnd g .enrol bus stopMade with
    | some (r, w) => (s.leaveBus g w).engineOutcome g r w ((s.seg g).stretch == some true)
    | none => s
  else s

/-- The meaning of CALL_END (R109). -/
def execCallEnd (g : Seg) (bus : List BusAnswer) (stopMade : Bool) (s : State) : Host.Outcome State Fault Refusal :=
  act (·.enrolEnds .calling g bus stopMade) s

/-- The meaning of IDENTIFY_END (R110). -/
def execIdentifyEnd (g : Seg) (bus : List BusAnswer) (stopMade : Bool) (s : State) : Host.Outcome State Fault Refusal :=
  act (·.enrolEnds .identifying g bus stopMade) s

/-- The meaning of ASSIGN_END (R113). -/
def execAssignEnd (g : Seg) (bus : List BusAnswer) (stopMade : Bool) (s : State) : Host.Outcome State Fault Refusal :=
  act (·.enrolEnds .assigning g bus stopMade) s

/-- The meaning of PARK_END (R114). -/
def execParkEnd (g : Seg) (bus : List BusAnswer) (stopMade : Bool) (s : State) : Host.Outcome State Fault Refusal :=
  act (·.enrolEnds .parking g bus stopMade) s

/-- The meaning of FORGET_END (R119). -/
def execForgetEnd (g : Seg) (bus : List BusAnswer) (stopMade : Bool) (s : State) : Host.Outcome State Fault Refusal :=
  act (·.enrolEnds .forgetting g bus stopMade) s

/-! ### RETRY_WAIT_EXPIRY -/

/-- The retry wait expires: the command is ready again, and the expiry is event 9 of R29 (R115). -/
def retryWaitExpires (g : Seg) (s : State) : State :=
  if (s.seg g).engine.retryWait.isSome then (s.modEngine g fun e => { e with retryWait := none }).markChoice g else s

/-- The meaning of RETRY_WAIT_EXPIRY (R115). -/
def execRetryWaitExpiry (g : Seg) (s : State) : Host.Outcome State Fault Refusal := act (retryWaitExpires g) s

end Sys2Proof.Machine
end

