-- ==== Sys2Proof/Machine/Notices.lean ====
section
/-!
DEFINITION. The Notice Monitor (Section Nine): NOTICE_LINE_ASSERTED, NOTICE_LINE_RELEASED and NOTICE_QUERY_END, and the
outcome of whatever activity a segment had handed.
-/

namespace Sys2Proof.Machine

/-- Change the notice service of a segment. -/
def State.modNotice (s : State) (g : Seg) (f : Notice → Notice) : State :=
  s.modSeg g fun sg => { sg with notice := f sg.notice }

/-- The segment's notice claim is placed, and the retry count becomes 0 (R139, R145). -/
def State.claimNotice (s : State) (g : Seg) (c : NoticeClaim) : State :=
  (s.modNotice g fun n => { n with retries := 0, claim := some c }).placeClaimOnce (.notice g)

/-- The line is found released while the service is WATCHING: mismatches not yet reported are claimed (R143). -/
def State.watchReleased (s : State) (g : Seg) : State :=
  if 0 < (s.seg g).notice.retries then s.claimNotice g (.unclaimed true false) else s

/-- The service enters WATCHING: with the line asserted this is event 5 of R29 (R139). With the line released,
mismatches not yet reported are claimed by R143 at every such entry, also the one that follows a lost query or a bus
fault, of which R144 says that it places no claim itself (log entry 34). -/
def State.enterWatching (s : State) (g : Seg) : State :=
  let s := s.modNotice g fun n => { n with state := .watching }
  if (s.seg g).noticeLine then s.markChoice g else s.watchReleased g

/-- The service becomes OFF with retry count 0 (R139). -/
def Notice.off (n : Notice) : Notice := { n with state := .off, retries := 0 }

/-- A query's result returns the service to WATCHING, or leaves it OFF where its item was turned off (R139). -/
def State.noticeResume (s : State) (g : Seg) : State :=
  if (s.seg g).notice.state = .off then s.modNotice g (·.off) else s.enterWatching g

/-- A query went unclaimed: PAUSED, or WATCHING at once where the line is already released, or OFF (R142, R139). -/
def State.noticePause (s : State) (g : Seg) : State :=
  if (s.seg g).notice.state = .off then s.modNotice g (·.off)
  else if (s.seg g).noticeLine then s.modNotice g fun n => { n with state := .paused }
  else s.enterWatching g

/-! ### Results -/

/-- A good answer (R141). -/
def State.noticeGood (s : State) (g : Seg) (r : TxRun) : State :=
  let a : Addr := (r.read.getD 0 0).setWidth 7
  s.claimNotice g (.notice a (r.read.getD 1 0) (s.entryByAddress g a) (s.seg g).notice.retries)

/-- A mismatch, or a stretch timeout, which is read in the same way (R143). -/
def State.noticeMismatch (s : State) (g : Seg) (stretched : Bool) : State :=
  if (s.seg g).notice.retries < 2 then
    (s.modNotice g fun n => { n with retries := n.retries + 1 }).noticeResume g
  else (s.claimNotice g (.unclaimed true stretched)).noticePause g

/-- The Notice Monitor reads the result of its query (R141 to R144). -/
def State.noticeOutcome (s : State) (g : Seg) (r : TxRun) : TxWay → State
  | .finished => if r.matched then s.noticeGood g r else s.noticeMismatch g false
  | .busFault true => if r.matched then s.noticeGood g r else s.noticeResume g
  | .addressRefused => (s.claimNotice g (.unclaimed (decide (0 < (s.seg g).notice.retries)) false)).noticePause g
  | .stretchTimeout => s.noticeMismatch g true
  | _ => s.noticeResume g

/-- The end of the query running on a segment. -/
def queryEnds (g : Seg) (bus : List BusAnswer) (stopMade : Bool) (s : State) : State :=
  match s.txEnd g .notice bus stopMade with
  | some (r, w) => (s.leaveBus g w).noticeOutcome g r w
  | none => s

/-- The meaning of NOTICE_QUERY_END (R141 to R144). -/
def execNoticeQueryEnd (g : Seg) (bus : List BusAnswer) (stopMade : Bool) (s : State) :
    Host.Outcome State Fault Refusal :=
  act (queryEnds g bus stopMade) s

/-! ### The notice line -/

/-- The level of a notice line, which is a pin. -/
def State.setNoticeLine (s : State) (g : Seg) (asserted : Bool) : State :=
  s.modSeg g fun sg => { sg with noticeLine := asserted }

/-- The line has become asserted: event 5 of R29 in WATCHING (R139). -/
def lineAsserted (g : Seg) (s : State) : State :=
  if (s.seg g).notice.state = .watching then s.markChoice g else s

/-- The meaning of NOTICE_LINE_ASSERTED (R140). -/
def execNoticeLineAsserted (g : Seg) (s : State) : Host.Outcome State Fault Refusal :=
  if (s.seg g).noticeLine then act id s else act (lineAsserted g) (s.setNoticeLine g true)

/-- The line has become released: PAUSED passes to WATCHING, and in WATCHING the retry count ends (R142, R143). -/
def lineReleased (g : Seg) (s : State) : State :=
  match (s.seg g).notice.state with
  | .paused => s.enterWatching g
  | .watching => s.watchReleased g
  | .off => s
  | .querying => s

/-- The meaning of NOTICE_LINE_RELEASED (R142, R143). -/
def execNoticeLineReleased (g : Seg) (s : State) : Host.Outcome State Fault Refusal :=
  if (s.seg g).noticeLine then act (lineReleased g) (s.setNoticeLine g false) else act id s

/-! ### The outcome of an activity -/

/-- The owner of an activity takes its result (R32, R57). `eighth` is read by a FORGET only. -/
def State.activityOutcome (s : State) (g : Seg) (a : Activity) (r : TxRun) (w : TxWay) (eighth : Bool) : State :=
  match a with
  | .job i => s.jobOutcome g i r w
  | .notice => s.noticeOutcome g r w
  | .enrol => s.engineOutcome g r w eighth
  | .probe entry addr => s.probeOutcome g entry addr w

/-- What an activity cut off had done: the answers to its bytes if it was driving the bus, and else nothing (R84). -/
def State.runSoFar (s : State) (g : Seg) (a : Activity) (cut : BusCut) : TxRun :=
  if (s.seg g).sc = .controlling then (runTx (s.descOf g a) cut.answers).afterStretch (s.seg g).stretch.isSome
  else TxRun.start (s.descOf g a)

end Sys2Proof.Machine
end

