-- ==== Sys2Proof/Machine/Segments.lean ====
section
/-!
DEFINITION. Segment Control (Section Eleven): SEGMENT_CONFIGURE, SEGMENT_ENABLE, SEGMENT_DISABLE, SEGMENT_RECOVER, and
the fault claim.
-/

namespace Sys2Proof.Machine

/-! ### SEGMENT_CONFIGURE -/

/-- The item list of a request (Table 13-4). -/
def itemList (body : List Byte) : List (Byte × Byte) := pairsOf (byteAt body 1).toNat (body.drop 2)

/-- The configuration that would result, or `none` where R154 refuses the list BAD_VALUE. -/
def newConfig (c : SegConfig) (items : List (Byte × Byte)) : Option SegConfig :=
  if itemsDistinct items then (c.setItems items).filter fun c => decide (c.poolFirst.toNat ≤ c.poolLast.toNat) else none

/-- A live raw-address job of the segment names a reserved address (R155). -/
def State.rawJobAt (s : State) (g : Seg) (reserved : List Addr) : Bool :=
  allSlots.any fun i => match s.jobAt i with
    | some j => j.live && j.segment == g && match j.target with
      | .raw a => reserved.contains a
      | .handle _ => false
    | none => false

/-- A configuration fails a test of R155. -/
def State.configConflict (s : State) (g : Seg) (c : SegConfig) : Bool :=
  !decide c.reserved.Nodup || (c.reserved.any fun a => (s.entryByAddress g a).isSome) || s.rawJobAt g c.reserved

/-- Station enable turned off: the posted reply is removed (R156). -/
def Segment.dropPosted (sg : Segment) (old new : SegConfig) (ix : StationIx) : Segment :=
  if (old.station ix).enable ∧ (new.station ix).enable = false then
    sg.modStation ix fun st => { st with posted := none }
  else sg

/-- The notice service item changes on an enabled segment (R139). -/
def State.noticeItem (s : State) (g : Seg) (old new : SegConfig) : State :=
  if (s.seg g).enabled = false ∨ old.noticeService = new.noticeService then s
  else if new.noticeService then
    if (s.seg g).handed = some .notice then s.modNotice g fun n => { n with state := .querying }
    else s.enterWatching g
  else s.modNotice g (·.off)

/-- The roll timer at a setting: stopped for 0, else the interval (R97). -/
def rollTimerFor (interval : Nat) : Option Nat := if interval = 0 then none else some interval

/-- The roll interval changes on an enabled segment (R97, log entry 23). -/
def Segment.rollItem (sg : Segment) (old new : SegConfig) : Segment :=
  if sg.enabled = false ∨ old.rollInterval = new.rollInterval then sg
  else { sg with rollTimer := rollTimerFor new.rollInterval }

/-- A configuration takes effect (R154, R156). -/
def State.configure (s : State) (g : Seg) (new : SegConfig) : State :=
  let old := (s.seg g).config
  (s.modSeg g fun sg =>
    ((({ sg with config := new }.dropPosted old new 0).dropPosted old new 1).rollItem old new)).noticeItem g old new

/-- SEGMENT_CONFIGURE executed: the checks of R154 in order, and the change. -/
def runConfigure (body : List Byte) (s : State) : State × Answer :=
  match segOf (byteAt body 0) with
  | none => (s, .refused .badValue)
  | some g =>
    match newConfig (s.seg g).config (itemList body) with
    | none => (s, .refused .badValue)
    | some c =>
      if (s.seg g).enabled ∧ (itemList body).any (fun p => !liveItem p.1) then (s, .refused .segmentEnabled)
      else if s.configConflict g c then (s, .refused .conflict)
      else (s.configure g c, .ok (segCode g :: c.items))

/-- SEGMENT_CONFIGURE as a request (R154). -/
def requestConfigure (tag : Byte) (body : List Byte) (s : State) : State :=
  takeFrame 0x10 tag (configureSize body) (runConfigure body) s

/-- The meaning of SEGMENT_CONFIGURE (R154). -/
def execSegmentConfigure (tag : Byte) (body : List Byte) (s : State) : Host.Outcome State Fault Refusal :=
  act (requestConfigure tag body) s

/-! ### SEGMENT_ENABLE -/

/-- The segment's side of an enable (R157). -/
def Segment.enable (sg : Segment) : Segment :=
  { sg with sc := .idle, monitor := .unknown, stopSeen := false, rollTimer := rollTimerFor sg.config.rollInterval }

/-- A segment is enabled; the entry to IDLE is event 1 of R29 (R157). -/
def State.enable (s : State) (g : Seg) : State :=
  let s := (s.modSeg g (·.enable)).markChoice g
  if (s.seg g).config.noticeService then s.enterWatching g else s

/-- SEGMENT_ENABLE executed (R157). -/
def runEnable (body : List Byte) (s : State) : State × Answer :=
  match segOf (byteAt body 0) with
  | none => (s, .refused .badValue)
  | some g => if (s.seg g).enabled then (s, .refused .segmentEnabled) else (s.enable g, .ok [])

/-- SEGMENT_ENABLE as a request (R157). -/
def requestEnable (tag : Byte) (body : List Byte) (s : State) : State :=
  takeFrame 0x11 tag (sizeIs 1 body) (runEnable body) s

/-- The meaning of SEGMENT_ENABLE (R157). -/
def execSegmentEnable (tag : Byte) (body : List Byte) (s : State) : Host.Outcome State Fault Refusal :=
  act (requestEnable tag body) s

/-! ### SEGMENT_DISABLE -/

/-- Steps 1, 2 and 9 of R158: the lines are released, the handed activity and any recovery abandoned, the monitor OFF
and the Segment Controller DISABLED. -/
def Segment.release (sg : Segment) : Segment :=
  { sg with
    sc := .disabled
    monitor := .off
    stopSeen := false
    handed := none
    stretch := none
    recoverRequested := false }

/-- What an attempt that is abandoned reports: its partial counts, with its flags as they stand and without a check
byte, since its result is not read (R64, R84, R158). -/
def TxRun.partialCounts (r : TxRun) : EndCounts := ⟨r.written, r.read, none, false, false⟩

/-- What the attempt that a disable cuts off had done; nothing where no job's attempt is handed (R84). -/
def State.cutRun (s : State) (g : Seg) (cut : BusCut) : EndCounts :=
  match (s.seg g).handed with
  | some (.job i) => (s.runSoFar g (.job i) cut).partialCounts
  | _ => .nothing

/-- The presence effect of the address bytes that an attempt had acknowledged at the disable (R79, log entry 7). -/
def State.cutPresence (s : State) (g : Seg) (cut : BusCut) : State :=
  match (s.seg g).handed with
  | some (.job i) =>
    match s.jobAt i with
    | some j => s.presenceAck j (s.runSoFar g (.job i) cut)
    | none => s
  | _ => s

/-- Step 3 of R158: the current job ends, with its partial counts if ACTIVE. -/
def State.endCurrent (s : State) (g : Seg) (c : EndCounts) : State :=
  match (s.seg g).current with
  | none => s
  | some i =>
    match s.jobAt i with
    | none => s
    | some j => s.endJob i .segmentDisabled (if j.state = .active then c else .nothing)

/-- A job that FLUSH ends (R159). -/
def Job.flushed (j : Job) (g : Seg) : Bool :=
  j.segment == g && (j.state == .staging || j.state == .held || j.state == .queued)

/-- FLUSH ends the waiting jobs of the segment in order of acceptance; one that an earlier end has cascaded keeps its
status (R159). -/
def State.flush (s : State) (g : Seg) : State :=
  s.accepted.foldl
    (fun s i => if (s.jobAt i).any (·.flushed g) then s.endJob i .segmentDisabled .nothing else s) s

/-- Steps 6 to 8 of R158. -/
def Segment.quiet (sg : Segment) : Segment :=
  { sg with
    notice := sg.notice.off
    rollTimer := none
    fairness := 0
    current := none
    backoffTimer := none
    backoffExpired := false }

/-- Step 4 of R158. -/
def State.abortSweep (s : State) (g : Seg) : State :=
  if (s.seg g).engine.busy then s.endSweep g .aborted else s

/-- The disable of an enabled segment, its claims in the order of R159. -/
def State.disable (s : State) (g : Seg) (flush : Bool) (cut : BusCut) : State :=
  let counts := s.cutRun g cut
  let s := s.cutPresence g cut
  let s := (s.modSeg g (·.release)).endCurrent g counts
  let s := if flush then s.flush g else s
  let s := (s.abortSweep g).abandonService g cut.sent
  (s.modSeg g (·.quiet)).mapEntries g fun e => { e with probeDue := false }

/-- The mode of a disable (Table 13-1): `true` for FLUSH. -/
def flushOf (b : Byte) : Option Bool := boolOf b

/-- SEGMENT_DISABLE executed (R158). -/
def runDisable (body : List Byte) (cut : BusCut) (s : State) : State × Answer :=
  match segOf (byteAt body 0), flushOf (byteAt body 1) with
  | some g, some flush =>
    let t := if (s.seg g).enabled then s.disable g flush cut else if flush then s.flush g else s
    (t, .ok [byteOf (t.endedCount - s.endedCount)])
  | _, _ => (s, .refused .badValue)

/-- SEGMENT_DISABLE as a request (R158). -/
def requestDisable (tag : Byte) (body : List Byte) (cut : BusCut) (s : State) : State :=
  takeFrame 0x12 tag (sizeIs 2 body) (runDisable body cut) s

/-- The meaning of SEGMENT_DISABLE (R158). -/
def execSegmentDisable (tag : Byte) (body : List Byte) (cut : BusCut) (s : State) :
    Host.Outcome State Fault Refusal :=
  act (requestDisable tag body cut) s

/-! ### SEGMENT_RECOVER -/

/-- SEGMENT_RECOVER executed (R163). -/
def runRecover (body : List Byte) (s : State) : State × Answer :=
  match segOf (byteAt body 0) with
  | none => (s, .refused .badValue)
  | some g =>
    match (s.seg g).sc with
    | .disabled => (s, .refused .segmentDisabled)
    | .fault => (s.modSeg g fun sg => { sg with sc := .recovering, recoverRequested := true }, .ok [])
    | _ => (s, .refused .busy)

/-- SEGMENT_RECOVER as a request (R163). -/
def requestRecover (tag : Byte) (body : List Byte) (s : State) : State :=
  takeFrame 0x13 tag (sizeIs 1 body) (runRecover body) s

/-- The meaning of SEGMENT_RECOVER (R163). -/
def execSegmentRecover (tag : Byte) (body : List Byte) (s : State) : Host.Outcome State Fault Refusal :=
  act (requestRecover tag body) s

/-! ### The fault claim -/

/-- The fault claim after an entry to FAULT (R161). -/
def faultClaimAfterEntry (old : Option FaultClaim) (line : BusLine) : FaultClaim :=
  match old with
  | none => ⟨false, some line, 1, 0⟩
  | some c => { c with recovered := false, line := some line, faults := bump c.faults }

/-- The fault claim after an exit from FAULT (R161). -/
def faultClaimAfterExit (old : Option FaultClaim) : FaultClaim :=
  match old with
  | none => ⟨true, none, 0, 1⟩
  | some c => { c with recovered := true, recoveries := bump c.recoveries }

/-- The segment places or updates its fault claim (R161). -/
def State.claimFault (s : State) (g : Seg) (f : Option FaultClaim → FaultClaim) : State :=
  let t := s.modSeg g fun sg => { sg with faultClaim := some (f sg.faultClaim) }
  if (s.seg g).faultClaim.isSome then t else t.placeClaim (.fault g)

end Sys2Proof.Machine
end

