-- ==== Sys2Proof/Machine/Bus.lean ====
section
/-!
DEFINITION. The bus monitor and the faults of the Segment Controller (Section Four): BUS_START_SEEN,
CLOCK_FALL_DATA_HIGH, FREE_TIME_ELAPSED, LINES_HIGH_1MS, STUCK_DETECTED, STRETCH_TIMEOUT and RECOVERY_END.
-/

namespace Sys2Proof.Machine

/-! ### Starts and clock falls -/

/-- The meaning of BUS_START_SEEN (R53): from every state but OFF the monitor is BUSY. -/
def execBusStartSeen (g : Seg) (s : State) : Host.Outcome State Fault Refusal :=
  act (fun s => s.modSeg g (·.startSeen)) s

/-- The clock falls while the data line is high (R53): a start missed, unless the monitor is BUSY already. -/
def Segment.clockFall (sg : Segment) : Segment := if sg.monitor = .busy then sg else sg.startSeen

/-- The meaning of CLOCK_FALL_DATA_HIGH (R53). -/
def execClockFallDataHigh (g : Seg) (s : State) : Host.Outcome State Fault Refusal :=
  act (fun s => s.modSeg g (·.clockFall)) s

/-! ### FREE -/

/-- The monitor turns FREE, an activity waiting in CONTENDING drives its start (R50, R53); it is event 7 of R29. -/
def State.turnFree (s : State) (g : Seg) : State :=
  (s.modSeg g fun sg => { sg with monitor := .free, stopSeen := false }.driveStart).markChoice g

/-- Both lines have read high for the free time after a stop (R53), in whatever state the Segment Controller is. In
CONTROLLING the stop is that of a winner inside the first address byte; the activity stays there (log entry 37). -/
def freeTimeElapses (g : Seg) (s : State) : State :=
  let sg := s.seg g
  if (sg.monitor = .busy ∨ sg.monitor = .stuck) ∧ sg.stopSeen then s.turnFree g else s

/-- The meaning of FREE_TIME_ELAPSED (R53). -/
def execFreeTimeElapsed (g : Seg) (s : State) : Host.Outcome State Fault Refusal := act (freeTimeElapses g) s

/-- A segment leaves FAULT (R162). -/
def State.leaveFault (s : State) (g : Seg) : State :=
  ((s.modSeg g fun sg => { sg with sc := .idle }).claimFault g faultClaimAfterExit).markChoice g

/-- Both lines high for 1 ms can be read: not while the segment is off, nor while the Broker itself holds the clock low
for a held read (log entry 3). In CONTROLLING they are read where a winner has vanished before the eighth bit of the
address byte in which the Broker lost; the activity stays there (log entry 37). -/
def Segment.linesCanRest (sg : Segment) : Bool := sg.monitor != .off && !sg.holdsClock

/-- Both lines have read high for 1 ms (R53, R58, R162): the monitor is FREE, a service whose controller vanished ends
as at a stop, FAULT is left, and an activity in CONTENDING starts. -/
def linesHigh (g : Seg) (n : Nat) (s : State) : State :=
  if (s.seg g).linesCanRest then
    let was := (s.seg g).monitor
    let s := if was = .free then s else s.turnFree g
    match (s.seg g).sc with
    | .serving => if was = .busy then (s.endTransaction g n false).leaveServing g else s
    | .fault => s.leaveFault g
    | _ => s
  else s

/-- The meaning of LINES_HIGH_1MS (R53, R58, R162). -/
def execLinesHigh1ms (g : Seg) (n : Nat) (s : State) : Host.Outcome State Fault Refusal := act (linesHigh g n) s

/-! ### FAULT and STUCK -/

/-- The handed activity ends with the result bus fault (R54, R62). -/
def State.faultActivity (s : State) (g : Seg) (cut : BusCut) : State :=
  match (s.seg g).handed with
  | none => s
  | some a =>
    (s.modSeg g fun sg => { sg with handed := none, stretch := none }).activityOutcome g a (s.runSoFar g a cut)
      (.busFault false) false

/-- The Segment Controller passes to a state in which no role is active. -/
def State.passTo (s : State) (g : Seg) (sc : ScState) : State :=
  s.modSeg g fun sg => { sg with sc := sc, recoverRequested := false }

/-- The Segment Controller enters FAULT (R62): the activity's claims, the service's, and then the fault claim (R77, log
entry 10). -/
def State.enterFault (s : State) (g : Seg) (line : BusLine) (cut : BusCut) : State :=
  (((s.faultActivity g cut).passTo g .fault).abandonService g cut.sent).claimFault g (faultClaimAfterEntry · line)

/-- The Segment Controller enters RECOVERING at a STUCK data line (R54): an activity in CONTROLLING ends as bus fault,
one that waits stays handed, and a service is abandoned. -/
def State.enterRecovering (s : State) (g : Seg) (cut : BusCut) : State :=
  let s := if (s.seg g).sc = .controlling then s.faultActivity g cut else s
  (s.passTo g .recovering).abandonService g cut.sent

/-- The monitor may enter STUCK (Table 4-3). -/
def Segment.canStick (sg : Segment) : Bool :=
  match sg.monitor with
  | .unknown => true
  | .free => true
  | .busy => true
  | .off => false
  | .stuck => false

/-- The bus monitor enters STUCK, and the Segment Controller acts on the line held (R54). -/
def stuckDetected (g : Seg) (line : BusLine) (cut : BusCut) (s : State) : State :=
  if (s.seg g).canStick then
    let s := s.modSeg g fun sg => { sg with monitor := .stuck, stopSeen := false }
    match (s.seg g).sc with
    | .recovering => s
    | .fault => s
    | .disabled => s
    | _ =>
      match line with
      | .clock => s.enterFault g .clock cut
      | .data => s.enterRecovering g cut
  else s

/-- The meaning of STUCK_DETECTED (R54). -/
def execStuckDetected (g : Seg) (line : BusLine) (cut : BusCut) (s : State) : Host.Outcome State Fault Refusal :=
  act (stuckDetected g line cut) s

/-! ### STRETCH_TIMEOUT -/

/-- The activity in CONTROLLING has a stretch timeout (R51); it ends when its stop is made or fails. -/
def Segment.stretched (sg : Segment) (eighth : Bool) : Segment :=
  if sg.sc = .controlling ∧ sg.stretch = none then { sg with stretch := some eighth } else sg

/-- The meaning of STRETCH_TIMEOUT (R51). -/
def execStretchTimeout (g : Seg) (eighth : Bool) (s : State) : Host.Outcome State Fault Refusal :=
  act (fun s => s.modSeg g (·.stretched eighth)) s

/-! ### RECOVERY_END -/

/-- How a recovery ends (R61). -/
inductive RecoveryResult
  | stopMade
  | dataHeld
  | clockHeld
  deriving DecidableEq, Repr

/-- The end of a recovery of which `n` pulses may still be given; `none` where these pulses do not end it (R61). -/
def recoveryResult : Nat → List RecoveryPulse → Option RecoveryResult
  | 0, _ => some .dataHeld
  | _ + 1, [] => none
  | _ + 1, .stopMade :: _ => some .stopMade
  | _ + 1, .clockHeld :: _ => some .clockHeld
  | n + 1, .dataLow :: rest => recoveryResult n rest
  | n + 1, .stopFailed :: rest => recoveryResult n rest

/-- What the monitor sees of a recovery (R53, R61): a clock fall with the data line high before each stop, the stop
made, or the clock held for 2L (log entry 19). -/
def Segment.recoveryWatched (sg : Segment) (pulses : List RecoveryPulse) : RecoveryResult → Segment
  | .stopMade => sg.clockFall.seeStop
  | .dataHeld => if pulses.contains .stopFailed then sg.clockFall else sg
  | .clockHeld => { sg with monitor := .stuck, stopSeen := false }

/-- A recovery succeeds: IDLE, or CONTENDING if an activity stayed handed; one that SEGMENT_RECOVER started is an exit
from FAULT (R61, R163). -/
def State.recovered (s : State) (g : Seg) : State :=
  let t := s.passTo g (if (s.seg g).handed.isSome then .contending else .idle)
  (if (s.seg g).recoverRequested then t.claimFault g faultClaimAfterExit else t).markChoice g

/-- The Segment Controller takes the result of its recovery (R61). -/
def State.recoveryOutcome (s : State) (g : Seg) : RecoveryResult → State
  | .stopMade => s.recovered g
  | .dataHeld => s.enterFault g .data ⟨[], 0⟩
  | .clockHeld => s.enterFault g .clock ⟨[], 0⟩

/-- The recovery running on a segment ends (R61). -/
def recoveryEnds (g : Seg) (pulses : List RecoveryPulse) (s : State) : State :=
  if (s.seg g).sc = .recovering then
    match recoveryResult Config.recoveryPulses pulses with
    | some r => (s.modSeg g (·.recoveryWatched pulses r)).recoveryOutcome g r
    | none => s
  else s

/-- The meaning of RECOVERY_END (R61). -/
def execRecoveryEnd (g : Seg) (pulses : List RecoveryPulse) (s : State) : Host.Outcome State Fault Refusal :=
  act (recoveryEnds g pulses) s

end Sys2Proof.Machine
end

