-- ==== Sys2Proof/Machine/Frames.lean ====
section
/-!
DEFINITION. The receiver of HRX (R165, R166): the frames found in the bytes that arrive, the request each carries, and
the meanings of FRAME_DISCARDED and HRX_GAP_TIMEOUT.
-/

namespace Sys2Proof.Machine

/-- A request frame taken whole goes to its owning block by its kind (R167, Table 13-4). -/
def takeRequest (f : Frame) (cut : BusCut) (s : State) : State :=
  match f.kind.toNat with
  | 0x01 => requestStatus f.tag f.body s
  | 0x02 => requestRestart f.tag f.body s
  | 0x03 => requestSync f.tag f.body s
  | 0x04 => requestAck f.tag f.body s
  | 0x05 => requestResend f.tag f.body s
  | 0x10 => requestConfigure f.tag f.body s
  | 0x11 => requestEnable f.tag f.body s
  | 0x12 => requestDisable f.tag f.body cut s
  | 0x13 => requestRecover f.tag f.body s
  | 0x20 => requestSubmit f.tag f.body s
  | 0x21 => requestAppend f.tag f.body s
  | 0x22 => requestCancel f.tag f.body s
  | 0x23 => requestQuery f.tag f.body s
  | 0x30 => requestRosterRead f.tag f.body s
  | 0x31 => requestAddFixed f.tag f.body s
  | 0x32 => requestRemove f.tag f.body s
  | 0x33 => requestSweep f.tag f.body s
  | 0x34 => requestForget f.tag f.body s
  | 0x38 => requestPost f.tag f.body s
  | 0x39 => requestWithdraw f.tag f.body s
  | _ => requestUnknown f.kind f.tag s

/-- What the bytes after a lead hold. -/
inductive FrameIn
  /-- More bytes are needed. -/
  | incomplete
  /-- A bad length, or a check that differs. -/
  | bad
  /-- A frame whose check is good, and the bytes after it. -/
  | good (f : Frame) (rest : List Byte)
  deriving DecidableEq, Repr

/-- The frame that the bytes after a lead begin with (R166). -/
def frameIn : List Byte → FrameIn
  | [] => .incomplete
  | len :: more =>
    let n := len.toNat
    if n < 2 ∨ Config.maxBody + 2 < n then .bad
    else if more.length < n + 2 then .incomplete
    else if (more.drop n).take 2 = checkBytes (crc16 (len :: more.take n)) then
      .good ⟨byteAt more 0, byteAt more 1, (more.take n).drop 2⟩ (more.drop (n + 2))
    else .bad

/-- The receiver goes through bytes from hunting (R166): each good frame is decoded, as an action of its own, and
hunting goes on after it; a discarded frame's bytes are scanned again from the byte after its lead. `broken` says that
a gap or a low stop bit follows the bytes, which discards every frame still in progress (log entry 15). Once a RESTART
is answered OK the bytes that arrive are discarded (R178). -/
def scan (broken : Bool) (cut : BusCut) : Nat → List Byte → State → State
  | 0, _, s => s
  | _ + 1, [], s => { s with rx := none }
  | n + 1, b :: rest, s =>
    if s.restart.isSome then { s with rx := none }
    else if b = Config.frameLead then
      match frameIn rest with
      | .incomplete => if broken then scan broken cut n rest s else { s with rx := some rest }
      | .bad => scan broken cut n rest s
      | .good f more => scan broken cut n more (takeRequest f cut s).settle
    else scan broken cut n rest s

/-- The bytes since the lead of the frame in progress, the lead among them; nothing while hunting. -/
def State.received (s : State) : List Byte :=
  match s.rx with
  | none => []
  | some bs => Config.frameLead :: bs

/-- Bytes arrive on HRX (R166). -/
def bytesArrive (bytes : List Byte) (broken : Bool) (cut : BusCut) (s : State) : State :=
  scan broken cut ((s.received ++ bytes).length + 1) (s.received ++ bytes) s

/-- The meaning of FRAME_DISCARDED (R166). -/
def execFrameDiscarded (bytes : List Byte) (lowStop : Bool) (cut : BusCut) (s : State) :
    Host.Outcome State Fault Refusal :=
  act (bytesArrive bytes lowStop cut) s

/-- The meaning of HRX_GAP_TIMEOUT (R166). -/
def execHrxGapTimeout (bytes : List Byte) (cut : BusCut) (s : State) : Host.Outcome State Fault Refusal :=
  act (bytesArrive bytes true cut) s

end Sys2Proof.Machine
end

