-- ==== Sys2Proof/Machine/Dispatch.lean ====
section
/-!
DEFINITION. One arm per command: each calls the meaning of its row.
-/

namespace Sys2Proof.Machine

/-- The effect of a command on everything but the queue. -/
def exec (i : Instr) (s : State) : Host.Outcome State Fault Refusal :=
  match i with
  | .powerOn => Sys2Proof.Machine.execPowerOn s
  | .rstAssert => Sys2Proof.Machine.execRstAssert s
  | .rstRelease => Sys2Proof.Machine.execRstRelease s
  | .restartTaken => Sys2Proof.Machine.execRestartTaken s
  | .frameDiscarded bytes lowStop cut => Sys2Proof.Machine.execFrameDiscarded bytes lowStop cut s
  | .hrxGapTimeout bytes cut => Sys2Proof.Machine.execHrxGapTimeout bytes cut s
  | .unknownKindFrame kind tag body => Sys2Proof.Machine.execUnknownKindFrame kind tag body s
  | .htxFrameSent => Sys2Proof.Machine.execHtxFrameSent s
  | .status tag body => Sys2Proof.Machine.execStatus tag body s
  | .restart tag body => Sys2Proof.Machine.execRestart tag body s
  | .sync tag body => Sys2Proof.Machine.execSync tag body s
  | .ackReports tag body => Sys2Proof.Machine.execAckReports tag body s
  | .resendReports tag body => Sys2Proof.Machine.execResendReports tag body s
  | .segmentConfigure tag body => Sys2Proof.Machine.execSegmentConfigure tag body s
  | .segmentEnable tag body => Sys2Proof.Machine.execSegmentEnable tag body s
  | .segmentDisable tag body cut => Sys2Proof.Machine.execSegmentDisable tag body cut s
  | .segmentRecover tag body => Sys2Proof.Machine.execSegmentRecover tag body s
  | .submit tag body => Sys2Proof.Machine.execSubmit tag body s
  | .append tag body => Sys2Proof.Machine.execAppend tag body s
  | .cancel tag body => Sys2Proof.Machine.execCancel tag body s
  | .queryJob tag body => Sys2Proof.Machine.execQueryJob tag body s
  | .rosterRead tag body => Sys2Proof.Machine.execRosterRead tag body s
  | .rosterAddFixed tag body => Sys2Proof.Machine.execRosterAddFixed tag body s
  | .rosterRemove tag body => Sys2Proof.Machine.execRosterRemove tag body s
  | .enrolSweep tag body => Sys2Proof.Machine.execEnrolSweep tag body s
  | .enrolForget tag body => Sys2Proof.Machine.execEnrolForget tag body s
  | .postReply tag body => Sys2Proof.Machine.execPostReply tag body s
  | .withdrawReply tag body => Sys2Proof.Machine.execWithdrawReply tag body s
  | .stagingTimerExpiry slot => Sys2Proof.Machine.execStagingTimerExpiry slot s
  | .deadlineExpiry slot => Sys2Proof.Machine.execDeadlineExpiry slot s
  | .backoffTimerExpiry g => Sys2Proof.Machine.execBackoffTimerExpiry g s
  | .rollTimerExpiry g => Sys2Proof.Machine.execRollTimerExpiry g s
  | .holdTimerExpiry g => Sys2Proof.Machine.execHoldTimerExpiry g s
  | .retryWaitExpiry g => Sys2Proof.Machine.execRetryWaitExpiry g s
  | .jobAttemptEnd g bus stopMade => Sys2Proof.Machine.execJobAttemptEnd g bus stopMade s
  | .cancelAtByteBoundary g bus next stopMade => Sys2Proof.Machine.execCancelAtByteBoundary g bus next stopMade s
  | .probeEnd g bus stopMade => Sys2Proof.Machine.execProbeEnd g bus stopMade s
  | .callEnd g bus stopMade => Sys2Proof.Machine.execCallEnd g bus stopMade s
  | .identifyEnd g bus stopMade => Sys2Proof.Machine.execIdentifyEnd g bus stopMade s
  | .assignEnd g bus stopMade => Sys2Proof.Machine.execAssignEnd g bus stopMade s
  | .parkEnd g bus stopMade => Sys2Proof.Machine.execParkEnd g bus stopMade s
  | .forgetEnd g bus stopMade => Sys2Proof.Machine.execForgetEnd g bus stopMade s
  | .noticeQueryEnd g bus stopMade => Sys2Proof.Machine.execNoticeQueryEnd g bus stopMade s
  | .noticeLineAsserted g => Sys2Proof.Machine.execNoticeLineAsserted g s
  | .noticeLineReleased g => Sys2Proof.Machine.execNoticeLineReleased g s
  | .busStartSeen g => Sys2Proof.Machine.execBusStartSeen g s
  | .clockFallDataHigh g => Sys2Proof.Machine.execClockFallDataHigh g s
  | .busStopSeen g sent => Sys2Proof.Machine.execBusStopSeen g sent s
  | .busRepeatedStartSeen g sent => Sys2Proof.Machine.execBusRepeatedStartSeen g sent s
  | .freeTimeElapsed g => Sys2Proof.Machine.execFreeTimeElapsed g s
  | .linesHigh1ms g sent => Sys2Proof.Machine.execLinesHigh1ms g sent s
  | .stuckDetected g line cut => Sys2Proof.Machine.execStuckDetected g line cut s
  | .stretchTimeout g afterEighthBit => Sys2Proof.Machine.execStretchTimeout g afterEighthBit s
  | .recoveryEnd g pulses => Sys2Proof.Machine.execRecoveryEnd g pulses s
  | .addressMatch g address => Sys2Proof.Machine.execAddressMatch g address s
  | .inboundByte g b => Sys2Proof.Machine.execInboundByte g b s
  | .servedReadEnd g sent => Sys2Proof.Machine.execServedReadEnd g sent s

end Sys2Proof.Machine
end

