-- ==== Sys2Proof/Safety.lean ====
section
/-!
DEFINITION. What claims about the Broker are stated in: an outcome that is a next state with a property, and the laws
that the manual says hold at all times.
-/

namespace Sys2Proof.Machine

/-- The outcome is a next state with the property `P`. -/
def Gives (o : Host.Outcome State Fault Refusal) (P : State → Prop) : Prop := ∃ t, o = .next t ∧ P t

/-- The outcome is the state `t` with the choice points it has due made, and then the transmitter's choice. -/
def Ends (o : Host.Outcome State Fault Refusal) (t : State) : Prop := o = .next t.settle

/-! ### Requests -/

/-- The state with the receiver hunting, as it is when a request has been received whole (R166). -/
def State.hunting (s : State) : State := { s with rx := none }

/-- A request under `tag` is decoded and not stopped by a line of Table 12-1 above its kind: the block runs, no restart
is on its way, the reply queue has room, and the tag is neither cached nor 0. -/
structure Takes (s : State) (tag : Byte) : Prop where
  running : s.rstLow = false
  restart : s.restart = none
  room : s.replies.length < 8
  fresh : ∀ e ∈ s.cache, e.tag ≠ tag
  tag : tag ≠ 0

/-- The outcome of a request: its effect has made `t`, and the answer `a` is queued and cached. -/
def Answered (o : Host.Outcome State Fault Refusal) (kind tag : Byte) (a : Answer) (t : State) : Prop :=
  Ends o (t.reply kind tag a)

/-- Kind, tag and body size test of the commands that are frames received whole (Table 13-4). -/
def requestOf : Instr → Option (Byte × Byte × Bool)
  | .unknownKindFrame kind tag _ => if requestKinds.contains kind then none else some (kind, tag, true)
  | .status tag body => some (0x01, tag, body.length == 0)
  | .restart tag body => some (0x02, tag, body.length == 1)
  | .sync tag body => some (0x03, tag, body.length == 0)
  | .ackReports tag body => some (0x04, tag, body.length == 1)
  | .resendReports tag body => some (0x05, tag, body.length == 1)
  | .segmentConfigure tag body => some (0x10, tag, configureSize body)
  | .segmentEnable tag body => some (0x11, tag, body.length == 1)
  | .segmentDisable tag body _ => some (0x12, tag, body.length == 2)
  | .segmentRecover tag body => some (0x13, tag, body.length == 1)
  | .submit tag body => some (0x20, tag, submitSize body)
  | .append tag body => some (0x21, tag, decide (2 ≤ body.length))
  | .cancel tag body => some (0x22, tag, body.length == 2)
  | .queryJob tag body => some (0x23, tag, body.length == 2)
  | .rosterRead tag body => some (0x30, tag, body.length == 2)
  | .rosterAddFixed tag body => some (0x31, tag, body.length == 2)
  | .rosterRemove tag body => some (0x32, tag, body.length == 2)
  | .enrolSweep tag body => some (0x33, tag, body.length == 1)
  | .enrolForget tag body => some (0x34, tag, body.length == 1)
  | .postReply tag body => some (0x38, tag, decide (3 ≤ body.length))
  | .withdrawReply tag body => some (0x39, tag, body.length == 2)
  | _ => none

/-- The command that a frame received whole is. -/
def commandOf (f : Frame) (cut : BusCut) : Instr :=
  match f.kind.toNat with
  | 0x01 => .status f.tag f.body
  | 0x02 => .restart f.tag f.body
  | 0x03 => .sync f.tag f.body
  | 0x04 => .ackReports f.tag f.body
  | 0x05 => .resendReports f.tag f.body
  | 0x10 => .segmentConfigure f.tag f.body
  | 0x11 => .segmentEnable f.tag f.body
  | 0x12 => .segmentDisable f.tag f.body cut
  | 0x13 => .segmentRecover f.tag f.body
  | 0x20 => .submit f.tag f.body
  | 0x21 => .append f.tag f.body
  | 0x22 => .cancel f.tag f.body
  | 0x23 => .queryJob f.tag f.body
  | 0x30 => .rosterRead f.tag f.body
  | 0x31 => .rosterAddFixed f.tag f.body
  | 0x32 => .rosterRemove f.tag f.body
  | 0x33 => .enrolSweep f.tag f.body
  | 0x34 => .enrolForget f.tag f.body
  | 0x38 => .postReply f.tag f.body
  | 0x39 => .withdrawReply f.tag f.body
  | _ => .unknownKindFrame f.kind f.tag f.body

/-! ### Transactions in which the bus answers well -/

/-- A part of a transaction with the bytes that pass in it: written and acknowledged, read, or read after a count byte
that gives their number. -/
inductive Leg
  | wrote (bytes : List Byte)
  | gave (bytes : List Byte)
  | counted (max : Nat) (bytes : List Byte)
  deriving DecidableEq, Repr

/-- The part that the Broker runs (R59). -/
def Leg.part : Leg → Part
  | .wrote bs => .write bs
  | .gave bs => .read bs.length
  | .counted max _ => .counted max

/-- A read part has at least one byte, and a counted one at most `max`, below 255 (R59). -/
def Leg.fits : Leg → Bool
  | .wrote _ => true
  | .gave bs => !bs.isEmpty
  | .counted max bs => decide (bs.length ≤ max) && decide (max ≤ 254)

/-- The bytes after the address byte. -/
def Leg.data : Leg → List Byte
  | .wrote bs => bs
  | .gave bs => bs
  | .counted _ bs => byteOf bs.length :: bs

/-- The answers of the bus, the address acknowledged. -/
def Leg.answers (l : Leg) : List BusAnswer :=
  .ack :: match l with
    | .wrote bs => bs.map fun _ => .ack
    | _ => l.data.map .byte

/-- The covered bytes of the part (R63). -/
def Leg.covered (a : Addr) (l : Leg) : List Byte := addressByte a l.part.isRead :: l.data

/-- Write bytes of the part. -/
def Leg.written : Leg → Nat
  | .wrote bs => bs.length
  | _ => 0

/-- Read bytes of the part. -/
def Leg.got : Leg → List Byte
  | .wrote _ => []
  | l => l.data

/-! ### The Host Link -/

/-- The sequences of a queue of `n` reports whose next sequence is `q` (R171). -/
def sequencesBefore (q : BitVec 8) (n : Nat) : List (BitVec 8) := (List.range n).map fun k => q - BitVec.ofNat 8 (n - k)

/-- The laws of the Host Link Controller. -/
structure HostLinkOk (s : State) : Prop where
  /-- At most 8 replies wait (R169). -/
  replies : s.replies.length ≤ 8
  /-- At most 8 replies are cached (R168). -/
  cacheSize : s.cache.length ≤ 8
  /-- No tag stands twice in the cache (R168). -/
  cacheTags : (s.cache.map (·.tag)).Nodup
  /-- No reply is cached under tag 0 (R167). -/
  cacheTagged : ∀ e ∈ s.cache, e.tag ≠ 0
  /-- At most 64 reports stand in the queue (R171). -/
  reports : s.reports.length ≤ 64
  /-- Every SENT entry stands before every WAITING entry (R171). -/
  sentFirst : s.reports = s.reports.filter (·.sent) ++ s.reports.filter (!·.sent)
  /-- At most 16 entries are SENT (R170, R171). -/
  window : (s.reports.filter (·.sent)).length ≤ 16
  /-- The sequences are consecutive and end before the next sequence (R171). -/
  sequences : s.reports.map (·.seq) = sequencesBefore s.nextSeq s.reports.length
  /-- A claim waits only while the queue is full (R172, R176). -/
  claims : s.claims ≠ [] → s.reports.length = 64
  /-- ATTN is asserted while the queue holds an entry, and only then (R176). -/
  attn : s.attn = !s.reports.isEmpty
  /-- While RST is low the Report Queue holds its reset value (R178). -/
  held : s.rstLow = true → s.reports = []

/-! ### The Block Pool -/

/-- The blocks that job slots hold. -/
def State.jobBlocks (s : State) : Nat :=
  (allSlots.map fun i => match s.jobAt i with
    | some j => j.blocksHeld
    | none => 0).sum

/-- The blocks that the inbound messages of one segment hold, whether complete or in progress. -/
def Segment.messageBlocksHeld (sg : Segment) : Nat :=
  ((sg.inbound.toList.flatten).map fun m => (m.bytes.length + 31) / 32).sum + match sg.service with
    | .receiving m => (m.bytes.length + 31) / 32
    | _ => 0

/-- The law of the Block Pool (R147), with the fact that only a segment that is SERVING has a service. -/
structure PoolOk (s : State) : Prop where
  total : s.poolFree + s.jobBlocks + (allSegs.map fun g => (s.seg g).messageBlocksHeld).sum = 96
  service : ∀ g, (s.seg g).sc ≠ .serving → (s.seg g).service = .none

/-! ### Segments -/

/-- The Segment Controller, the bus monitor and Dispatch of one segment agree. -/
structure SegmentOk (sg : Segment) : Prop where
  /-- The bus monitor is OFF when the segment is disabled, and only then (R53, R56). -/
  off : sg.monitor = .off ↔ sg.sc = .disabled
  /-- The Segment Controller is SERVING when it has a service, and only then (R56). -/
  serving : sg.service = .none ↔ sg.sc ≠ .serving
  /-- An activity is handed while it waits in CONTENDING (R56). -/
  contending : sg.sc = .contending → sg.handed.isSome ∧ sg.monitor ≠ .free
  /-- An activity is handed while it runs, and the bus is BUSY, or FREE after a winner has stopped or vanished inside
  the first address byte (R53, R55, R56, log entry 37). -/
  controlling : sg.sc = .controlling → sg.handed.isSome ∧ (sg.monitor = .busy ∨ sg.monitor = .free)
  /-- Nothing is handed in IDLE, FAULT and DISABLED (R34, R56, R62). -/
  idle : sg.sc = .idle ∨ sg.sc = .fault ∨ sg.sc = .disabled → sg.handed = none
  /-- A stretch timeout belongs to the activity that runs (R51). -/
  stretch : sg.stretch.isSome → sg.sc = .controlling
  /-- A recovery that SEGMENT_RECOVER started is in progress (R163). -/
  recover : sg.recoverRequested = true → sg.sc = .recovering
  /-- The fairness count never exceeds 4 (R31). -/
  fairness : sg.fairness ≤ 4
  /-- The fairness count is 0 while the ROUTINE list is empty (R31). -/
  routine : sg.routine = [] → sg.fairness = 0

/-- Every segment agrees with itself. -/
def SegmentsOk (s : State) : Prop := ∀ g, SegmentOk (s.seg g)

/-! ### The Roster -/

/-- The laws of one roster entry (R87, R90, R91). -/
structure EntryOk (e : Entry) : Prop where
  /-- The miss count is 0 to 2 (R87, R90). -/
  misses : e.misses ≤ 2
  /-- A MISSING entry has miss count 0 (R90). -/
  missing : e.state = .missing → e.misses = 0
  /-- An ENROLLED entry is PRESENT or MISSING (R111). -/
  enrolled : e.isEnrolled = true → e.state ≠ .unconfirmed
  /-- An entry without a waiting claim has no flags and no change count (R91). -/
  quiet : e.claimWaiting = false → e.created = false ∧ e.moved = false ∧ e.changes = 0

/-- The chosen address of an ASSIGN in hand is held (R112): the sweep state is ASSIGNING, the segment is enabled, the
address is not reserved, and an entry of the segment at that address has the identity in hand. -/
def ChosenOk (s : State) (g : Seg) : Prop :=
  ∀ a, (s.seg g).engine.chosen = some a →
    (s.seg g).engine.state = .assigning ∧ (s.seg g).enabled = true ∧ a ∉ (s.seg g).config.reserved ∧ (0x08 ≤ a.toNat ∧ a.toNat ≤ 0x77) ∧
    ∀ h e, s.entryAt h = some e → e.segment = g → e.address = a →
      e.identity.isSome ∧ e.identity = (s.seg g).engine.current.map (·.identity)

/-- The laws of the Roster (R89), with what keeps them while an ASSIGN is in hand. -/
structure RosterOk (s : State) : Prop where
  entries : ∀ h e, s.entryAt h = some e → EntryOk e
  /-- No two entries hold the same identity (R89). -/
  identities : ∀ h k e f, s.entryAt h = some e → s.entryAt k = some f → e.identity.isSome →
    e.identity = f.identity → h = k
  /-- No two entries of one segment hold the same address (R89). -/
  addresses : ∀ h k e f, s.entryAt h = some e → s.entryAt k = some f → e.segment = f.segment →
    e.address = f.address → h = k
  /-- No entry's address is a reserved address of its segment, or 00h (R89). -/
  reserved : ∀ h e, s.entryAt h = some e →
    e.address ∉ (s.seg e.segment).config.reserved ∧ 0x08 ≤ e.address.toNat ∧ e.address.toNat ≤ 0x77
  chosen : ∀ g, ChosenOk s g
  /-- The pool range lies in 08h to 77h (R153). -/
  pool : ∀ g, 0x08 ≤ (s.seg g).config.poolFirst.toNat ∧ (s.seg g).config.poolLast.toNat ≤ 0x77

/-! ### Effects that several statements name -/

/-- An entry is written; a change of its state places its ROSTER_CHANGED claim, or counts in the one that waits (R90,
R91). -/
def State.entryBecomes (s : State) (h : Handle) (new : Entry) (old : EntryState) : State :=
  if new.state = old then s.putEntry h (some new)
  else if new.claimWaiting = true then s.putEntry h (some { new with changes := min (new.changes + 1) 255 })
  else (s.putEntry h (some
    { new with claimWaiting := true, changes := 1, created := false, moved := false })).placeClaim (.roster h)

/-- A message in progress has completed: one of length 0 that refused no byte is dropped, and any other enters its
inbound list with its claim (R127). -/
def State.messageTaken (s : State) (g : Seg) (m : Message) (byRestart : Bool) : State :=
  if m.bytes = [] ∧ m.truncated = false then s.modSeg g fun sg => { sg with service := .passive }
  else (s.modSeg g fun sg =>
    { sg.modInbound m.record (· ++ [{ m with endedByRestart := byRestart }]) with service := .passive }).placeClaim
      (.inbound g m.record)

/-- A served read of `n` whole bytes has been recorded with its counts and its claim, and a ONE_SHOT reply that is still
posted removed (R129). -/
def State.readTaken (s : State) (g : Seg) (ix : StationIx) (p : PostedReply) (current : Bool) (n : Nat) : State :=
  (s.modSeg g fun sg =>
    { sg.modStation ix (fun st => { st with
        served := min (st.served + 1) 255
        lastLength := min n 255
        lastOverread := min (n - p.bytes.length) 255
        posted := if current = true ∧ p.standing = false then none else st.posted }) with
      service := .passive }).placeClaimOnce (.station g ix .served)

/-- A service has been abandoned (R136): the blocks of a message in progress are back in the pool, a held read is
released without report, and a read being served is recorded. -/
def State.serviceGone (s : State) (g : Seg) (n : Nat) : State :=
  match (s.seg g).service with
  | .receiving m =>
    { s.modSeg g fun sg => { sg with service := .none } with poolFree := s.poolFree + (m.bytes.length + 31) / 32 }
  | .reading ix p current => (s.readTaken g ix p current n).modSeg g fun sg => { sg with service := .none }
  | _ => s.modSeg g fun sg => { sg with service := .none }

/-- The end of an attempt that left the bus by a stop: the Segment Controller is IDLE, and the monitor has seen the stop
(R57, R78). -/
def State.stoppedAt (s : State) (g : Seg) : State :=
  (s.modSeg g fun sg =>
    { sg with
      sc := .idle
      handed := none
      stretch := none
      stopSeen := sg.stopSeen || decide (sg.monitor = .busy ∨ sg.monitor = .stuck) }).markChoice g

/-- The end of an activity whose stop failed: the Segment Controller is RECOVERING (R60). -/
def State.stopFailedAt (s : State) (g : Seg) : State :=
  (s.modSeg g fun sg =>
    { sg with sc := .recovering, handed := none, stretch := none, recoverRequested := false }).markChoice g

/-- The end of an activity by a loss: the Segment Controller is IDLE, and the monitor has seen no stop (R48, R49). -/
def State.lostAt (s : State) (g : Seg) : State :=
  (s.modSeg g fun sg => { sg with sc := .idle, handed := none, stretch := none }).markChoice g

/-- An activity that has not started, or that is no job's attempt, has ended as bus fault, and `u` is what it leaves
of `dropped`, the state with nothing handed any more: a job ends BUS_FAULT with nothing done (R77), an enrolment command
ends its work INTERRUPTED (R115), a probe leaves no trace (R99), and a notice query leaves its service OFF, or WATCHING
with a choice point while the line is asserted (R139, R144). With the line released, mismatches not yet claimed are
claimed then (R143, log entry 34). -/
def FaultTaken (s : State) (g : Seg) (dropped : State) (a : Activity) (u : State) : Prop :=
  match a with
  | .job i => (∃ j, s.jobAt i = some j) ∧ u = dropped.endJob i .busFault .nothing
  | .enrol =>
    (s.seg g).engine.state ≠ .none ∧ (s.seg g).engine.state ≠ .pending ∧ u = dropped.endSweep g .interrupted
  | .probe _ _ => u = dropped
  | .notice =>
    let was := (s.seg g).notice
    let is := fun st n => dropped.modSeg g fun sg => { sg with notice := { sg.notice with state := st, retries := n } }
    (was.state = .off ∧ u = is .off 0) ∨
    (was.state ≠ .off ∧ (s.seg g).noticeLine = true ∧ u = (is .watching was.retries).markChoice g) ∨
    (was.state ≠ .off ∧ (s.seg g).noticeLine = false ∧ was.retries = 0 ∧ u = is .watching 0) ∨
    (was.state ≠ .off ∧ (s.seg g).noticeLine = false ∧ 0 < was.retries ∧
      u = (dropped.modSeg g fun sg => { sg with notice := ⟨.watching, 0, some (.unclaimed true false)⟩ }).placeClaimOnce
        (.notice g))

/-! ### Jobs -/

/-- The record of a job that has ended with a status, without a check byte and with no flag but overdue
(R15, R76, R84). -/
def Job.endedAs (j : Job) (st : EndStatus) (written : Nat) (read : List Byte) : Job :=
  { j with
    state := .ended
    outcome := some ⟨st, written, read, none, j.overdue, false, false, j.attempts⟩
    deadlineTimer := none
    stagingTimer := none }

/-- The HELD jobs that wait on the job `id`, directly or through other HELD jobs (R25). -/
inductive DependsOn (s : State) (id : JobId) : Slot → Prop
  | direct (k : Slot) : s.waitsOn k id = true → DependsOn s id k
  | through (m k : Slot) : DependsOn s id m → s.waitsOn k (s.idAt m) = true → DependsOn s id k

/-- `ended` is the order in which the jobs of `roots` end, one after the other, where those of `done` have ended before
them: a job that an earlier end has cascaded is passed over, and each other is followed at once by the HELD jobs that its
own end cascades, in order of acceptance (R25, R159). -/
inductive EndOrder (s : State) : (roots done ended : List Slot) → Prop
  | none (done : List Slot) : EndOrder s [] done []
  | passed (i : Slot) (roots done rest : List Slot) : i ∈ done → EndOrder s roots done rest →
      EndOrder s (i :: roots) done rest
  | ends (i : Slot) (roots done deps rest : List Slot) : i ∉ done → deps.Sublist s.accepted →
      (∀ k, k ∈ deps ↔ DependsOn s (s.idAt i) k ∧ k ∉ done) → EndOrder s roots (done ++ i :: deps) rest →
      EndOrder s (i :: roots) done (i :: deps ++ rest)

/-- The states in which a job is the current job of its segment (R28). -/
def JobState.isCurrent (st : JobState) : Bool := st == .active || st == .backoff

/-- The record of one job agrees with its state. -/
structure JobOk (j : Job) : Prop where
  /-- An ENDED job has its outcome, and no other job has one (R15). -/
  outcome : j.outcome.isSome ↔ j.state = .ended
  /-- The timers of an ENDED job are stopped (R15). -/
  timers : j.state = .ended → j.deadlineTimer = none ∧ j.stagingTimer = none
  /-- The staging timer runs in STAGING only (R9, R12). -/
  staging : j.stagingTimer.isSome ↔ j.state = .staging
  /-- Staged counts the bytes received, up to the write total (R8, R11). -/
  staged : j.staged = j.writeData.length ∧ j.staged ≤ j.writeTotal
  /-- A job in HELD, QUEUED, ACTIVE or BACKOFF has all its bytes (R9). -/
  complete : j.state ≠ .staging → j.state ≠ .ended → j.staged = j.writeTotal

/-- The predecessor that a STAGING or HELD job names has not ended, and was accepted before it (R10, R23). -/
def AcceptedInOrder (s : State) : Prop :=
  ∀ k j id, s.jobAt k = some j → j.state = .held ∨ j.state = .staging → j.predecessor = .job id →
    s.liveId id = true ∧ s.accepted.idxOf id.slot < s.accepted.idxOf k

/-- Every place that holds a slot number agrees with the job's state (R21, R23, R28). -/
structure PlacesOk (s : State) : Prop where
  accepted : s.accepted.Nodup ∧ ∀ i, i ∈ s.accepted ↔ (s.jobAt i).isSome
  jobs : ∀ i j, s.jobAt i = some j → JobOk j
  /-- A class list holds the QUEUED jobs of its segment and class, each once (R21). -/
  lists : ∀ g c, ((s.seg g).classList c).Nodup ∧
    ∀ i, i ∈ (s.seg g).classList c ↔ ∃ j, s.jobAt i = some j ∧ j.state = .queued ∧ j.segment = g ∧ j.cls = c
  /-- The held set holds the HELD jobs, each once (R23). -/
  held : (s.heldSet.map (·.slot)).Nodup ∧
    ∀ i, i ∈ s.heldSet.map (·.slot) ↔ ∃ j, s.jobAt i = some j ∧ j.state = .held
  /-- An entry of the held set names the predecessor of its job (R23). -/
  heldFor : ∀ e ∈ s.heldSet, ∀ j, s.jobAt e.slot = some j → j.predecessor = .job e.predecessor
  /-- A predecessor that a job still waits on is live, and was accepted before it (R10, R23). -/
  chain : AcceptedInOrder s
  /-- The current job of a segment is its one job in ACTIVE or BACKOFF (R28). -/
  current : ∀ g i, (s.seg g).current = some i ↔
    ∃ j, s.jobAt i = some j ∧ j.state.isCurrent = true ∧ j.segment = g
  /-- A job's attempt is handed while the job is ACTIVE, and only then (R28, R32). -/
  handed : ∀ g i, (s.seg g).handed = some (.job i) ↔ ∃ j, s.jobAt i = some j ∧ j.state = .active ∧ j.segment = g

end Sys2Proof.Machine
end

