-- ==== Sys2Proof/Certificates/Slice0/Obligations.lean ====
section
/-!
DEFINITION. The statements for the provers: each says what a rule of spec/ says a command or an operation does.
`Ends o t` says that the outcome `o` is the state `t` once the choice points that are due in `t` have been made and the
transmitter has chosen its next frame, in that order, which is the model's reading (log entries 4 and 5); what those two
do is stated by `ChoiceTakesFirstLevel`,
`NoChoiceWithoutReadySegment` and `TransmitterTakesRepliesFirst`.
-/

open Sys2Proof Sys2Proof.Machine

/-! ### The queue, the resets and completion -/

/-- One step runs the command at the front of the queue on the state with the queue's rest; on an empty queue the block
idles, which is the model's choice (log entries 2 and 24). -/
def Obligations.StepRunsFrontCommand : Prop :=
  ∀ s : State,
    (∀ c rest, s.pending = c :: rest → step s = exec c { s with pending := rest }) ∧
    (s.pending = [] → step s = .next s)

/-- No command faults or is refused, in any state. -/
def Obligations.EveryCommandCompletes : Prop := ∀ (c : Instr) (s : State), ∃ t, exec c s = .next t

/-- The state after reset holds the values of the manual's "after reset" tables (R17, R23, R103, R106, R122, R139, R147,
R153, R164, R166, R178). The levels of the notice lines and straps are the model's choice (log entry 17) and are not
stated. -/
def Obligations.ResetStateHoldsColdValues : Prop :=
  (∀ (g : Seg) (config : SegConfig) (low : Bool),
    Segment.after config low = { State.reset.seg g with config := config, noticeLine := low }) ∧
  (∀ i, State.reset.jobAt i = none ∧ State.reset.genAt i = 0) ∧ State.reset.heldSet = [] ∧
  (∀ h, State.reset.entryAt h = none) ∧ State.reset.poolFree = 96 ∧
  (∀ g, (State.reset.seg g).sc = .disabled ∧ (State.reset.seg g).monitor = .off ∧
    (State.reset.seg g).urgent = [] ∧ (State.reset.seg g).routine = [] ∧ (State.reset.seg g).current = none ∧
    (State.reset.seg g).handed = none ∧ (State.reset.seg g).fairness = 0 ∧
    (State.reset.seg g).backoffTimer = none ∧ (State.reset.seg g).backoffExpired = false ∧
    (State.reset.seg g).rollTimer = none ∧ (State.reset.seg g).notice = ⟨.off, 0, none⟩ ∧
    (State.reset.seg g).stopSeen = false ∧ (State.reset.seg g).stretch = none ∧
    (State.reset.seg g).recoverRequested = false ∧ (State.reset.seg g).service = .none ∧
    (State.reset.seg g).sweepClaim = none ∧ (State.reset.seg g).conflictClaim = none ∧
    (State.reset.seg g).faultClaim = none ∧
    (State.reset.seg g).engine = ⟨.none, .none, none, none, 0, 0, 0, 0, none⟩ ∧
    (∀ ix, (State.reset.seg g).station ix = ⟨none, 0, 0, 0, 0, 0⟩) ∧
    (∀ r, (State.reset.seg g).inboundAt r = []) ∧
    (State.reset.seg g).config.items = [0, 25, 4, 0x10, 0, 0, 0x11, 0, 0, 20, 0, 0x5C, 0x20, 0x3F, 0, 0x19, 0]) ∧
  State.reset.rx = none ∧ State.reset.cache = [] ∧ State.reset.replies = [] ∧ State.reset.claims = [] ∧
  State.reset.reports = [⟨0x80, 0, [0, 96], .hlc, true⟩] ∧ State.reset.nextSeq = 1 ∧ State.reset.attn = true ∧
  State.reset.htx = some ⟨0x80, 0, [0, 96]⟩

/-- POWER_ON and RST_ASSERT take every block to its cold values, from any state, but for the pins and the command
queue; RST_ASSERT holds them with no report, ATTN released and HTX resting; RST_RELEASE admits STARTED with reason
RST_PIN, and does nothing where RST is high. While RST is low every other command leaves the Broker as it is, and a
change of a notice line sets the level of that pin alone (R164, R176, R178). That POWER_ON finds RST high, that the
pins keep their levels, and that no event has an effect while RST is low, is the model's choice (log entries 17, 18
and 29). -/
def Obligations.PowerOnAndRstResetEverything : Prop :=
  ∀ s : State,
    exec .powerOn s = .next { State.reset with
      segs := s.segs.map fun sg => Segment.after SegConfig.default sg.noticeLine
      rate1 := s.rate1, rate0 := s.rate0, pending := s.pending } ∧
    exec .rstAssert s = .next { State.reset with
      segs := s.segs.map fun sg => Segment.after SegConfig.default sg.noticeLine
      reports := [], nextSeq := 0, attn := false, htx := none, rstLow := true
      rate1 := s.rate1, rate0 := s.rate0, pending := s.pending } ∧
    (s.rstLow = true → s.replies = [] → s.reports = [] → s.htx = none → s.nextSeq = 0 →
      exec .rstRelease s = .next { s with
        rstLow := false
        reports := [⟨0x80, 0, [1, byteOf s.poolFree], .hlc, true⟩]
        nextSeq := 1, attn := true
        htx := some ⟨0x80, 0, [1, byteOf s.poolFree]⟩ }) ∧
    (s.rstLow = false → exec .rstRelease s = .next s) ∧
    (s.rstLow = true →
      (∀ g, exec (.noticeLineAsserted g) s = .next (s.modSeg g fun sg => { sg with noticeLine := true }) ∧
        exec (.noticeLineReleased g) s = .next (s.modSeg g fun sg => { sg with noticeLine := false })) ∧
      ∀ c, c ≠ .powerOn → c ≠ .rstAssert → c ≠ .rstRelease →
        (∀ g, c ≠ .noticeLineAsserted g ∧ c ≠ .noticeLineReleased g) → exec c s = .next s)

/-- The end of the RESTART reply's transmission takes the restart: COLD as at power-on, WARM keeping the job slot
generations, the roster and the segment configuration; the two differ in the reason too (R17, R103, R164, R178). That
HTX_FRAME_SENT on that reply is the same event as RESTART_TAKEN is the model's reading (log entry 25), and so is that the
pins, the notice lines and the straps, keep their levels (log entry 17). -/
def Obligations.RestartTakenColdOrWarm : Prop :=
  ∀ (s : State) (f : Frame) (c : Instr), c = .restartTaken ∨ c = .htxFrameSent → s.rstLow = false →
    s.htx = some f → f.kind = 0x42 →
    (s.restart = some .cold → exec c s = .next { State.reset with
      segs := s.segs.map fun sg => Segment.after SegConfig.default sg.noticeLine
      reports := [⟨0x80, 0, [2, 96], .hlc, true⟩], htx := some ⟨0x80, 0, [2, 96]⟩
      rate1 := s.rate1, rate0 := s.rate0, pending := s.pending }) ∧
    (s.restart = some .warm → exec c s = .next { State.reset with
      slots := s.slots.map fun sl => ⟨sl.generation, none⟩
      segs := s.segs.map fun sg => Segment.after sg.config sg.noticeLine
      roster := s.roster.map fun o => o.map fun e =>
        { e with misses := 0, probeDue := false, claimWaiting := false, created := false, moved := false, changes := 0 }
      reports := [⟨0x80, 0, [3, 96], .hlc, true⟩], htx := some ⟨0x80, 0, [3, 96]⟩
      rate1 := s.rate1, rate0 := s.rate0, pending := s.pending })

/-! ### The host line -/

/-- Table 12-1, for every frame that reaches it (R167, R168): a full reply queue discards it, a cached tag replays the
reply, tag 0, an unknown kind and a wrong body size are refused, and nothing is executed; and from a RESTART's OK reply to
the restart no frame is taken (R178). The request kinds, and the sizes of a SUBMIT and of a SEGMENT_CONFIGURE, are those
of Table 13-4 (R179). -/
def Obligations.RequestsStoppedBeforeExecution : Prop :=
  (∀ (c : Instr) (s : State) (kind tag : Byte) (sizeOk : Bool), requestOf c = some (kind, tag, sizeOk) →
    s.rstLow = false →
    (s.restart.isSome → Ends (exec c s) s) ∧
    (s.restart = none →
      (8 ≤ s.replies.length → Ends (exec c s) s.hunting) ∧
      (s.replies.length < 8 →
        (∀ f, s.cached tag = some f → Ends (exec c s) { s.hunting with replies := s.replies ++ [f] }) ∧
        (s.cached tag = none →
          (tag = 0 → Ends (exec c s) { s.hunting with replies := s.replies ++ [⟨0x7F, 0, [kind, 0x01]⟩] }) ∧
          (tag ≠ 0 → kind ∈ requestKinds → sizeOk = false →
            Answered (exec c s) kind tag (.refused .malformed) s.hunting))))) ∧
  (∀ (s : State) (kind tag : Byte) (body : List Byte), Takes s tag → kind ∉ requestKinds →
    Answered (exec (.unknownKindFrame kind tag body) s) kind tag (.refused .unknownKind) s.hunting) ∧
  requestKinds = [0x01, 0x02, 0x03, 0x04, 0x05, 0x10, 0x11, 0x12, 0x13, 0x20, 0x21, 0x22, 0x23, 0x30, 0x31, 0x32, 0x33,
    0x34, 0x38, 0x39] ∧
  (∀ body : List Byte,
    let steps := (body.getD 11 0).toNat
    (submitSize body = true ↔ 12 + 2 * (if 1 ≤ steps ∧ steps ≤ 6 then steps else 0) ≤ body.length) ∧
    (configureSize body = true ↔ 2 ≤ body.length ∧ body.length = 2 + 2 * (body.getD 1 0).toNat))

/-- The form of a reply, with the status codes of Table 13-2, and its entry in the reply queue and in the cache, from
which the oldest entry goes when it holds 8 (R168, R169). -/
def Obligations.ReplyFormAndCache : Prop :=
  ([.malformed, .unknownKind, .badValue, .noSlot, .poolShort, .stale, .notStaging, .alreadyEnded, .predecessorFailed,
    .segmentEnabled, .segmentDisabled, .busy, .notFound, .inUse, .conflict, .reservedAddress, .stillPresent,
    .rosterFull] : List Status).map statusCode = (List.range 18).map (fun n => byteOf (n + 1)) ∧
  (∀ (s : State) (tag : Byte), s.cached tag = (s.cache.find? fun e => e.tag == tag).map (·.reply)) ∧
  ∀ (s : State) (kind tag : Byte) (a : Answer),
    let f : Frame := match a with
      | .ok payload => ⟨kind + 0x40, tag, 0 :: payload⟩
      | .refused st => ⟨0x7F, tag, [kind, statusCode st]⟩
    s.reply kind tag a =
      { s with
        replies := s.replies ++ [f]
        cache := (if 8 ≤ s.cache.length then s.cache.drop 1 else s.cache) ++ [⟨tag, f⟩] }

/-- The end of a frame leaves the transmitter idle, also while a restart waits, where the frame is one sent before the
reply to RESTART (R178), and an idle transmitter takes the oldest reply, or else the oldest WAITING report if fewer than
16 are SENT, or else nothing; a busy one goes on (R170). -/
def Obligations.TransmitterTakesRepliesFirst : Prop :=
  (∀ s : State, s.rstLow = false → s.restart = none ∨ (∀ f, s.htx = some f → f.kind ≠ 0x42) →
    Ends (exec .htxFrameSent s) { s with htx := none }) ∧
  (∀ (s : State) (f : Frame), s.htx = some f → s.transmit = s) ∧
  (∀ (s : State) (f : Frame) (rest : List Frame), s.htx = none → s.replies = f :: rest →
    s.transmit = { s with htx := some f, replies := rest }) ∧
  (∀ (s : State) (old : List Report) (r : Report) (new : List Report), s.htx = none → s.replies = [] →
    s.reports = old ++ r :: new → (∀ x ∈ old, x.sent = true) → r.sent = false →
    ((s.reports.filter (·.sent)).length < 16 →
      s.transmit = { s with
        htx := some ⟨r.kind, r.seq, r.body⟩
        reports := old ++ { r with sent := true } :: new }) ∧
    (16 ≤ (s.reports.filter (·.sent)).length → s.transmit = s)) ∧
  (∀ s : State, s.htx = none → s.replies = [] → (∀ x ∈ s.reports, x.sent = true) → s.transmit = s)

/-- A frame of at most 240 body bytes, sent as R165 gives, is found again by the receiver of R166, whatever follows it.
The frame is its lead, length, kind, tag, body and check, low byte first; the check is that of R165 over length, kind,
tag and body. The receiver looks at the length first, 2 to 242, waits for the bytes that it counts and the check, and
takes the frame where the check agrees. -/
def Obligations.ReceiverReadsWhatFramesWrite : Prop :=
  let shift := fun r : BitVec 16 => if r.msb then (r <<< 1) ^^^ 0x1021 else r <<< 1
  let check := fun bytes : List Byte => bytes.foldl (fun r (b : Byte) =>
    (List.range 8).foldl (fun r _ => shift r) (r ^^^ (b.setWidth 16 <<< 8))) (0xFFFF : BitVec 16)
  let low := fun c : BitVec 16 => byteOf c.toNat
  let high := fun c : BitVec 16 => byteOf (c.toNat / 256)
  (∀ f : Frame,
    let c := check (byteOf (f.body.length + 2) :: f.kind :: f.tag :: f.body)
    f.bytes = [0x5A, byteOf (f.body.length + 2), f.kind, f.tag] ++ f.body ++ [low c, high c]) ∧
  (∀ (f : Frame) (rest : List Byte), f.body.length ≤ 240 → frameIn (f.bytes.drop 1 ++ rest) = .good f rest) ∧
  frameIn [] = .incomplete ∧
  (∀ (len : Byte) (more : List Byte),
    (len.toNat < 2 ∨ 242 < len.toNat → frameIn (len :: more) = .bad) ∧
    (2 ≤ len.toNat → len.toNat ≤ 242 → more.length < len.toNat + 2 → frameIn (len :: more) = .incomplete) ∧
    (∀ kind tag body c0 c1 rest, more = kind :: tag :: body ++ c0 :: c1 :: rest → len.toNat = body.length + 2 →
      len.toNat ≤ 242 →
      let c := check (len :: kind :: tag :: body)
      frameIn (len :: more) = if c0 = low c ∧ c1 = high c then .good ⟨kind, tag, body⟩ rest else .bad))

/-- Bytes that are one whole good frame have the effect of the command that the frame is, whether or not the receiver
then meets a low stop bit or a gap (R166, R167). The bytes of a frame command and its arrival as one command are the
model's choice (log entries 15 and 16). -/
def Obligations.GoodFrameRunsItsCommand : Prop :=
  ∀ (f : Frame) (cut : BusCut) (lowStop : Bool) (s : State), f.body.length ≤ 240 → s.rstLow = false →
    s.restart = none → s.rx = none →
    ∃ t, exec (commandOf f cut) s = .next t ∧
      Ends (exec (.frameDiscarded f.bytes lowStop cut) s) { t with rx := none } ∧
      Ends (exec (.hrxGapTimeout f.bytes cut) s) { t with rx := none }

/-- A gap, a low stop bit, a bad length or a bad check discards the frame in progress, and the bytes taken after its
lead are scanned again: where no 5Ah stands among them the receiver hunts and nothing else happens, and otherwise it goes
on from the first 5Ah as the lead of a frame (R166). A frame whose bytes have not all come stays in progress, a good one
is taken and the bytes after it are hunted through, and while hunting every byte before a 5Ah is passed over. From the
OK reply to RESTART until the restart the bytes that arrive are discarded, whatever they are (R178). A byte whose stop bit is low is not taken, which is the model's reading (log entry 15), and so is that the bytes that arrived
stand in one command (log entry 16). -/
def Obligations.DiscardedFrameLeavesNoTrace : Prop :=
  ∀ (s : State) (bytes : List Byte) (cut : BusCut), s.rstLow = false →
    let gap := fun bs => exec (.hrxGapTimeout bs cut)
    let low := fun bs => exec (.frameDiscarded bs true cut)
    let plain := fun bs => exec (.frameDiscarded bs false cut)
    let hunts := { s with rx := none }
    let leads := { s with rx := some [] }
    (s.restart.isSome → Ends (gap bytes s) hunts ∧ Ends (low bytes s) hunts ∧ Ends (plain bytes s) hunts) ∧
    (∀ part, s.restart = none → s.rx = some part →
      let taken := part ++ bytes
      ((∀ f rest, frameIn taken ≠ .good f rest) →
        ((0x5A : Byte) ∉ taken →
          Ends (gap bytes s) hunts ∧ Ends (low bytes s) hunts ∧ (frameIn taken = .bad → Ends (plain bytes s) hunts)) ∧
        (∀ before after, taken = before ++ 0x5A :: after → (0x5A : Byte) ∉ before →
          gap bytes s = gap after leads ∧ low bytes s = low after leads ∧
          (frameIn taken = .bad → plain bytes s = plain after leads))) ∧
      (frameIn taken = .incomplete → Ends (plain bytes s) { s with rx := some taken }) ∧
      (∀ f rest, frameIn taken = .good f rest → ∃ t, exec (commandOf f cut) hunts = .next t ∧
        gap bytes s = gap rest t ∧ low bytes s = low rest t ∧ plain bytes s = plain rest t)) ∧
    (s.restart = none → s.rx = none →
      ((0x5A : Byte) ∉ bytes → Ends (gap bytes s) s ∧ Ends (low bytes s) s ∧ Ends (plain bytes s) s) ∧
      (∀ before after, bytes = before ++ 0x5A :: after → (0x5A : Byte) ∉ before →
        gap bytes s = gap after leads ∧ low bytes s = low after leads ∧ plain bytes s = plain after leads))

/-! ### Requests of the Host Link Controller -/

/-- STATUS gives the free slots, the free count, the report counts, the waiting claims and six bytes for each segment, by
the codes of Table 13-1, and changes nothing (R177). -/
def Obligations.StatusReportsTheBroker : Prop :=
  [ScState.disabled, .idle, .contending, .controlling, .serving, .recovering, .fault].map scCode = [0, 1, 2, 3, 4, 5, 6] ∧
  [MonitorState.off, .unknown, .free, .busy, .stuck].map monitorCode = [0, 1, 2, 3, 4] ∧
  [SweepState.none, .pending, .calling, .identifying, .assigning, .parking, .forgetting].map sweepCode =
    [0, 1, 2, 3, 4, 5, 6] ∧
  [NoticeState.off, .watching, .querying, .paused].map noticeCode = [0, 1, 2, 3] ∧
  ∀ (s : State) (tag : Byte), Takes s tag →
    Answered (exec (.status tag []) s) 0x01 tag
      (.ok ([byteOf (allSlots.filter fun i => (s.jobAt i).isNone).length, byteOf s.poolFree, byteOf s.reports.length,
          byteOf (s.reports.filter (·.sent)).length, byteOf s.claims.length] ++
        ([0, 1, 2, 3] : List Seg).flatMap fun g =>
          [scCode (s.seg g).sc, monitorCode (s.seg g).monitor, byteOf (s.seg g).urgent.length,
            byteOf (s.seg g).routine.length, sweepCode (s.seg g).engine.state, noticeCode (s.seg g).notice.state]))
      s.hunting

/-- RESTART with a mode that is neither COLD nor WARM is refused; otherwise the reply OK is queued, and the restart waits
for the end of its transmission (R178). -/
def Obligations.RestartWaitsForItsReply : Prop :=
  ∀ (s : State) (tag mode : Byte), Takes s tag →
    (2 ≤ mode.toNat → Answered (exec (.restart tag [mode]) s) 0x02 tag (.refused .badValue) s.hunting) ∧
    (mode = 0 → Answered (exec (.restart tag [mode]) s) 0x02 tag (.ok []) { s.hunting with restart := some .cold }) ∧
    (mode = 1 → Answered (exec (.restart tag [mode]) s) 0x02 tag (.ok []) { s.hunting with restart := some .warm })

/-- SYNC empties the reply cache, makes every SENT entry WAITING under its own sequence, and answers the oldest sequence,
or the next one when the queue is empty; the reply queue and the claim list are not touched but for its own reply
(R175). -/
def Obligations.SyncMakesEveryReportWaiting : Prop :=
  ∀ (s : State) (tag : Byte), Takes s tag →
    Answered (exec (.sync tag []) s) 0x03 tag
      (.ok [match s.reports with
        | [] => s.nextSeq
        | r :: _ => r.seq])
      { s.hunting with cache := [], reports := s.reports.map fun r => { r with sent := false } }

/-- ACK_REPORTS removes the named SENT entry and every older one, tells their owners in queue order, and lets waiting
claims in; a sequence that names no SENT entry is refused and removes nothing (R173, R176). -/
def Obligations.AckRemovesUpToTheNamedReport : Prop :=
  ∀ (s : State) (tag q : Byte), Takes s tag →
    (∀ old r new, s.reports = old ++ r :: new → (∀ x ∈ old, x.seq ≠ q) → r.seq = q → r.sent = true →
      Answered (exec (.ackReports tag [q]) s) 0x04 tag (.ok [byteOf (old.length + 1)])
        ((old ++ [r]).foldl State.tellOwner { s.hunting with reports := new, attn := !new.isEmpty }).fillQueue) ∧
    ((∀ r ∈ s.reports, r.seq = q → r.sent = false) →
      Answered (exec (.ackReports tag [q]) s) 0x04 tag (.refused .badValue) s.hunting)

/-- What the owner of an acknowledged report does: the slot of a JOB_ENDED report becomes FREE under its generation and
returns its blocks, the message of an INBOUND report leaves the head of its list and returns its blocks, and any other
owner does nothing (R16, R128, R150, R173). Nothing else changes. -/
def Obligations.AcknowledgementFreesSlotAndMessage : Prop :=
  ∀ (s : State) (r : Report),
    (∀ i j, r.owner = .jobEnded i → s.jobAt i = some j → j.state = .ended →
      (s.tellOwner r).jobAt i = none ∧ (∀ k, (s.tellOwner r).genAt k = s.genAt k) ∧
      (∀ k, k ≠ i → (s.tellOwner r).jobAt k = s.jobAt k) ∧
      s.tellOwner r = { s with
        slots := (s.tellOwner r).slots
        poolFree := s.poolFree + j.blocksHeld
        accepted := s.accepted.filter (· != i) }) ∧
    (∀ g k m ms, r.owner = .inbound g k → (s.seg g).inboundAt k = m :: ms →
      ((s.tellOwner r).seg g).inboundAt k = ms ∧
      (∀ k', k' ≠ k → ((s.tellOwner r).seg g).inboundAt k' = (s.seg g).inboundAt k') ∧
      (s.tellOwner r).seg g = { s.seg g with inbound := ((s.tellOwner r).seg g).inbound } ∧
      (∀ g', g' ≠ g → (s.tellOwner r).seg g' = s.seg g') ∧
      s.tellOwner r = { s with
        segs := (s.tellOwner r).segs
        poolFree := s.poolFree + (m.bytes.length + 31) / 32 }) ∧
    ((∀ i, r.owner ≠ .jobEnded i) → (∀ g k, r.owner ≠ .inbound g k) → s.tellOwner r = s)

/-- RESEND_REPORTS makes the named SENT entry and every SENT entry after it WAITING, each under its sequence, and answers
their number; a sequence that names no SENT entry is refused and changes nothing (R174). -/
def Obligations.ResendMakesLaterReportsWaiting : Prop :=
  ∀ (s : State) (tag q : Byte), Takes s tag →
    (∀ old r new, s.reports = old ++ r :: new → (∀ x ∈ old, x.seq ≠ q) → r.seq = q → r.sent = true →
      Answered (exec (.resendReports tag [q]) s) 0x05 tag (.ok [byteOf (1 + (new.filter (·.sent)).length)])
        { s.hunting with reports := old ++ (r :: new).map fun x => { x with sent := false } }) ∧
    ((∀ r ∈ s.reports, r.seq = q → r.sent = false) →
      Answered (exec (.resendReports tag [q]) s) 0x05 tag (.refused .badValue) s.hunting)

/-- A claim placed while the queue has room and no claim waits enters the tail of the Report Queue as WAITING with the
next sequence, and ATTN is asserted; one placed while the queue holds 64 waits at the end of the claim list, and nothing
else changes. Whenever there is room the oldest claim enters, and then the next, until the queue holds 64 or no claim
waits (R171, R172, R176). The body of each report is that of Table 13-6, formed from its claimant as it stands (R86,
R91, R117, R118, R128, R135, R141, R142, R161), and this is what the claimant gives up at the entry: the claim with its
counts and flags, the mark of the message, the count of the station, and for a NOTICE claim the state QUERYING, with the
choice point of the line that is still asserted (R145). The codes are those of Tables 13-1 and 5-4. A claimant whose claim
waits is not placed again (R135), and a change of a roster entry counts in the claim that waits, with the marks of a
creation and of a move, or places one (R91). -/
def Obligations.ClaimEntersQueueOrWaits : Prop :=
  (∀ (s : State) (c : Claimant),
    (∀ kind body, s.claims = [] → s.reports.length < 64 → formReport s c = some (kind, body) →
      s.placeClaim c = { clearClaim s c with
        reports := s.reports ++ [⟨kind, s.nextSeq, body, c, false⟩]
        nextSeq := s.nextSeq + 1
        attn := true }) ∧
    (64 ≤ s.reports.length → s.placeClaim c = { s with claims := s.claims ++ [c] })) ∧
  (∀ s : State,
    (64 ≤ s.reports.length ∨ s.claims = [] → s.fillQueue = s) ∧
    (∀ c rest kind body, s.reports.length < 64 → s.claims = c :: rest → formReport s c = some (kind, body) →
      s.fillQueue = ({ clearClaim { s with claims := rest } c with
        reports := s.reports ++ [⟨kind, s.nextSeq, body, c, false⟩]
        nextSeq := s.nextSeq + 1
        attn := true } : State).fillQueue)) ∧
  (∀ (s : State) (i : Slot) (j : Job) (o : JobOutcome), s.jobAt i = some j → j.outcome = some o →
    let target : Byte × Byte := match j.target with
      | .handle h => (0, byteOf h.val)
      | .raw a => (1, byteOf a.toNat)
    let used : Byte := match j.resolved with
      | some a => byteOf a.toNat
      | none => 0xFF
    let flags := boolCode o.overdue + 2 * boolCode o.finalRefused + 4 * boolCode o.checkMismatch +
      8 * boolCode o.checkByte.isSome
    clearClaim s (.jobEnded i) = s ∧
    formReport s (.jobEnded i) = some (0x81,
      [byteOf i.val, s.genAt i, byteOf j.segment.val, target.1, target.2, used, endStatusCode o.status, flags,
        byteOf o.attempts, byteOf o.written, byteOf (o.written / 256), byteOf o.read.length, o.checkByte.getD 0] ++
      o.read)) ∧
  (∀ (s : State) (g : Seg),
    let sg := s.seg g
    let gives := fun f : Segment → Segment => s.modSeg g f
    (∀ k old m new, sg.inboundAt k = old ++ m :: new → (∀ x ∈ old, x.reported = true) → m.reported = false →
      formReport s (.inbound g k) = some (0x82,
        [byteOf g.val, byteOf m.record.val, byteOf m.address.toNat, boolCode m.truncated + 2 * boolCode m.endedByRestart,
          byteOf m.bytes.length] ++ m.bytes) ∧
      clearClaim s (.inbound g k) = gives (·.modInbound k fun _ => old ++ { m with reported := true } :: new)) ∧
    (∀ ix,
      let st := sg.station ix
      let a := byteOf (sg.config.station ix).address.toNat
      let held : Byte := match sg.service with
        | .holding k _ => if k = ix then 1 else 0
        | _ => 0
      formReport s (.station g ix .waiting) = some (0x83, [byteOf g.val, byteOf ix.val, a, byteOf st.waits, held]) ∧
      formReport s (.station g ix .served) = some (0x84, [byteOf g.val, byteOf ix.val, a, byteOf st.served,
        byteOf st.lastLength, byteOf st.lastOverread, boolCode st.posted.isSome]) ∧
      formReport s (.station g ix .expired) = some (0x85, [byteOf g.val, byteOf ix.val, a, byteOf st.expired]) ∧
      clearClaim s (.station g ix .waiting) = gives (·.modStation ix fun st => { st with waits := 0 }) ∧
      clearClaim s (.station g ix .served) = gives (·.modStation ix fun st => { st with served := 0 }) ∧
      clearClaim s (.station g ix .expired) = gives (·.modStation ix fun st => { st with expired := 0 })) ∧
    (∀ a cause h n, sg.notice.claim = some (.notice a cause h n) →
      let handle : Byte := match h with
        | some h => byteOf h.val
        | none => 0xFF
      formReport s (.notice g) = some (0x86, [byteOf g.val, byteOf a.toNat, cause, handle, byteOf n]) ∧
      (sg.notice.state = .querying ∨ sg.notice.state = .watching →
        let t := gives fun sg => { sg with notice := { sg.notice with claim := none, state := .watching } }
        clearClaim s (.notice g) = if sg.noticeLine then t.markChoice g else t) ∧
      (sg.notice.state = .off ∨ sg.notice.state = .paused →
        clearClaim s (.notice g) = gives fun sg => { sg with notice := { sg.notice with claim := none } })) ∧
    (∀ corrupt stretched, sg.notice.claim = some (.unclaimed corrupt stretched) →
      formReport s (.notice g) = some (0x87, [byteOf g.val, boolCode corrupt + 2 * boolCode stretched]) ∧
      let t := gives fun sg => { sg with notice := { sg.notice with claim := none } }
      clearClaim s (.notice g) = if sg.notice.state = .watching ∧ sg.noticeLine = true then t.markChoice g else t) ∧
    (∀ c, sg.sweepClaim = some c →
      formReport s (.sweepEnded g) = some (0x89, [byteOf g.val, causeCode c.cause, byteOf c.assigned, byteOf c.ends]) ∧
      clearClaim s (.sweepEnded g) = gives fun sg => { sg with sweepClaim := none }) ∧
    (∀ c, sg.conflictClaim = some c →
      formReport s (.conflict g) = some (0x8A, byteOf g.val :: c.found.identity.toList ++
        [c.found.cls, byteOf c.handle.val, byteOf c.segment.val, byteOf c.conflicts]) ∧
      clearClaim s (.conflict g) = gives fun sg => { sg with conflictClaim := none }) ∧
    (∀ c, sg.faultClaim = some c →
      formReport s (.fault g) = some (if c.recovered then 0x8C else 0x8B,
        [byteOf g.val, faultLineCode c.line, byteOf c.faults, byteOf c.recoveries]) ∧
      clearClaim s (.fault g) = gives fun sg => { sg with faultClaim := none })) ∧
  (∀ (s : State) (h : Handle) (e : Entry), s.entryAt h = some e →
    let state : Byte := match e.state with
      | .unconfirmed => 0
      | .present => 1
      | .missing => 2
    let flags := state + 4 * boolCode e.isEnrolled + 16 * boolCode e.created + 32 * boolCode e.moved
    let device : List Byte := match e.kind with
      | .fixed => []
      | .enrolled f => f.identity.toList ++ [f.cls]
    formReport s (.roster h) = some (0x88,
      [byteOf h.val, byteOf e.segment.val, byteOf e.address.toNat, flags, byteOf e.changes] ++ device) ∧
    clearClaim s (.roster h) = s.putEntry h (some
      { e with claimWaiting := false, created := false, moved := false, changes := 0 })) ∧
  (∀ (s : State) (c : Claimant),
    (c ∈ s.claims → s.placeClaimOnce c = s) ∧ (c ∉ s.claims → s.placeClaimOnce c = s.placeClaim c)) ∧
  (∀ (s : State) (h : Handle) (created moved : Bool),
    (s.entryAt h = none → s.rosterChange h created moved = s) ∧
    (∀ e, s.entryAt h = some e →
      (e.claimWaiting = true →
        s.rosterChange h created moved = s.putEntry h (some
          { e with changes := min (e.changes + 1) 255, created := e.created || created, moved := e.moved || moved })) ∧
      (e.claimWaiting = false →
        s.rosterChange h created moved = (s.putEntry h (some
          { e with claimWaiting := true, changes := 1, created := created, moved := moved })).placeClaim (.roster h)))) ∧
  [EndStatus.ok, .noResponse, .dataNak, .lost, .checkMismatch, .countTooLarge, .stretchTimeout, .busFault, .deadline,
    .cancelled, .predecessorFailed, .targetMissing, .targetMoved, .rosterRemoved, .segmentDisabled,
    .stageTimeout].map endStatusCode = (List.range 16).map byteOf ∧
  [SweepCause.complete, .rosterFull, .poolExhausted, .sweepLimit, .corrupt, .interrupted, .aborted,
    .forgotten].map causeCode = (List.range 8).map byteOf ∧
  [some BusLine.clock, some .data, none].map faultLineCode = [0x00, 0x01, 0xFF] ∧
  [false, true].map boolCode = [0x00, 0x01]

/-- The laws of the Host Link Controller are kept by every step (R167 to R172, R176). -/
def Obligations.StepKeepsHostLinkLaws : Prop :=
  ∀ s t : State, HostLinkOk s → step s = .next t → HostLinkOk t

/-! ### Jobs -/

/-- The cases in which a SUBMIT is refused BAD_VALUE by its fields, and no others: those of R5, and a predecessor present
byte that is neither 00h nor 01h (13.3). The write total is the sum over the WRITE steps and the read reserve that over
the others, with the count byte of a COUNTED_READ and the check byte after a last step that reads (2.2). In every other
SUBMIT each field is read as Table 13-4 lays it out: target, class, retry budget, with 0FFh taken as 3, deadline, with 0
for none, check, predecessor, steps and data. -/
def Obligations.SubmitFieldsOutOfRange : Prop :=
  ∀ (s : State) (tag : Byte) (body : List Byte), Takes s tag → submitSize body = true →
    let writeTotal := fun steps : List JobStep => (steps.map fun x => match x with
      | .write n => n
      | _ => 0).sum
    let readReserve := fun (steps : List JobStep) (check : Bool) => (steps.map fun x => match x with
      | .write _ => 0
      | .read n => n
      | .countedRead max => max + 1).sum + (match steps.getLast? with
      | none | some (.write _) => 0
      | _ => if check then 1 else 0)
    let deadline := (byteAt body 5).toNat + 256 * (byteAt body 6).toNat
    let count := (byteAt body 11).toNat
    let step := fun k => (byteAt body (12 + 2 * k), (byteAt body (13 + 2 * k)).toNat)
    let steps := (List.range count).map fun k =>
      if (step k).1 = 0 then JobStep.write (step k).2
      else if (step k).1 = 1 then .read (step k).2 else .countedRead (step k).2
    let outOfRange :=
      2 ≤ (byteAt body 0).toNat ∨ (byteAt body 0 = 1 ∧ 4 ≤ (byteAt body 2).toNat) ∨ 2 ≤ (byteAt body 3).toNat ∨
      (7 < (byteAt body 4).toNat ∧ byteAt body 4 ≠ 0xFF) ∨ 60000 < deadline ∨ 2 ≤ (byteAt body 7).toNat ∨
      2 ≤ (byteAt body 8).toNat ∨ (byteAt body 8 = 1 ∧ 32 ≤ (byteAt body 9).toNat) ∨ count < 1 ∨ 6 < count ∨
      (∃ k, k < count ∧
        (3 ≤ (step k).1.toNat ∨ ((step k).1 = 1 ∧ (step k).2 = 0) ∨
          ((step k).1 = 2 ∧ ((step k).2 = 0 ∨ (step k).2 = 255)))) ∨
      480 < writeTotal steps ∨ 224 < readReserve steps (decide (byteAt body 7 = 1)) ∨
      (byteAt body 0 = 1 ∧ byteAt body 1 = 0 ∧ ∃ x ∈ steps, ∀ n, x ≠ .write n) ∨
      writeTotal steps < (body.drop (12 + 2 * count)).length
    (outOfRange → Answered (exec (.submit tag body) s) 0x20 tag (.refused .badValue) s.hunting) ∧
    (¬ outOfRange → ∃ r, submitReqOf body = some r ∧
      (byteAt body 0 = 0 → r.target = .handle (byteAt body 1)) ∧
      (∀ g : Seg, byteAt body 0 = 1 → (byteAt body 2).toNat = g.val → r.target = .raw g (byteAt body 1)) ∧
      r.cls = (if byteAt body 3 = 0 then .urgent else .routine) ∧
      r.retryBudget = (if byteAt body 4 = 0xFF then 3 else (byteAt body 4).toNat) ∧
      r.deadline = (if deadline = 0 then none else some deadline) ∧
      r.check = decide (byteAt body 7 = 1) ∧
      (byteAt body 8 = 0 → r.predecessor = none) ∧
      (∀ i : Slot, byteAt body 8 = 1 → (byteAt body 9).toNat = i.val → r.predecessor = some ⟨i, byteAt body 10⟩) ∧
      r.steps = steps ∧ r.data = body.drop (12 + 2 * count))

/-- The checks of Table 2-4 in order, each with its status; a refused SUBMIT changes nothing (R4 to R8). A job id is stale
when its slot is FREE or holds another generation (R2). -/
def Obligations.SubmitRefusedByFirstFailingCheck : Prop :=
  (∀ (s : State) (id : JobId),
    (s.staleId id = true ↔ s.jobAt id.slot = none ∨ s.genAt id.slot ≠ id.gen) ∧
    (s.endedNotOk id = true ↔ s.genAt id.slot = id.gen ∧
      ∃ j o, s.jobAt id.slot = some j ∧ j.outcome = some o ∧ o.status ≠ .ok)) ∧
  ∀ (s : State) (tag : Byte) (body : List Byte), Takes s tag → submitSize body = true →
    let refused := fun st => Answered (exec (.submit tag body) s) 0x20 tag (.refused st) s.hunting
    (submitReqOf body = none → refused .badValue) ∧
    (∀ r, submitReqOf body = some r →
      (∀ b, r.target = .handle b → 64 ≤ b.toNat → refused .notFound) ∧
      (∀ b h, r.target = .handle b → b.toNat = h.val → s.entryAt h = none → refused .notFound) ∧
      (∀ g a, r.target = .raw g a →
        (a ≠ 0 ∧ (a.toNat < 0x08 ∨ 0x77 < a.toNat)) ∨ a.setWidth 7 ∈ (s.seg g).config.reserved →
        refused .reservedAddress) ∧
      (∀ t g, s.checkTarget r.target = .good t g →
        (∀ id, r.predecessor = some id → s.staleId id = true → refused .stale) ∧
        (∀ id, r.predecessor = some id → s.staleId id = false → s.endedNotOk id = true →
          refused .predecessorFailed) ∧
        (s.checkPredecessor r.predecessor = none →
          ((∀ i, s.jobAt i ≠ none) → refused .noSlot) ∧
          (∀ i, s.jobAt i = none → s.poolFree < r.blocks + 8 → refused .poolShort))))

/-- An accepted SUBMIT takes the lowest FREE slot under the next generation and its blocks from the pool, records the
job, places it if its data is complete, and answers its id, its state by the codes of Table 13-1, and staged (R1, R8,
R148). The segment of a handle job is that of the entry (R6), and the predecessor is recorded while it has not ended; one that has ended OK is recorded as
absent (R7), which is the model's reading (log entry 30). -/
def Obligations.SubmitAcceptedTakesSlotAndBlocks : Prop :=
  [JobState.staging, .held, .queued, .active, .backoff, .ended].map jobStateCode = [1, 2, 3, 4, 5, 6] ∧
  (∀ (s : State) (tag : Byte) (body : List Byte) (r : SubmitReq) (t : Target) (g : Seg) (i : Slot), Takes s tag →
    let writeTotal := fun steps : List JobStep => (steps.map fun x => match x with
      | .write n => n
      | _ => 0).sum
    let readReserve := fun (steps : List JobStep) (check : Bool) => (steps.map fun x => match x with
      | .write _ => 0
      | .read n => n
      | .countedRead max => max + 1).sum + (match steps.getLast? with
      | none | some (.write _) => 0
      | _ => if check then 1 else 0)
    let blocks := (writeTotal r.steps + 31) / 32 + (readReserve r.steps r.check + 31) / 32
    r.blocks = blocks ∧
    (submitSize body = true → submitReqOf body = some r → s.checkTarget r.target = .good t g →
    s.checkPredecessor r.predecessor = none → s.jobAt i = none → (∀ k, k < i → s.jobAt k ≠ none) →
    blocks + 8 ≤ s.poolFree →
    let j : Job :=
      { state := .staging, segment := g, target := t, cls := r.cls, retryBudget := r.retryBudget
        deadline := r.deadline, check := r.check, predecessor := s.recordedPredecessor r.predecessor, steps := r.steps
        writeTotal := writeTotal r.steps, staged := r.data.length, readReserve := readReserve r.steps r.check
        blocksHeld := blocks
        attempts := 0, resolved := none, overdue := false, cancelPending := false, removalPending := false
        outcome := none, writeData := r.data, deadlineTimer := r.deadline, stagingTimer := some 1000 }
    let u := { s.hunting with
      slots := s.slots.set i.val ⟨s.genAt i + 1, some j⟩
      accepted := s.accepted ++ [i]
      poolFree := s.poolFree - blocks }.placeIfComplete i
    ∃ j', u.jobAt i = some j' ∧
      Answered (exec (.submit tag body) s) 0x20 tag
        (.ok [byteOf i.val, s.genAt i + 1, jobStateCode j'.state, byteOf j'.staged, byteOf (j'.staged / 256)]) u)) ∧
  (∀ s : State,
    (∀ (b : Byte) (h : Handle) (e : Entry), b.toNat = h.val → s.entryAt h = some e →
      s.checkTarget (.handle b) = .good (.handle h) e.segment) ∧
    (∀ (g : Seg) (b : Byte) (a : Addr), b.toNat = a.toNat → b = 0 ∨ (0x08 ≤ b.toNat ∧ b.toNat ≤ 0x77) →
      a ∉ (s.seg g).config.reserved → s.checkTarget (.raw g b) = .good (.raw a) g) ∧
    s.checkPredecessor none = none ∧ s.recordedPredecessor none = .absent ∧
    (∀ (id : JobId) (j : Job), s.genAt id.slot = id.gen → s.jobAt id.slot = some j →
      (j.state ≠ .ended → j.outcome = none →
        s.checkPredecessor (some id) = none ∧ s.recordedPredecessor (some id) = .job id) ∧
      (∀ o, j.state = .ended → j.outcome = some o → o.status = .ok →
        s.checkPredecessor (some id) = none ∧ s.recordedPredecessor (some id) = .absent)))

/-- Placement by the predecessor field as it stands: QUEUED at the tail of its list, which is a choice-point event; HELD
under its predecessor; or ended PREDECESSOR_FAILED. Incomplete data leaves the job STAGING with its staging timer at
1000 ms (R8, R9, R11, R21). -/
def Obligations.PlacementByPredecessor : Prop :=
  ∀ (s : State) (i : Slot) (j : Job), s.jobAt i = some j →
    (j.staged ≠ j.writeTotal → s.placeIfComplete i = s.modJob i fun j => { j with stagingTimer := some 1000 }) ∧
    (j.staged = j.writeTotal →
      let queued := ((s.modJob i fun j => { j with stagingTimer := none, state := .queued, predecessor := .absent }).modSeg
        j.segment fun sg => match j.cls with
          | .urgent => { sg with urgent := sg.urgent ++ [i] }
          | .routine => { sg with routine := sg.routine ++ [i] }).markChoice j.segment
      (∀ id, s.liveId id = true ↔
        s.genAt id.slot = id.gen ∧ ∃ p, s.jobAt id.slot = some p ∧ p.state ≠ .ended) ∧
      (j.predecessor = .absent → s.placeIfComplete i = queued) ∧
      (∀ id, j.predecessor = .job id → s.liveId id = false → s.endedNotOk id = false → s.placeIfComplete i = queued) ∧
      (∀ id, j.predecessor = .job id → s.liveId id = true →
        s.placeIfComplete i =
          { s.modJob i (fun j => { j with stagingTimer := none, state := .held }) with
            heldSet := s.heldSet ++ [⟨i, id⟩] }) ∧
      (j.predecessor = .failed →
        s.placeIfComplete i =
          (s.modJob i fun j => { j with stagingTimer := none }).endJob i .predecessorFailed .nothing))

/-- APPEND: its checks in order, and the bytes stored after those staged, with the placement of a job whose data is then
complete (R2, R11). -/
def Obligations.AppendStagesBytes : Prop :=
  ∀ (s : State) (tag slot gen : Byte) (data : List Byte), Takes s tag →
    let a := fun x t => Answered (exec (.append tag (slot :: gen :: data)) s) 0x21 tag x t
    (32 ≤ slot.toNat → a (.refused .badValue) s.hunting) ∧
    (∀ i : Slot, slot.toNat = i.val →
      (s.jobAt i = none ∨ s.genAt i ≠ gen → a (.refused .stale) s.hunting) ∧
      (∀ j, s.genAt i = gen → s.jobAt i = some j →
        (j.state ≠ .staging → a (.refused .notStaging) s.hunting) ∧
        (j.state = .staging → j.writeTotal < j.staged + data.length → a (.refused .badValue) s.hunting) ∧
        (j.state = .staging → j.staged + data.length ≤ j.writeTotal →
          let u := (s.hunting.modJob i fun j =>
            { j with writeData := j.writeData ++ data, staged := j.staged + data.length }).placeIfComplete i
          ∃ j', u.jobAt i = some j' ∧
            a (.ok [slot, gen, jobStateCode j'.state, byteOf j'.staged, byteOf (j'.staged / 256)]) u)))

/-- CANCEL: a job that has not ended and is not ACTIVE ends CANCELLED; an ACTIVE one gets the cancel pending flag, and its
attempt is abandoned at once where it still waits for the bus (R2, R40, R41, R80). The reply state ACTIVE in that last
case is the model's choice (log entry 11). -/
def Obligations.CancelEndsOrMarksTheJob : Prop :=
  ∀ (s : State) (tag slot gen : Byte), Takes s tag →
    let a := fun x t => Answered (exec (.cancel tag [slot, gen]) s) 0x22 tag x t
    (32 ≤ slot.toNat → a (.refused .badValue) s.hunting) ∧
    (∀ i : Slot, slot.toNat = i.val →
      (s.jobAt i = none ∨ s.genAt i ≠ gen → a (.refused .stale) s.hunting) ∧
      (∀ j, s.genAt i = gen → s.jobAt i = some j →
        (j.state = .ended → a (.refused .alreadyEnded) s.hunting) ∧
        (j.state ≠ .ended → j.state ≠ .active →
          a (.ok [slot, gen, 6]) (s.hunting.endJob i .cancelled .nothing)) ∧
        (j.state = .active →
          let marked := s.hunting.modJob i fun j => { j with cancelPending := true }
          ((s.seg j.segment).handed ≠ some (.job i) ∨ (s.seg j.segment).sc = .controlling →
            a (.ok [slot, gen, 4]) marked) ∧
          ((s.seg j.segment).handed = some (.job i) → (s.seg j.segment).sc = .contending →
            a (.ok [slot, gen, 4])
              (((marked.modSeg j.segment fun sg => { sg with sc := .idle, handed := none }).markChoice
                j.segment).endJob i .cancelled .nothing)) ∧
          ((s.seg j.segment).handed = some (.job i) → (s.seg j.segment).sc = .serving ∨
              (s.seg j.segment).sc = .recovering →
            a (.ok [slot, gen, 4])
              ((marked.modSeg j.segment fun sg => { sg with handed := none }).endJob i .cancelled .nothing)))))

/-- QUERY_JOB answers the record as it stands, with the position of a QUEUED job in its class list and the end status of
an ENDED one, and changes nothing (R2, R14). -/
def Obligations.QueryJobReadsTheRecord : Prop :=
  ∀ (s : State) (tag slot gen : Byte), Takes s tag →
    let a := fun x => Answered (exec (.queryJob tag [slot, gen]) s) 0x23 tag x s.hunting
    (32 ≤ slot.toNat → a (.refused .badValue)) ∧
    (∀ i : Slot, slot.toNat = i.val →
      (s.jobAt i = none ∨ s.genAt i ≠ gen → a (.refused .stale)) ∧
      (∀ j, s.genAt i = gen → s.jobAt i = some j →
        ∃ position endStatus,
          a (.ok [slot, gen, jobStateCode j.state, byteOf j.attempts, boolCode j.overdue,
            byteOf j.staged, byteOf (j.staged / 256), byteOf j.writeTotal, byteOf (j.writeTotal / 256),
            position, endStatus]) ∧
          (∀ ahead behind, j.state = .queued → (s.seg j.segment).classList j.cls = ahead ++ i :: behind → i ∉ ahead →
            position = byteOf ahead.length) ∧
          (j.state ≠ .queued → position = 0xFF) ∧
          (∀ o, j.state = .ended → j.outcome = some o → endStatus = endStatusCode o.status) ∧
          (j.state ≠ .ended → endStatus = 0xFF)))

/-- The staging timer ends a STAGING job STAGE_TIMEOUT (R12); the deadline ends a job DEADLINE in every state but ACTIVE
(R13, R38, R39), abandons an attempt that waits, in CONTENDING or through a service or a recovery of the segment, and
marks one that has started overdue (R82). -/
def Obligations.JobTimersEndJobs : Prop :=
  ∀ (s : State) (i : Slot) (j : Job), s.rstLow = false → s.jobAt i = some j →
    (j.state = .staging → j.stagingTimer.isSome →
      Ends (exec (.stagingTimerExpiry i) s) (s.endJob i .stageTimeout .nothing)) ∧
    (j.deadlineTimer.isSome →
      (j.state ≠ .active → Ends (exec (.deadlineExpiry i) s) (s.endJob i .deadline .nothing)) ∧
      (j.state = .active → (s.seg j.segment).handed = some (.job i) → (s.seg j.segment).sc = .controlling →
        Ends (exec (.deadlineExpiry i) s) (s.modJob i fun j => { j with overdue := true, deadlineTimer := none })) ∧
      (j.state = .active → (s.seg j.segment).handed = some (.job i) → (s.seg j.segment).sc = .contending →
        Ends (exec (.deadlineExpiry i) s)
          (((s.modSeg j.segment fun sg => { sg with sc := .idle, handed := none }).markChoice j.segment).endJob i
            .deadline .nothing)) ∧
      (j.state = .active → (s.seg j.segment).handed = some (.job i) →
        (s.seg j.segment).sc = .serving ∨ (s.seg j.segment).sc = .recovering →
        Ends (exec (.deadlineExpiry i) s)
          ((s.modSeg j.segment fun sg => { sg with handed := none }).endJob i .deadline .nothing)))

/-- The end of one job: its state and outcome, its timers, its place, the STAGING jobs that name it, and its claim, with
every other slot, every generation and the pool as they were (R10, R15). A QUEUED job leaves its list, in which the
others keep their order (R21), and the fairness count is 0 when the ROUTINE list is then empty (R31). The end of a job in
BACKOFF is a choice-point event of its segment (R29, R37). Nothing else changes: not the Segment Controller, the monitor,
what is handed, the service, the engine or the timers of any segment, but for those of Dispatch that the current job
leaves, nor the Roster, the replies and the frame being sent. -/
def Obligations.JobEndFillsOutcomeAndLeavesItsPlace : Prop :=
  ∀ (s : State) (i : Slot) (j : Job) (st : EndStatus) (c : EndCounts), s.jobAt i = some j → j.state ≠ .ended →
    let t := s.endOne i st c
    let j' : Job := { j with
      state := .ended
      outcome := some ⟨st, c.written, c.read, c.checkByte, j.overdue, c.finalRefused, c.mismatch, j.attempts⟩
      deadlineTimer := none
      stagingTimer := none }
    t.jobAt i = some j' ∧
    (∀ k, k ≠ i → t.jobAt k = (s.jobAt k).map fun p =>
      if p.state = .staging ∧ p.predecessor = .job ⟨i, s.genAt i⟩ then
        { p with predecessor := if st = .ok then .absent else .failed }
      else p) ∧
    (∀ k, t.genAt k = s.genAt k) ∧ t.poolFree = s.poolFree ∧ t.accepted = s.accepted ∧
    (j.state = .queued → i ∉ (t.seg j.segment).classList j.cls ∧
      (∀ ahead behind, (s.seg j.segment).classList j.cls = ahead ++ i :: behind → i ∉ ahead → i ∉ behind →
        (t.seg j.segment).classList j.cls = ahead ++ behind) ∧
      (∀ c, c ≠ j.cls → (t.seg j.segment).classList c = (s.seg j.segment).classList c) ∧
      (t.seg j.segment).fairness = if (t.seg j.segment).routine = [] then 0 else (s.seg j.segment).fairness) ∧
    (j.state ≠ .queued → ∀ g c, (t.seg g).classList c = (s.seg g).classList c) ∧
    (∀ g, g ≠ j.segment ∨ j.state ≠ .queued → (t.seg g).fairness = (s.seg g).fairness) ∧
    (∀ g c, g ≠ j.segment → (t.seg g).classList c = (s.seg g).classList c) ∧
    t.heldSet = (if j.state = .held then s.heldSet.filter (·.slot != i) else s.heldSet) ∧
    (j.state = .active ∨ j.state = .backoff →
      (t.seg j.segment).current = none ∧ (t.seg j.segment).backoffTimer = none ∧
      (t.seg j.segment).backoffExpired = false) ∧
    (s.claims = [] → s.reports.length < 64 →
      t.claims = [] ∧ t.nextSeq = s.nextSeq + 1 ∧ t.attn = true ∧ ∃ body, formReport t (.jobEnded i) = some (0x81, body) ∧
        t.reports = s.reports ++ [⟨0x81, s.nextSeq, body, .jobEnded i, false⟩]) ∧
    (64 ≤ s.reports.length →
      t.claims = s.claims ++ [.jobEnded i] ∧ t.reports = s.reports ∧ t.nextSeq = s.nextSeq ∧ t.attn = s.attn) ∧
    (s.claims = [] ∨ 64 ≤ s.reports.length →
      (∀ g,
        let left := g = j.segment ∧ (j.state = .active ∨ j.state = .backoff)
        t.seg g = { s.seg g with
          urgent := (t.seg g).urgent, routine := (t.seg g).routine, fairness := (t.seg g).fairness
          current := if left then none else (s.seg g).current
          backoffTimer := if left then none else (s.seg g).backoffTimer
          backoffExpired := if left then false else (s.seg g).backoffExpired }) ∧
      t = { (if j.state = .backoff then s.markChoice j.segment else s) with
        slots := t.slots, segs := t.segs, heldSet := t.heldSet
        reports := t.reports, claims := t.claims, nextSeq := t.nextSeq, attn := t.attn })

/-- After a job's end no HELD job still waits on it when it ended OK, and none waits on a job that did not end OK when it
did not. After OK each dependent is released: it is QUEUED with predecessor absent, the dependents of one segment and
class stand at the tail of their list in order of acceptance, and their segments have a choice point due (R24). After any
other status each job that waits on the job, directly or through other HELD jobs, is ended PREDECESSOR_FAILED with nothing
written or read, their claims in order of acceptance, and the STAGING jobs that name one of them are marked (R10, R25).
Nothing else changes beyond the job's own end. -/
def Obligations.EndLeavesNoHeldDependentBehind : Prop :=
  (∀ (s : State) (k : Slot),
    (∀ id, s.waitsOn k id = true ↔ ∃ d, s.jobAt k = some d ∧ d.state = .held ∧ d.predecessor = .job id) ∧
    (s.waitsOnFailed k = true ↔
      ∃ d id, s.jobAt k = some d ∧ d.state = .held ∧ d.predecessor = .job id ∧ s.endedNotOk id = true)) ∧
  ∀ (s : State) (i : Slot) (j : Job) (st : EndStatus) (c : EndCounts), PlacesOk s →
    s.jobAt i = some j → j.state ≠ .ended →
    let one := s.endOne i st c
    let t := s.endJob i st c
    (∀ k, t.genAt k = s.genAt k) ∧
    (st = .ok →
      let deps := s.accepted.filter (s.waitsOn · (s.idAt i))
      (∀ k, t.waitsOn k (s.idAt i) = false) ∧
      (∀ k ∈ deps, t.jobAt k = (s.jobAt k).map fun d => { d with state := .queued, predecessor := .absent }) ∧
      (∀ k, k ∉ deps → t.jobAt k = one.jobAt k) ∧
      t.heldSet = one.heldSet.filter (fun e => !deps.contains e.slot) ∧
      (∀ g cl, (t.seg g).classList cl = (one.seg g).classList cl ++
        deps.filter fun k => (s.jobAt k).any fun d => d.segment == g && d.cls == cl) ∧
      (∀ k d, k ∈ deps → s.jobAt k = some d → d.segment ∈ t.choiceDue) ∧
      (∀ g, t.seg g = { one.seg g with urgent := (t.seg g).urgent, routine := (t.seg g).routine }) ∧
      t = { deps.foldl (fun u k => match s.jobAt k with
          | some d => u.markChoice d.segment
          | none => u) one with
        slots := t.slots, segs := t.segs, heldSet := t.heldSet }) ∧
    (st ≠ .ok →
      (∀ k, t.waitsOnFailed k = false) ∧
      ∃ deps : List Slot, deps.Sublist s.accepted ∧ (∀ k, k ∈ deps ↔ DependsOn s (s.idAt i) k) ∧
        (∀ k ∈ deps, t.jobAt k = (s.jobAt k).map (·.endedAs .predecessorFailed 0 [])) ∧
        t.jobAt i = one.jobAt i ∧
        (∀ k, k ∉ deps → k ≠ i →
          t.jobAt k = (s.jobAt k).map fun p =>
            if p.state = .staging ∧ ∃ m ∈ i :: deps, p.predecessor = .job (s.idAt m) then { p with predecessor := .failed }
            else p) ∧
        t.heldSet = one.heldSet.filter (fun e => !deps.contains e.slot) ∧
        (∀ g cl, (t.seg g).classList cl = (one.seg g).classList cl) ∧
        (s.claims = [] ∨ 64 ≤ s.reports.length →
          t = { one with
            slots := t.slots, heldSet := t.heldSet
            reports := t.reports, claims := t.claims, nextSeq := t.nextSeq, attn := t.attn }) ∧
        (64 ≤ s.reports.length → t.claims = one.claims ++ deps.map .jobEnded ∧ t.reports = one.reports) ∧
        (s.claims = [] → s.reports.length + deps.length < 64 →
          t.claims = [] ∧ t.reports.map (·.owner) = one.reports.map (·.owner) ++ deps.map .jobEnded))

/-- Every place that holds a slot number agrees with the job's state, and every step keeps it so (R15, R21, R23, R28). -/
def Obligations.StepKeepsJobPlaces : Prop :=
  ∀ s t : State, PlacesOk s → step s = .next t → PlacesOk t

/-! ### The Block Pool -/

/-- The free count and the blocks held by slots and messages always total 96, and every step keeps it so (R147 to
R150). With it goes that only a segment that is SERVING has a service. -/
def Obligations.StepKeepsPoolTotal : Prop :=
  ∀ s t : State, PoolOk s → step s = .next t → PoolOk t

/-! ### Dispatch and the Segment Controller -/

/-- At a choice point Dispatch takes the first level of Table 3-1 whose condition holds, level 4 by the fairness count
(R29, R30, R31). -/
def Obligations.ChoiceTakesFirstLevel : Prop :=
  ∀ (s : State) (g : Seg), (s.seg g).sc = .idle → (s.seg g).handed = none →
    let sg := s.seg g
    let resumes := ∃ i j, sg.current = some i ∧ sg.backoffExpired = true ∧ s.jobAt i = some j ∧ j.state = .backoff
    let queries := sg.notice.state = .watching ∧ sg.noticeLine = true ∧ sg.notice.claim = none
    let enrols := sg.engine.state ≠ .none ∧ sg.engine.retryWait = none ∧ sg.current = none
    let selects := sg.engine.state = .none ∧ sg.current = none ∧ (sg.urgent ≠ [] ∨ sg.routine ≠ [])
    (∀ i j, sg.current = some i → sg.backoffExpired = true → s.jobAt i = some j → j.state = .backoff →
      s.choicePoint g =
        ((s.modJob i fun j => { j with state := .active }).modSeg g fun sg => { sg with backoffExpired := false }).handAttempt
          g i) ∧
    (¬ resumes → queries →
      s.choicePoint g =
        (s.modSeg g fun sg => { sg with notice := { sg.notice with state := .querying } }).handActivity g .notice) ∧
    (¬ resumes → ¬ queries → enrols →
      s.choicePoint g =
        (s.modSeg g fun sg => { sg with engine := { sg.engine with
          state := if sg.engine.state = .pending then
              if sg.engine.work = some .forget then .forgetting else .calling
            else sg.engine.state } }).handActivity g .enrol) ∧
    (¬ resumes → ¬ queries → ¬ enrols → selects →
      (∀ u rest, sg.urgent = u :: rest → sg.routine = [] ∨ sg.fairness ≠ 4 →
        s.choicePoint g =
          ((s.modSeg g fun sg => { sg with
              urgent := rest, current := some u
              fairness := if sg.routine = [] then 0 else sg.fairness + 1 }).modJob u fun j =>
            { j with state := .active }).handAttempt g u) ∧
      (∀ r rest, sg.routine = r :: rest → sg.urgent = [] ∨ sg.fairness = 4 →
        s.choicePoint g =
          ((s.modSeg g fun sg => { sg with routine := rest, current := some r, fairness := 0 }).modJob r fun j =>
            { j with state := .active }).handAttempt g r)) ∧
    (¬ resumes → ¬ queries → ¬ enrols → sg.current = none → sg.urgent = [] → sg.routine = [] →
      (∀ h e, s.entryAt h = some e → e.segment = g → e.probeDue = true →
        (∀ k f, k < h → s.entryAt k = some f → f.segment = g → f.probeDue = false) →
        s.choicePoint g = s.handActivity g (.probe (some h) e.address)) ∧
      ((∀ h e, s.entryAt h = some e → e.segment = g → e.probeDue = false) → s.choicePoint g = s)) ∧
    (¬ resumes → ¬ queries → ¬ enrols → ¬ selects → sg.current ≠ none ∨ sg.urgent ≠ [] ∨ sg.routine ≠ [] →
      s.choicePoint g = s)

/-- The end of an action makes the choice points that are due, first to last, each on a segment that is IDLE with nothing
handed, and goes on with those that a choice itself gives rise to; where no segment that is due is ready it is the
transmitter's choice alone (R29). That the choice points of one action are made at its end, in the order of their events,
at most one for each segment at a time, and the transmitter's choice after them, is the model's choice (log entries 4
and 5). -/
def Obligations.NoChoiceWithoutReadySegment : Prop :=
  (∀ (s : State) (g : Seg),
    (g ∈ s.choiceDue → s.markChoice g = s) ∧
    (g ∉ s.choiceDue → s.markChoice g = { s with choiceDue := s.choiceDue ++ [g] }) ∧
    ((s.seg g).sc ≠ .idle ∨ (s.seg g).handed ≠ none → s.choicePoint g = s)) ∧
  (∀ s : State, s.choiceDue.length ≤ 256 →
    (∀ g ∈ s.choiceDue, (s.seg g).sc ≠ .idle ∨ (s.seg g).handed ≠ none) →
    s.settle = { s with choiceDue := [] }.transmit) ∧
  (∀ (s : State) (g : Seg) (rest : List Seg), PlacesOk s → s.choiceDue.Nodup → s.choiceDue = g :: rest →
    s.settle = ({ s with choiceDue := rest }.choicePoint g).settle)

/-- Resolution of an attempt by Table 5-1, and its handing: a job whose target is gone, MISSING or moved ends without
touching the bus, and another gains an attempt and its address (R65). -/
def Obligations.AttemptResolvedBeforeTheBus : Prop :=
  ∀ (s : State) (g : Seg) (i : Slot) (j : Job), s.jobAt i = some j →
    let goes := fun a => (s.modJob i fun j => { j with attempts := j.attempts + 1, resolved := some a }).handActivity g
      (.job i)
    let ends := fun st => (s.endJob i st .nothing).markChoice g
    (∀ a, j.target = .raw a → s.handAttempt g i = goes a) ∧
    (∀ h, j.target = .handle h →
      (s.entryAt h = none ∨ j.removalPending = true → s.handAttempt g i = ends .rosterRemoved) ∧
      (∀ e, s.entryAt h = some e → j.removalPending = false →
        (e.state = .missing → s.handAttempt g i = ends .targetMissing) ∧
        (e.state ≠ .missing → e.segment ≠ j.segment → s.handAttempt g i = ends .targetMoved) ∧
        (e.state ≠ .missing → e.segment = j.segment → s.handAttempt g i = goes e.address)))

/-- A handed activity drives its start at once when the monitor is FREE, which turns it BUSY, and otherwise waits in
CONTENDING; nothing else of the segment or of any other changes (R50, R55, R57). -/
def Obligations.HandedActivityStartsWhenFree : Prop :=
  ∀ (s : State) (g : Seg) (a : Activity),
    ((s.seg g).monitor = .free →
      (s.handActivity g a).seg g =
        { s.seg g with handed := some a, sc := .controlling, monitor := .busy, stopSeen := false, stretch := none }) ∧
    ((s.seg g).monitor ≠ .free →
      (s.handActivity g a).seg g = { s.seg g with handed := some a, sc := .contending }) ∧
    (∀ k, k ≠ g → (s.handActivity g a).seg k = s.seg k) ∧
    s.handActivity g a = { s with segs := (s.handActivity g a).segs }

/-- The expiries that only record an event and make a choice point: the backoff timer (R36), the roll timer, which sets
probe due on every entry of the segment and restarts (R97), and the retry wait (R115). -/
def Obligations.SegmentTimersMakeChoicePoints : Prop :=
  ∀ (s : State) (g : Seg), s.rstLow = false →
    ((s.seg g).backoffTimer.isSome →
      Ends (exec (.backoffTimerExpiry g) s)
        ((s.modSeg g fun sg => { sg with backoffTimer := none, backoffExpired := true }).markChoice g)) ∧
    ((s.seg g).rollTimer.isSome →
      Ends (exec (.rollTimerExpiry g) s)
        ((({ s with roster := s.roster.map fun (o : Option Entry) => o.map fun (e : Entry) =>
              if e.segment = g then { e with probeDue := true } else e } : State).modSeg g fun sg =>
            { sg with rollTimer := some sg.config.rollInterval }).markChoice g)) ∧
    ((s.seg g).engine.retryWait.isSome →
      Ends (exec (.retryWaitExpiry g) s)
        ((s.modSeg g fun sg => { sg with engine := { sg.engine with retryWait := none } }).markChoice g))

/-- The Segment Controller, the bus monitor and Dispatch of every segment agree, and every step keeps it so (R28, R31,
R53, R55, R56, R163). That the monitor is BUSY or FREE in CONTROLLING rests on log entry 37. -/
def Obligations.StepKeepsSegmentsConsistent : Prop :=
  ∀ s t : State, SegmentsOk s → step s = .next t → SegmentsOk t

/-! ### A transaction on the bus -/

/-- A transaction to which the bus answers well runs its parts to the end: every byte written is counted, every byte read
is received in order, and the check byte register holds the check of exactly the bytes that passed, address bytes among
them (R59, R63, R64, R68 to R73). With check on, a last part that is a write sends the check byte and a last part that is
a read compares the one received. The check is that of R63, an address byte is that of R47, and the description of each
activity is given: a job's parts from its steps, a WRITE step taking its bytes from the write data in order (2.2, 5.2), a
probe (R98), a notice query (R140), and each enrolment command by Table 7-1 (R104). -/
def Obligations.WellAnsweredTransactionFinishes : Prop :=
  (∀ bytes : List Byte,
    let shift := fun r : Byte => if r.msb then (r <<< 1) ^^^ 0x2F else r <<< 1
    crc8 bytes = bytes.foldl (fun r b => (List.range 8).foldl (fun r _ => shift r) (r ^^^ b)) 0xFF) ∧
  (∀ (a : Addr) (read : Bool), (addressByte a read).toNat = 2 * a.toNat + if read then 1 else 0) ∧
  (∀ (j : Job) (a : Addr), j.resolved = some a →
    (jobDesc j).address = a ∧ (jobDesc j).check = j.check ∧ (jobDesc j).parts.length = j.steps.length ∧
    ∀ k st, j.steps[k]? = some st →
      let before := ((j.steps.take k).map fun x => match x with
        | .write n => n
        | _ => 0).sum
      (jobDesc j).parts[k]? = some (match st with
        | .write n => .write ((j.writeData.drop before).take n)
        | .read n => .read n
        | .countedRead max => .counted max)) ∧
  (∀ a : Addr, probeDesc a = ⟨a, [.write []], false⟩) ∧
  (∀ (c : SegConfig) (e : Engine),
    let command := fun parts => enrolDesc c e = ⟨c.enrolAddress, parts, true⟩
    noticeDesc c = ⟨c.noticeAddress, [.read 2], true⟩ ∧
    (e.state = .calling → command [.write [0xA1]]) ∧
    (e.state = .identifying → command [.write [0xA2], .read 9]) ∧
    (∀ f a, e.state = .assigning → e.current = some f → e.chosen = some a →
      command [.write (0xA3 :: f.identity.toList ++ [byteOf a.toNat])]) ∧
    (∀ f, e.state = .parking → e.current = some f → command [.write (0xA4 :: f.identity.toList)]) ∧
    (e.state = .forgetting → command [.write [0xA5]])) ∧
  ∀ (a : Addr) (legs : List Leg) (last : Leg), (∀ l ∈ legs ++ [last], l.fits = true) →
    let parts := (legs ++ [last]).map Leg.part
    let answers := (legs ++ [last]).flatMap Leg.answers
    let done : TxRun :=
      { phase := .ended .finished, part := legs.length, written := ((legs ++ [last]).map Leg.written).sum
        read := (legs ++ [last]).flatMap Leg.got, crc := crc8 ((legs ++ [last]).flatMap (Leg.covered a))
        addressAcks := legs.length + 1, refusedLast := false, checkSent := false, checkAcked := false
        checkByte := none, matched := false }
    runTx ⟨a, parts, false⟩ answers = done ∧
    (last.part.isRead = false →
      runTx ⟨a, parts, true⟩ (answers ++ [.ack]) = { done with checkSent := true, checkAcked := true } ∧
      runTx ⟨a, parts, true⟩ (answers ++ [.nak]) = { done with checkSent := true, refusedLast := true }) ∧
    (∀ b, last.part.isRead = true →
      runTx ⟨a, parts, true⟩ (answers ++ [.byte b]) = { done with checkByte := some b, matched := b == done.crc })

/-- A refusal or a loss ends a transaction where it stands. A refused address byte ends it with the number of its part, a
refused write byte with the bytes acknowledged before it, finished only when it is the last byte with check off, and a
count byte above max with that byte among the bytes read (R69, R70, R72). The Broker loses only in a bit in which it has
released the data line (R48): in a write byte other than 00h, in the first address byte to a lower one, in a later
address byte or its repeated start, in the check byte it sends unless that is 00h, in a byte of a read or a counted read
part that it refuses, which is then among the bytes read, and in the check byte it receives after either, which is then
not reported (R64). That an answer of loss
that the byte in hand cannot have changes nothing is the model's choice (log entry 3): to a byte 00h, to a read byte it
acknowledges, to the first address byte with no winner or with one that is not lower, and with a winner to a later
address byte. -/
def Obligations.RefusedByteEndsTransaction : Prop :=
  ∀ (a : Addr) (legs : List Leg) (p : Part) (rest : List Part) (check : Bool), (∀ l ∈ legs, l.fits = true) →
    let run := fun bus => runTx ⟨a, legs.map Leg.part ++ p :: rest, check⟩ (legs.flatMap Leg.answers ++ bus)
    let acked := check = true ∧ rest = []
    let r := run [.nak]
    (r.phase = .ended .addressRefused ∧ r.part = legs.length ∧ r.written = (legs.map Leg.written).sum ∧
      r.read = legs.flatMap Leg.got ∧ r.addressAcks = legs.length ∧ r.refusedLast = true) ∧
    (∀ w : Byte, run [.lostTo w] =
      if legs = [] ∧ w.toNat < (addressByte a p.isRead).toNat then { run [] with phase := .ended (.lostFirst w) }
      else run []) ∧
    (run [.lost] = if legs = [] then run [] else { run [] with phase := .ended .lostLater }) ∧
    (∀ before b after, p = .write (before ++ b :: after) →
      let sent := BusAnswer.ack :: before.map fun _ => BusAnswer.ack
      let r := run (sent ++ [.nak])
      r.phase = .ended (if after = [] ∧ rest = [] ∧ check = false then .finished else .dataRefused) ∧
      r.part = legs.length ∧ r.written = (legs.map Leg.written).sum + before.length ∧ r.refusedLast = true ∧
      run (sent ++ [.lost]) = if b = 0 then run sent else { run sent with phase := .ended .lostLater }) ∧
    (∀ (n : Nat) (got : List Byte) (b : Byte), p = .read n → got.length < n →
      let passed := BusAnswer.ack :: got.map .byte
      run (passed ++ [.byteLost b]) =
        if got.length + 1 = n ∧ ¬ acked then
          { run passed with read := (run passed).read ++ [b], phase := .ended .lostLater }
        else run passed) ∧
    (∀ (max : Nat) (b : Byte), p = .counted max →
      let r := run [.ack]
      (max < b.toNat → run [.ack, .byte b] =
        { r with
          read := r.read ++ [b], crc := crc8 (legs.flatMap (Leg.covered a) ++ [addressByte a true, b])
          phase := .ended .countAboveMax }) ∧
      run [.ack, .byteLost b] =
        if max < b.toNat ∨ (b = 0 ∧ ¬ acked) then { r with read := r.read ++ [b], phase := .ended .lostLater } else r) ∧
    (∀ (got : List Byte) (b : Byte), p = .read got.length → got ≠ [] → acked →
      let passed := BusAnswer.ack :: got.map .byte
      run (passed ++ [.byteLost b]) = { run passed with phase := .ended .lostLater } ∧ (run passed).checkByte = none) ∧
    (∀ (max : Nat) (count : Byte) (got : List Byte) (b : Byte), p = .counted max → count.toNat ≤ max →
      let passed := BusAnswer.ack :: .byte count :: got.map .byte
      (got.length < count.toNat → run (passed ++ [.byteLost b]) =
        if got.length + 1 = count.toNat ∧ ¬ acked then
          { run passed with read := (run passed).read ++ [b], phase := .ended .lostLater }
        else run passed) ∧
      (got.length = count.toNat → acked →
        run (passed ++ [.byteLost b]) = { run passed with phase := .ended .lostLater } ∧ (run passed).checkByte = none)) ∧
    (∀ bytes : List Byte, p = .write bytes → acked →
      let sent := BusAnswer.ack :: bytes.map fun _ => BusAnswer.ack
      let own := crc8 (legs.flatMap (Leg.covered a) ++ addressByte a false :: bytes)
      run (sent ++ [.lost]) = if own = 0 then run sent else { run sent with phase := .ended .lostLater })

/-- The end of a job's attempt by Table 5-2 and Table 5-3: success and the final results end the job with the counts
of the attempt; a refusal at the first address byte, or a loss in it, which first shows the winner's address to the
target role, passes the job to BACKOFF unless a flag or the retry budget ends it (R35, R49, R57, R60, R74, R75, R76).
The Roster is told of acknowledged address bytes and of NO_RESPONSE for the entry that the job names, while that entry
stands on the segment of the job and no removal is pending, and for no other (R79, R90). Answers that do not end the
attempt tell the Roster of the address bytes acknowledged so far, and the attempt goes on (R79); an entry that is PRESENT
without a miss is left as it is, so a byte told twice has one effect. That the command with the answers so far is how a
single byte is told is the model's choice (log entry 7), and so is that the command changes nothing where no job's attempt
is on the bus (log entry 3). The final-byte refused flag is read literally (log entry 13), and the target role sees the
winner's address before the loss is taken (log entry 8). -/
def Obligations.AttemptEndClassed : Prop :=
  (∀ r : TxRun, r.counts = ⟨r.written, r.read, r.checkByte, r.refusedLast, r.checkByte.isSome && !r.matched⟩) ∧
  EndCounts.nothing = ⟨0, [], none, false, false⟩ ∧
  (∀ (s : State) (g : Seg) (i : Slot) (j : Job) (bus : List BusAnswer) (how : TxStop), s.rstLow = false →
    (s.seg g).sc = .controlling → (s.seg g).handed = some (.job i) → (s.seg g).stretch = none → s.jobAt i = some j →
    (runTx (jobDesc j) bus).phase = .ended how →
    let r := runTx (jobDesc j) bus
    let e := fun stopMade => exec (.jobAttemptEnd g bus stopMade) s
    let stopped := (s.stoppedAt g).presenceAck j r
    (how = .finished →
      (r.checkByte = none ∨ r.matched = true → Ends (e true) (stopped.endJob i .ok r.counts)) ∧
      (r.checkByte ≠ none → r.matched = false → Ends (e true) (stopped.endJob i .checkMismatch r.counts))) ∧
    (how = .countAboveMax → Ends (e true) (stopped.endJob i .countTooLarge r.counts)) ∧
    (how = .dataRefused → Ends (e true) (stopped.endJob i .dataNak r.counts)) ∧
    (how = .addressRefused →
      (r.part ≠ 0 →
        Ends (e true) ((stopped.endJob i .noResponse r.counts).presenceMiss j .noResponse)) ∧
      (r.part = 0 → j.cancelPending = false → j.removalPending = false → j.overdue = false →
        (j.retryBudget < j.attempts →
          Ends (e true) ((stopped.endJob i .noResponse .nothing).presenceMiss j .noResponse)) ∧
        (j.attempts ≤ j.retryBudget →
          Ends (e true) ((stopped.modJob i fun j => { j with state := .backoff }).modSeg g fun sg =>
            { sg with backoffTimer := some (sg.config.backoffUnit * j.attempts), backoffExpired := false }))) ∧
      (r.part = 0 → j.cancelPending = true → Ends (e true) (stopped.endJob i .cancelled .nothing)) ∧
      (r.part = 0 → j.cancelPending = false → j.removalPending = true →
        Ends (e true) (stopped.endJob i .rosterRemoved .nothing)) ∧
      (r.part = 0 → j.cancelPending = false → j.removalPending = false → j.overdue = true →
        Ends (e true) (stopped.endJob i .deadline .nothing))) ∧
    (∀ w stopMade, how = .lostFirst w →
      let seen := (addressSeen g w (s.modSeg g fun sg => { sg with sc := .idle, handed := none, stretch := none })).markChoice g
      (j.cancelPending = true → Ends (e stopMade) (seen.endJob i .cancelled .nothing)) ∧
      (j.cancelPending = false → j.removalPending = true → Ends (e stopMade) (seen.endJob i .rosterRemoved .nothing)) ∧
      (j.cancelPending = false → j.removalPending = false → j.overdue = true →
        Ends (e stopMade) (seen.endJob i .deadline .nothing)) ∧
      (j.cancelPending = false → j.removalPending = false → j.overdue = false →
        (j.retryBudget < j.attempts → Ends (e stopMade) (seen.endJob i .lost .nothing)) ∧
        (j.attempts ≤ j.retryBudget →
          Ends (e stopMade) ((seen.modJob i fun j => { j with state := .backoff }).modSeg g fun sg =>
            { sg with backoffTimer := some (sg.config.backoffUnit * j.attempts), backoffExpired := false })))) ∧
    (how = .lostLater → ∀ stopMade,
      Ends (e stopMade) (((s.lostAt g).presenceAck j r).endJob i .lost r.counts)) ∧
    (how ≠ .lostLater → (∀ w, how ≠ .lostFirst w) →
      Ends (e false) (((s.stopFailedAt g).presenceAck j r).endJob i .busFault r.counts))) ∧
  (∀ (s : State) (g : Seg) (i : Slot) (j : Job) (bus : List BusAnswer) (stopMade : Bool), s.rstLow = false →
    (s.seg g).sc = .controlling → (s.seg g).handed = some (.job i) → (s.seg g).stretch = none → s.jobAt i = some j →
    (∀ how, (runTx (jobDesc j) bus).phase ≠ .ended how) →
    Ends (exec (.jobAttemptEnd g bus stopMade) s) (s.presenceAck j (runTx (jobDesc j) bus))) ∧
  (∀ (s : State) (g : Seg) (bus : List BusAnswer) (stopMade : Bool), s.rstLow = false →
    (s.seg g).sc ≠ .controlling ∨ (∀ i, (s.seg g).handed ≠ some (.job i)) →
    Ends (exec (.jobAttemptEnd g bus stopMade) s) s) ∧
  (∀ (s : State) (j : Job) (r : TxRun) (st : EndStatus),
    (∀ a, j.target = .raw a → s.presenceAck j r = s ∧ s.presenceMiss j st = s) ∧
    (∀ h, j.target = .handle h →
      s.entryAt h = none ∨ j.removalPending = true ∨ (∃ e, s.entryAt h = some e ∧ e.segment ≠ j.segment) →
      s.presenceAck j r = s ∧ s.presenceMiss j st = s) ∧
    (∀ h e, j.target = .handle h → s.entryAt h = some e → j.removalPending = false → e.segment = j.segment →
      (r.addressAcks = 0 → s.presenceAck j r = s) ∧
      (r.addressAcks ≠ 0 → s.presenceAck j r = s.entryBecomes h { e with misses := 0, state := .present } e.state) ∧
      (e.state = .present → e.misses = 0 → s.presenceAck j r = s) ∧
      (st ≠ .noResponse → s.presenceMiss j st = s) ∧
      (st = .noResponse →
        (e.state = .missing → s.presenceMiss j st = s) ∧
        (e.state ≠ .missing → e.misses < 2 →
          s.presenceMiss j st = s.entryBecomes h { e with misses := e.misses + 1 } e.state) ∧
        (e.state ≠ .missing → 2 ≤ e.misses →
          s.presenceMiss j st = s.entryBecomes h { e with misses := 0, state := .missing } e.state))))

/-- A cancel reaches the byte boundary of a started attempt (R81): a byte that ended the transaction ends the attempt as it
would have (case 1); after an acknowledged write byte or write address the stop is made at once; the byte the target is
about to drive is received and refused first; a failed stop ends the job BUS_FAULT, and a loss in the refused byte ends it
LOST with that byte read. The acknowledged address bytes that were not told before have their presence effect here (log entry 7), and a byte read
at the boundary counts as received (log entry 33). -/
def Obligations.CancelStopsAtByteBoundary : Prop :=
  ∀ (s : State) (g : Seg) (i : Slot) (j : Job) (bus : List BusAnswer), s.rstLow = false →
    (s.seg g).sc = .controlling → (s.seg g).handed = some (.job i) → (s.seg g).stretch = none → s.jobAt i = some j →
    j.cancelPending = true →
    let r := runTx (jobDesc j) bus
    let cancelled := fun r : TxRun => ((s.stoppedAt g).presenceAck j r).endJob i .cancelled r.counts
    let faulted := fun r : TxRun => ((s.stopFailedAt g).presenceAck j r).endJob i .busFault r.counts
    let lost := fun r : TxRun => ((s.lostAt g).presenceAck j r).endJob i .lost r.counts
    let drives := bus.getLast? = some .ack ∧ ((∃ n rest, r.phase = .recv n rest) ∨ ∃ max rest, r.phase = .count max rest)
    (∀ how next stopMade, r.phase = .ended how →
      exec (.cancelAtByteBoundary g bus next stopMade) s = exec (.jobAttemptEnd g bus stopMade) s) ∧
    (bus ≠ [] → (∀ how, r.phase ≠ .ended how) → (∀ b, bus.getLast? ≠ some (.byteLost b)) →
      (¬ drives →
        ∀ next, Ends (exec (.cancelAtByteBoundary g bus next true) s) (cancelled r) ∧
          Ends (exec (.cancelAtByteBoundary g bus next false) s) (faulted r)) ∧
      (drives →
        ∀ b,
          let r' := { r with read := r.read ++ [b] }
          Ends (exec (.cancelAtByteBoundary g bus (some (.byte b)) true) s) (cancelled r') ∧
          Ends (exec (.cancelAtByteBoundary g bus (some (.byte b)) false) s) (faulted r') ∧
          ∀ stopMade, Ends (exec (.cancelAtByteBoundary g bus (some (.byteLost b)) stopMade) s) (lost r'))) ∧
    (∀ init b next stopMade, bus = init ++ [.byteLost b] →
      (∃ n rest, (runTx (jobDesc j) init).phase = .recv n rest) ∨
        (∃ max rest, (runTx (jobDesc j) init).phase = .count max rest) →
      let r' := runTx (jobDesc j) init
      Ends (exec (.cancelAtByteBoundary g bus next stopMade) s) (lost { r' with read := r'.read ++ [b] }))

/-- A stretch timeout marks the activity that runs; one that comes elsewhere, or again, changes nothing. The end of a
job's attempt is then STRETCH_TIMEOUT when the stop is made and BUS_FAULT when it fails, with no check byte (R51, R64,
R77). A line held low to STUCK acts in IDLE, CONTENDING, CONTROLLING and SERVING (R54). The clock puts the segment in
FAULT: the activity in hand ends as bus fault, a job's attempt with what it had done, the service in progress is
abandoned, and the fault claim follows their claims (R62, R77, R115, R136, R144). The data line puts it in RECOVERING:
an activity that runs ends as bus fault, one that waits stays handed, and the service is abandoned. In RECOVERING, FAULT
and DISABLED the monitor alone changes. That a stretch timeout elsewhere changes nothing (log entry 3), its form as a mark
that the end of the activity reads (log entry 6), the presence effect of the bytes named here (log entry 7), the order
of the claims (log entry 10), the final-byte refused flag (log entry 13), an activity that waits through a service and a
held read at a stuck line (log entries 20 and 27), a notice query ended with the line released and mismatches counted
(log entry 34), and a stretch timeout whose stop fails (log entry 35) are the model's readings, and so are the
READ_SERVED claim of a read being served (log entry 9) and its overread (log entry 36). -/
def Obligations.StretchTimeoutAndStuckClockEndTheActivity : Prop :=
  ∀ (s : State) (g : Seg), s.rstLow = false →
    let sg := s.seg g
    let endCounts := fun r : TxRun =>
      if sg.stretch = none then r.counts else { r.counts with checkByte := none, mismatch := false }
    (sg.sc = .controlling → sg.stretch = none → ∀ eighth,
      Ends (exec (.stretchTimeout g eighth) s) (s.modSeg g fun sg => { sg with stretch := some eighth })) ∧
    (sg.sc ≠ .controlling ∨ sg.stretch ≠ none → ∀ eighth, Ends (exec (.stretchTimeout g eighth) s) s) ∧
    (∀ (i : Slot) (j : Job) (bus : List BusAnswer), sg.sc = .controlling → sg.handed = some (.job i) →
      sg.stretch ≠ none → s.jobAt i = some j →
      let r := runTx (jobDesc j) bus
      Ends (exec (.jobAttemptEnd g bus true) s)
        (((s.stoppedAt g).presenceAck j r).endJob i .stretchTimeout (endCounts r)) ∧
      Ends (exec (.jobAttemptEnd g bus false) s)
        (((s.stopFailedAt g).presenceAck j r).endJob i .busFault (endCounts r))) ∧
    (sg.monitor = .off ∨ sg.monitor = .stuck → ∀ line cut, Ends (exec (.stuckDetected g line cut) s) s) ∧
    (∀ cut : BusCut, sg.monitor = .unknown ∨ sg.monitor = .free ∨ sg.monitor = .busy →
      let e := fun line => exec (.stuckDetected g line cut) s
      let stuck := s.modSeg g fun sg => { sg with monitor := .stuck, stopSeen := false }
      let dropped := s.modSeg g fun sg => { sg with monitor := .stuck, stopSeen := false, handed := none, stretch := none }
      let passes := fun (t : State) (sc : ScState) =>
        (t.modSeg g fun sg => { sg with sc := sc, recoverRequested := false }).serviceGone g cut.sent
      let ended : State → Prop := fun u =>
        match sg.handed with
        | none => u = stuck
        | some (.job i) =>
          if sg.sc = .controlling then ∃ j, s.jobAt i = some j ∧
            let r := runTx (jobDesc j) cut.answers
            u = (dropped.presenceAck j r).endJob i .busFault (endCounts r)
          else FaultTaken s g dropped (.job i) u
        | some a => FaultTaken s g dropped a u
      (sg.sc = .idle ∨ sg.sc = .contending ∨ sg.sc = .controlling ∨ sg.sc = .serving →
        (∀ u, ended u → Ends (e .clock) ((passes u .fault).claimFault g (faultClaimAfterEntry · .clock))) ∧
        (sg.sc = .controlling → ∀ u, ended u → Ends (e .data) (passes u .recovering)) ∧
        (sg.sc ≠ .controlling → Ends (e .data) (passes stuck .recovering))) ∧
      (sg.sc = .recovering ∨ sg.sc = .fault ∨ sg.sc = .disabled → ∀ line, Ends (e line) stuck))

/-! ### The bus monitor, recovery and FAULT -/

/-- What the bus monitor makes of the lines (Table 4-3), the start an activity in CONTENDING drives when the monitor
turns FREE, and the end of a service whose controller has vanished: 1 ms of high lines in SERVING with the bus BUSY
completes the message or records the read and leaves SERVING, as a stop does (R50, R53, R55, R58, R127, R129). That a
clock fall in BUSY leaves the free time running is the model's reading (log entry 21). In CONTROLLING, too, the free time
and the 1 ms turn the monitor FREE, which the lines can show there after a winner has stopped or vanished inside the first
address byte; that the activity stays in CONTROLLING until its end is named is the model's choice (log entry 37). That the
1 ms changes nothing during a held read, and that an event that the monitor's state has no row for changes nothing, is the
model's choice (log entry 3); the READ_SERVED claim that follows the removal of
the reply is log entry 9, and the overread that a read recorded here counts is log entry 36. -/
def Obligations.MonitorFollowsTheLines : Prop :=
  ∀ (s : State) (g : Seg), s.rstLow = false →
    let sg := s.seg g
    let taken := s.modSeg g fun sg => { sg with monitor := .busy, stopSeen := false }
    let freed := (s.modSeg g fun sg => { sg with monitor := .free, stopSeen := false }).markChoice g
    let starts := s.modSeg g fun sg =>
      { sg with monitor := .busy, stopSeen := false, sc := .controlling, stretch := none }
    (sg.monitor ≠ .off → Ends (exec (.busStartSeen g) s) taken) ∧
    (sg.monitor = .off → Ends (exec (.busStartSeen g) s) s ∧ Ends (exec (.clockFallDataHigh g) s) s) ∧
    (sg.monitor = .unknown ∨ sg.monitor = .free ∨ sg.monitor = .stuck → Ends (exec (.clockFallDataHigh g) s) taken) ∧
    (sg.monitor = .busy → Ends (exec (.clockFallDataHigh g) s) s) ∧
    (sg.monitor = .busy ∨ sg.monitor = .stuck → sg.stopSeen = true →
      (sg.sc ≠ .contending → Ends (exec (.freeTimeElapsed g) s) freed) ∧
      (sg.sc = .contending → Ends (exec (.freeTimeElapsed g) s) (starts.markChoice g))) ∧
    (sg.monitor = .off ∨ sg.monitor = .unknown ∨ sg.monitor = .free ∨ sg.stopSeen = false →
      Ends (exec (.freeTimeElapsed g) s) s) ∧
    (∀ n,
      let e := exec (.linesHigh1ms g n) s
      (sg.monitor = .off ∨ (sg.monitor = .free ∧ sg.sc ≠ .fault) → Ends e s) ∧
      (sg.monitor = .unknown ∨ sg.monitor = .busy ∨ sg.monitor = .stuck → sg.service = .none →
        (sg.sc = .idle ∨ sg.sc = .recovering ∨ sg.sc = .controlling → Ends e freed) ∧
        (sg.sc = .contending → Ends e (starts.markChoice g))) ∧
      (sg.sc = .serving → sg.monitor = .busy →
        (∀ m, sg.service = .receiving m → Ends e ((freed.messageTaken g m false).leaveServing g)) ∧
        (∀ ix p current, sg.service = .reading ix p current →
          Ends e ((freed.readTaken g ix p current n).leaveServing g)) ∧
        (sg.service = .passive ∨ sg.service = .awaiting → Ends e (freed.leaveServing g))) ∧
      (sg.sc = .serving → sg.monitor = .unknown ∨ sg.monitor = .stuck → (∀ ix timer, sg.service ≠ .holding ix timer) →
        Ends e freed) ∧
      (∀ ix timer, sg.service = .holding ix timer → Ends e s))

/-- SEGMENT_RECOVER by the table of R163; how the pulses of a recovery end it (R61), with FAULT on the line held where it
fails: an activity that stayed handed ends as bus fault, its claims before the fault claim (R62, R77, R115, R144); the
exits from FAULT, by recovery and by 1 ms of high lines (R162, R163); and the fault claim with its counts (R161). What the
bus monitor sees of a recovery's own pulses is the model's reading (log entry 19), and so are the order of the claims (log
entry 10) and the claim of a notice query ended with the line released and mismatches counted (log entry 34). -/
def Obligations.RecoveryAndFaultExits : Prop :=
  ∀ (s : State) (g : Seg),
    (∀ tag seg : Byte, Takes s tag →
      let a := fun x t => Answered (exec (.segmentRecover tag [seg]) s) 0x13 tag x t
      (4 ≤ seg.toNat → a (.refused .badValue) s.hunting) ∧
      (seg.toNat = g.val →
        ((s.seg g).sc = .disabled → a (.refused .segmentDisabled) s.hunting) ∧
        ((s.seg g).sc = .fault →
          a (.ok []) (s.hunting.modSeg g fun sg => { sg with sc := .recovering, recoverRequested := true })) ∧
        ((s.seg g).sc ≠ .disabled → (s.seg g).sc ≠ .fault → a (.refused .busy) s.hunting))) ∧
    (∀ pre : List RecoveryPulse, (∀ p ∈ pre, p = .dataLow ∨ p = .stopFailed) →
      (pre.length < 9 →
        recoveryResult 9 (pre ++ [.stopMade]) = some .stopMade ∧ recoveryResult 9 (pre ++ [.clockHeld]) = some .clockHeld ∧
        recoveryResult 9 pre = none) ∧
      (pre.length = 9 → recoveryResult 9 pre = some .dataHeld)) ∧
    (∀ pulses r, s.rstLow = false → (s.seg g).sc = .recovering → (s.seg g).service = .none →
      recoveryResult 9 pulses = some r →
      let e := exec (.recoveryEnd g pulses) s
      let watched := s.modSeg g fun sg => match r with
        | .stopMade => if sg.monitor = .off then sg else { sg with monitor := .busy, stopSeen := true }
        | .dataHeld =>
          if .stopFailed ∈ pulses ∧ sg.monitor ≠ .off ∧ sg.monitor ≠ .busy then
            { sg with monitor := .busy, stopSeen := false }
          else sg
        | .clockHeld => { sg with monitor := .stuck, stopSeen := false }
      (r = .stopMade →
        ((s.seg g).recoverRequested = false →
          Ends e ((watched.modSeg g fun sg => { sg with
            sc := if sg.handed = none then .idle else .contending
            recoverRequested := false }).markChoice g)) ∧
        ((s.seg g).recoverRequested = true → (s.seg g).handed = none →
          Ends e (((watched.modSeg g fun sg => { sg with sc := .idle, recoverRequested := false }).claimFault g
            faultClaimAfterExit).markChoice g))) ∧
      (∀ line, (r = .dataHeld ∧ line = .data) ∨ (r = .clockHeld ∧ line = .clock) →
        let fails := fun u : State => Ends e ((u.modSeg g fun sg =>
          { sg with sc := .fault, recoverRequested := false }).claimFault g (faultClaimAfterEntry · line))
        let dropped := watched.modSeg g fun sg => { sg with handed := none, stretch := none }
        ((s.seg g).handed = none → fails watched) ∧
        (∀ a u, (s.seg g).handed = some a → FaultTaken s g dropped a u → fails u))) ∧
    (∀ n, s.rstLow = false → (s.seg g).sc = .fault → (s.seg g).service = .none → (s.seg g).monitor ≠ .off →
      (s.seg g).monitor ≠ .free →
      Ends (exec (.linesHigh1ms g n) s)
        (((((s.modSeg g fun sg => { sg with monitor := .free, stopSeen := false }).markChoice g).modSeg g fun sg =>
          { sg with sc := .idle }).claimFault g faultClaimAfterExit).markChoice g)) ∧
    (∀ n, s.rstLow = false → (s.seg g).sc = .fault → (s.seg g).service = .none → (s.seg g).monitor = .free →
      Ends (exec (.linesHigh1ms g n) s)
        (((s.modSeg g fun sg => { sg with sc := .idle }).claimFault g faultClaimAfterExit).markChoice g)) ∧
    (∀ f : Option FaultClaim → FaultClaim,
      ((s.seg g).faultClaim = none →
        s.claimFault g f = (s.modSeg g fun sg => { sg with faultClaim := some (f none) }).placeClaim (.fault g)) ∧
      (∀ c, (s.seg g).faultClaim = some c →
        s.claimFault g f = s.modSeg g fun sg => { sg with faultClaim := some (f (some c)) })) ∧
    (∀ line, faultClaimAfterEntry none line = ⟨false, some line, 1, 0⟩ ∧
      ∀ c : FaultClaim, faultClaimAfterEntry (some c) line = ⟨false, some line, min (c.faults + 1) 255, c.recoveries⟩) ∧
    (faultClaimAfterExit none = ⟨true, none, 0, 1⟩ ∧
      ∀ c : FaultClaim, faultClaimAfterExit (some c) = ⟨true, c.line, c.faults, min (c.recoveries + 1) 255⟩)

/-! ### Stations -/

/-- An address byte is matched by Table 8-2, in IDLE, in CONTENDING and after a repeated start in SERVING (R58, R124, R131);
with no match a service that waited for the address ends. In CONTROLLING, RECOVERING, FAULT and DISABLED no address is
evaluated (R58). A data byte is stored or refused by R126. That an address byte with no repeated start before it changes
nothing in SERVING is the model's choice (log entry 3). -/
def Obligations.AddressMatchedAndBytesReceived : Prop :=
  ∀ (s : State) (g : Seg) (b : Byte), s.rstLow = false →
    let sg := s.seg g
    let a := addressOf b
    let e := exec (.addressMatch g b) s
    let serves := fun sv => s.modSeg g fun sg => { sg with sc := .serving, service := sv }
    Ends e (addressSeen g b s) ∧ a.toNat = b.toNat / 2 ∧ (isRead b = true ↔ b.toNat % 2 = 1) ∧
    (∀ ix : StationIx, (recordOf ix).val = ix.val) ∧
    (sg.sc = .controlling ∨ sg.sc = .recovering ∨ sg.sc = .fault ∨ sg.sc = .disabled → Ends e s) ∧
    (sg.sc = .serving → sg.service ≠ .awaiting → Ends e s) ∧
    (sg.sc = .idle ∨ sg.sc = .contending ∨ (sg.sc = .serving ∧ sg.service = .awaiting) →
      (∀ ix : StationIx, (sg.config.station ix).enable = true → (sg.config.station ix).address = a →
        (∀ k, k < ix → (sg.config.station k).enable = false ∨ (sg.config.station k).address ≠ a) →
        (isRead b = false → (sg.inboundAt (recordOf ix)).length < 4 →
          Ends e (serves (.receiving ⟨recordOf ix, a, [], false, false, false⟩))) ∧
        (isRead b = false → 4 ≤ (sg.inboundAt (recordOf ix)).length → Ends e (serves .passive)) ∧
        (∀ p, isRead b = true → (sg.station ix).posted = some p → Ends e (serves (.reading ix p true))) ∧
        (isRead b = true → (sg.station ix).posted = none → (sg.config.station ix).policy = .refuse →
          Ends e (serves .passive)) ∧
        (isRead b = true → (sg.station ix).posted = none → (sg.config.station ix).policy = .hold →
          Ends e ((s.modSeg g fun sg =>
            { sg.modStation ix (fun st => { st with waits := min (st.waits + 1) 255 }) with
              sc := .serving, service := .holding ix sg.config.holdLimit }).placeClaimOnce (.station g ix .waiting)))) ∧
      ((∀ ix : StationIx, (sg.config.station ix).enable = false ∨ (sg.config.station ix).address ≠ a) →
        (a = 0 → isRead b = false → sg.config.broadcastAccept = true →
          ((sg.inboundAt 2).length < 4 → Ends e (serves (.receiving ⟨2, 0, [], false, false, false⟩))) ∧
          (4 ≤ (sg.inboundAt 2).length → Ends e (serves .passive))) ∧
        (a ≠ 0 ∨ isRead b = true ∨ sg.config.broadcastAccept = false →
          (sg.sc ≠ .serving → Ends e s) ∧ (sg.sc = .serving → Ends e (s.leaveServing g))))) ∧
    (∀ m, sg.service = .receiving m →
      let e := exec (.inboundByte g b) s
      let refused := s.modSeg g fun sg => { sg with service := .receiving { m with truncated := true } }
      let stored := fun t : State => t.modSeg g fun sg => { sg with service := .receiving { m with bytes := m.bytes ++ [b] } }
      (m.truncated = true → Ends e s) ∧
      (m.truncated = false →
        (128 ≤ m.bytes.length → Ends e refused) ∧
        (m.bytes.length < 128 → m.bytes.length % 32 = 0 → s.poolFree = 0 → Ends e refused) ∧
        (m.bytes.length < 128 → m.bytes.length % 32 = 0 → 0 < s.poolFree →
          Ends e (stored { s with poolFree := s.poolFree - 1 })) ∧
        (m.bytes.length < 128 → m.bytes.length % 32 ≠ 0 → Ends e (stored s))))

/-- A stop ends the service and a repeated start keeps the Broker SERVING for the address that follows; the message in
progress completes with its claim, and a read that is served is recorded with its counts and its claim, a ONE_SHOT
reply that is still posted being removed (R53, R58, R127, R129). After a service the Segment Controller returns to
CONTENDING with its activity, which starts when the monitor is FREE, or to IDLE. Outside SERVING a stop and a repeated
start are the monitor's alone (R53). The READ_SERVED claim following the removal of the reply is the model's reading (log
entry 9), and so are the overread of a read with more than 255 fillers (log entry 36) and that a held read, and a segment
whose monitor is OFF, take no notice of them (log entry 3). -/
def Obligations.ServicesEndAtStopAndRepeatedStart : Prop :=
  ∀ (s : State) (g : Seg) (n : Nat), s.rstLow = false →
    let stopped := s.modSeg g fun sg =>
      if sg.monitor = .busy ∨ sg.monitor = .stuck then { sg with stopSeen := true } else sg
    let restarted := s.modSeg g fun sg => { sg with monitor := .busy, stopSeen := false }
    let awaits := fun t : State => t.modSeg g fun sg => { sg with service := .awaiting }
    (∀ ix p current, (s.seg g).service = .reading ix p current →
      Ends (exec (.servedReadEnd g n) s) (s.readTaken g ix p current n)) ∧
    ((s.seg g).sc ≠ .serving → (s.seg g).service = .none →
      Ends (exec (.busStopSeen g n) s) stopped ∧
      ((s.seg g).monitor ≠ .off → Ends (exec (.busRepeatedStartSeen g n) s) restarted) ∧
      ((s.seg g).monitor = .off → Ends (exec (.busRepeatedStartSeen g n) s) s)) ∧
    (∀ ix timer, (s.seg g).service = .holding ix timer →
      Ends (exec (.busStopSeen g n) s) s ∧ Ends (exec (.busRepeatedStartSeen g n) s) s) ∧
    ((s.seg g).sc = .serving →
      (∀ m, (s.seg g).service = .receiving m →
        Ends (exec (.busStopSeen g n) s) ((stopped.messageTaken g m false).leaveServing g)) ∧
      (∀ ix p current, (s.seg g).service = .reading ix p current →
        Ends (exec (.busStopSeen g n) s) ((stopped.readTaken g ix p current n).leaveServing g)) ∧
      ((s.seg g).service = .passive ∨ (s.seg g).service = .awaiting →
        Ends (exec (.busStopSeen g n) s) (stopped.leaveServing g))) ∧
    ((s.seg g).sc = .serving → (s.seg g).monitor ≠ .off →
      (∀ m, (s.seg g).service = .receiving m →
        Ends (exec (.busRepeatedStartSeen g n) s) (awaits (restarted.messageTaken g m true))) ∧
      (∀ ix p current, (s.seg g).service = .reading ix p current →
        Ends (exec (.busRepeatedStartSeen g n) s) (awaits (restarted.readTaken g ix p current n))) ∧
      ((s.seg g).service = .passive ∨ (s.seg g).service = .awaiting →
        Ends (exec (.busRepeatedStartSeen g n) s) (awaits restarted))) ∧
    ((s.seg g).handed = none →
      s.leaveServing g = (s.modSeg g fun sg => { sg with sc := .idle, service := .none }).markChoice g) ∧
    ((s.seg g).handed ≠ none → (s.seg g).monitor ≠ .free →
      s.leaveServing g = s.modSeg g fun sg => { sg with sc := .contending, service := .none }) ∧
    ((s.seg g).handed ≠ none → (s.seg g).monitor = .free →
      s.leaveServing g = s.modSeg g fun sg =>
        { sg with sc := .controlling, service := .none, monitor := .busy, stopSeen := false, stretch := none })

/-- A held read ends at the first of two events: POST_REPLY to its station serves it from the new reply, and the hold timer's
expiry refuses it and is counted and claimed (R132). POST_REPLY by the table of R133: a read that is being served goes on
with its snapshot. -/
def Obligations.HeldReadEndsByPostOrExpiry : Prop :=
  ∀ s : State,
    (∀ (g : Seg) (ix : StationIx) (timer : Nat), s.rstLow = false → (s.seg g).service = .holding ix timer →
      Ends (exec (.holdTimerExpiry g) s)
        ((s.modSeg g fun sg =>
          { sg.modStation ix (fun st => { st with expired := min (st.expired + 1) 255 }) with
            service := .passive }).placeClaimOnce (.station g ix .expired))) ∧
    (∀ (tag seg index mode : Byte) (bytes : List Byte), Takes s tag →
      let a := fun x t => Answered (exec (.postReply tag (seg :: index :: mode :: bytes)) s) 0x38 tag x t
      (4 ≤ seg.toNat ∨ 2 ≤ index.toNat ∨ 2 ≤ mode.toNat ∨ bytes = [] ∨ 64 < bytes.length →
        a (.refused .badValue) s.hunting) ∧
      (∀ (g : Seg) (ix : StationIx), seg.toNat = g.val → index.toNat = ix.val → mode.toNat < 2 → bytes ≠ [] →
        bytes.length ≤ 64 →
        (((s.seg g).config.station ix).enable = false → a (.refused .notFound) s.hunting) ∧
        (((s.seg g).config.station ix).enable = true →
          let p : PostedReply := ⟨bytes, mode == 1⟩
          ∀ sv : Service,
            (∀ t, (s.seg g).service = .holding ix t → sv = .reading ix p true) →
            (∀ q c, (s.seg g).service = .reading ix q c → sv = .reading ix q false) →
            ((∀ t, (s.seg g).service ≠ .holding ix t) → (∀ q c, (s.seg g).service ≠ .reading ix q c) →
              sv = (s.seg g).service) →
            let replaced : Byte := if ((s.seg g).station ix).posted = none then 0 else 1
            let released : Byte := match (s.seg g).service with
              | .holding k _ => if k = ix then 2 else 0
              | _ => 0
            a (.ok [replaced + released])
              (s.hunting.modSeg g fun sg =>
                { sg.modStation ix (fun st => { st with posted := some p }) with service := sv }))))

/-- WITHDRAW_REPLY: refused BAD_VALUE and NOT_FOUND as POST_REPLY is; otherwise the posted reply is removed and the reply says
whether there was one. A read being served keeps its snapshot, and a held read goes on (R134). -/
def Obligations.WithdrawRemovesPostedReply : Prop :=
  ∀ (s : State) (tag seg index : Byte), Takes s tag →
    let a := fun x t => Answered (exec (.withdrawReply tag [seg, index]) s) 0x39 tag x t
    (4 ≤ seg.toNat ∨ 2 ≤ index.toNat → a (.refused .badValue) s.hunting) ∧
    (∀ (g : Seg) (ix : StationIx), seg.toNat = g.val → index.toNat = ix.val →
      (((s.seg g).config.station ix).enable = false → a (.refused .notFound) s.hunting) ∧
      (((s.seg g).config.station ix).enable = true →
        ∀ sv : Service,
          (∀ q c, (s.seg g).service = .reading ix q c → sv = .reading ix q false) →
          ((∀ q c, (s.seg g).service ≠ .reading ix q c) → sv = (s.seg g).service) →
          a (.ok [boolCode ((s.seg g).station ix).posted.isSome])
            (s.hunting.modSeg g fun sg =>
              { sg.modStation ix (fun st => { st with posted := none }) with service := sv })))

/-! ### The Roster -/

/-- ROSTER_READ lists the entries of a range of handles and changes nothing (R96); ROSTER_ADD_FIXED by Table 6-3
(R92); ROSTER_REMOVE by its checks in order, with forced removal of the live jobs that name the handle (R93, R94): an
ACTIVE job is marked and any other ends ROSTER_REMOVED, and then the claim of the entry is withdrawn, its handle becomes
free, every other entry stays, and a probe of it in flight loses its entry (R100).
That the count of jobs ended takes in those of the cascade is the model's reading (log entry 12). -/
def Obligations.RosterRequestsAnswered : Prop :=
  ∀ (s : State) (tag : Byte), Takes s tag →
    (∀ first count : Byte,
      let a := fun x => Answered (exec (.rosterRead tag [first, count]) s) 0x30 tag x s.hunting
      (64 ≤ first.toNat ∨ count = 0 ∨ 17 ≤ count.toNat → a (.refused .badValue)) ∧
      (first.toNat < 64 → count ≠ 0 → count.toNat ≤ 16 →
        let found := ((List.finRange 64).filter fun h => first.toNat ≤ h.val ∧ h.val < first.toNat + count.toNat).filterMap
          fun h => (s.entryAt h).map fun e =>
            let state : Byte := match e.state with
              | .unconfirmed => 0
              | .present => 1
              | .missing => 2
            let device : Byte × List Byte := match e.kind with
              | .fixed => (0, [])
              | .enrolled f => (4, f.identity.toList ++ [f.cls])
            let due : Byte := if e.probeDue then 8 else 0
            [byteOf h.val, byteOf e.segment.val, byteOf e.address.toNat, state + device.1 + due, byteOf e.misses] ++
              device.2
        a (.ok (byteOf found.length :: found.flatten)))) ∧
    (∀ seg addr : Byte,
      let a := fun x t => Answered (exec (.rosterAddFixed tag [seg, addr]) s) 0x31 tag x t
      (4 ≤ seg.toNat ∨ 0x80 ≤ addr.toNat → a (.refused .badValue) s.hunting) ∧
      (∀ (g : Seg) (x : Addr), seg.toNat = g.val → addr.toNat = x.toNat →
        (x.toNat < 0x08 ∨ 0x77 < x.toNat ∨ x ∈ (s.seg g).config.reserved → a (.refused .reservedAddress) s.hunting) ∧
        (0x08 ≤ x.toNat → x.toNat ≤ 0x77 → x ∉ (s.seg g).config.reserved →
          ((∃ h e, s.entryAt h = some e ∧ e.segment = g ∧ e.address = x) ∨ (s.seg g).engine.chosen = some x →
            a (.refused .conflict) s.hunting) ∧
          ((∀ h e, s.entryAt h = some e → e.segment = g → e.address ≠ x) → (s.seg g).engine.chosen ≠ some x →
            ((∀ h, s.entryAt h ≠ none) → a (.refused .rosterFull) s.hunting) ∧
            (∀ h, s.entryAt h = none → (∀ k, k < h → s.entryAt k ≠ none) →
              a (.ok [byteOf h.val])
                (s.hunting.putEntry h (some
                  { segment := g, address := x, kind := .fixed, state := .unconfirmed, misses := 0, probeDue := false
                    claimWaiting := false, created := false, moved := false, changes := 0 }))))))) ∧
    (∀ handle force : Byte,
      let a := fun x t => Answered (exec (.rosterRemove tag [handle, force]) s) 0x32 tag x t
      (64 ≤ handle.toNat ∨ 2 ≤ force.toNat → a (.refused .badValue) s.hunting) ∧
      (∀ h : Handle, handle.toNat = h.val → force.toNat < 2 →
        (s.entryAt h = none → a (.refused .notFound) s.hunting) ∧
        (∀ e, s.entryAt h = some e →
          (e.isEnrolled = true → e.state = .present → a (.refused .stillPresent) s.hunting) ∧
          (e.isEnrolled = false ∨ e.state ≠ .present →
            (s.jobsNaming h = [] → a (.ok [0, 0]) (s.hunting.dropEntry h)) ∧
            (s.jobsNaming h ≠ [] → force = 0 → a (.refused .inUse) s.hunting) ∧
            (s.jobsNaming h ≠ [] → force = 1 →
              let t := ((s.jobsNaming h).foldl State.removeReaches s.hunting).dropEntry h
              let ended := fun u : State => (allSlots.filter fun i => (u.jobAt i).any (·.state == .ended)).length
              a (.ok [byteOf (ended t - ended s), boolCode (s.anyActive (s.jobsNaming h))]) t))))) ∧
    (∀ h : Handle,
      s.jobsNaming h = s.accepted.filter (fun i => (s.jobAt i).any fun j => j.state != .ended && j.target == .handle h) ∧
      (s.anyActive (s.jobsNaming h) = true ↔ ∃ i ∈ s.jobsNaming h, ∃ j, s.jobAt i = some j ∧ j.state = .active) ∧
      (∀ (u : State) (i : Slot) (j : Job), u.jobAt i = some j →
        (j.state = .active → u.removeReaches i = u.modJob i fun j => { j with removalPending := true }) ∧
        (j.state ≠ .active → j.state ≠ .ended → u.removeReaches i = u.endJob i .rosterRemoved .nothing) ∧
        (j.state = .ended → PlacesOk u → u.removeReaches i = u)) ∧
      let t := s.dropEntry h
      t.entryAt h = none ∧ (∀ k, k ≠ h → t.entryAt k = s.entryAt k) ∧
      t.claims = s.claims.filter (· != .roster h) ∧
      (∀ g, (∀ x, (s.seg g).handed = some (.probe (some h) x) →
          t.seg g = { s.seg g with handed := some (.probe none x) }) ∧
        ((∀ x, (s.seg g).handed ≠ some (.probe (some h) x)) → t.seg g = s.seg g)) ∧
      t = { s with roster := t.roster, claims := t.claims, segs := t.segs })

/-- A probe's end by Table 6-5 for the entry it was handed for, and a result discarded when that entry has gone, moved or
changed its address (R99, R100); the two signals and the claim of a change of state (R90, R91). A loss in the first
address byte, a stretch timeout and a failed stop have no effect on the entry, whose probe due stays set. That the target
role is evaluated before the loss is read (log entry 8), and a stretch timeout whose stop fails (log entry 35), are the
model's readings. -/
def Obligations.ProbeResultSignalsItsEntry : Prop :=
  ∀ (s : State) (g : Seg) (entry : Option Handle) (x : Addr) (bus : List BusAnswer), s.rstLow = false →
    (s.seg g).sc = .controlling → (s.seg g).handed = some (.probe entry x) →
    let e := fun stopMade => exec (.probeEnd g bus stopMade) s
    let changed := fun h new old => (s.stoppedAt g).entryBecomes h new old
    let left := s.modSeg g fun sg => { sg with sc := .idle, handed := none, stretch := none }
    ((s.seg g).stretch ≠ none → Ends (e true) (s.stoppedAt g) ∧ Ends (e false) (s.stopFailedAt g)) ∧
    ((s.seg g).stretch = none → ∀ w : Byte, bus = [.lostTo w] → w.toNat < (addressByte x false).toNat →
      ∀ stopMade, Ends (e stopMade) ((addressSeen g w left).markChoice g)) ∧
    (∀ h d, (s.seg g).stretch = none → entry = some h → s.entryAt h = some d → d.segment = g → d.address = x →
      (bus = [.ack] → Ends (e true) (changed h { d with probeDue := false, misses := 0, state := .present } d.state)) ∧
      (bus = [.nak] →
        (d.state = .missing → Ends (e true) (changed h { d with probeDue := false } d.state)) ∧
        (d.state ≠ .missing → d.misses < 2 →
          Ends (e true) (changed h { d with probeDue := false, misses := d.misses + 1 } d.state)) ∧
        (d.state ≠ .missing → 2 ≤ d.misses →
          Ends (e true) (changed h { d with probeDue := false, misses := 0, state := .missing } d.state)))) ∧
    ((s.seg g).stretch = none → bus = [.ack] ∨ bus = [.nak] →
      ((∀ h d, entry = some h → s.entryAt h = some d → d.segment ≠ g ∨ d.address ≠ x) →
        Ends (e true) (s.stoppedAt g)) ∧
      Ends (e false) (s.stopFailedAt g))

/-- The laws of the Roster hold at all times: no two entries hold one identity, no two entries of a segment hold one address,
no entry holds a reserved address of its segment, and the miss counts and states agree (R87, R89, R90, R91, R112, R153). -/
def Obligations.StepKeepsRosterLaws : Prop :=
  ∀ s t : State, RosterOk s → step s = .next t → RosterOk t

/-! ### Enrolment -/

/-- ENROL_SWEEP and ENROL_FORGET by the table of R107: refused for a segment that is not one of A to D, disabled or already at
such work, and otherwise PENDING, which is a choice-point event (R107, R119). -/
def Obligations.EnrolmentRequestsAnswered : Prop :=
  ∀ (s : State) (tag seg : Byte) (c : Instr) (kind : Byte) (w : WorkKind), Takes s tag →
    (c = .enrolSweep tag [seg] ∧ kind = 0x33 ∧ w = .sweep) ∨ (c = .enrolForget tag [seg] ∧ kind = 0x34 ∧ w = .forget) →
    let a := fun x t => Answered (exec c s) kind tag x t
    (4 ≤ seg.toNat → a (.refused .badValue) s.hunting) ∧
    (∀ g : Seg, seg.toNat = g.val →
      ((s.seg g).sc = .disabled → a (.refused .segmentDisabled) s.hunting) ∧
      ((s.seg g).sc ≠ .disabled → (s.seg g).engine.state ≠ .none → a (.refused .busy) s.hunting) ∧
      ((s.seg g).sc ≠ .disabled → (s.seg g).engine.state = .none →
        a (.ok [1]) ((s.hunting.modSeg g fun sg => { sg with engine := { sg.engine with
          state := .pending, work := some w, assigned := 0, identRetries := 0, cmdRetries := 0 } }).markChoice g)))

/-- The Engine reads the results of CALL and IDENTIFY: a contender answers, or none is left and the sweep ends COMPLETE, or
an IDENTIFY that does not match is issued again up to three times (R109, R110). -/
def Obligations.CallAndIdentifyRead : Prop :=
  ∀ (s : State) (g : Seg) (bus : List BusAnswer) (how : TxStop), s.rstLow = false → (s.seg g).sc = .controlling →
    (s.seg g).handed = some .enrol → (s.seg g).stretch = none →
    let r := runTx (enrolDesc (s.seg g).config (s.seg g).engine) bus
    r.phase = .ended how →
    let stopped := fun f : Engine → Engine => (s.stoppedAt g).modSeg g fun sg =>
      { sg with engine := f { sg.engine with losses := 0 } }
    let refused := how = .addressRefused ∨ how = .dataRefused
    ((s.seg g).engine.state = .calling →
      let e := exec (.callEnd g bus true) s
      (how = .finished → r.checkAcked = true → Ends e (stopped fun en => { en with state := .identifying })) ∧
      (how = .finished → r.checkAcked = false → Ends e ((stopped id).endSweep g .complete)) ∧
      (refused → Ends e ((stopped id).endSweep g .complete))) ∧
    ((s.seg g).engine.state = .identifying →
      let e := exec (.identifyEnd g bus true) s
      (how = .finished → r.matched = true → ∀ f : Found,
        (∀ k (h : k < 8), f.identity[k] = r.read.getD k 0) → f.cls = r.read.getD 8 0 →
        Ends e ((stopped fun en => { en with current := some f, identRetries := 0, cmdRetries := 0 }).decideIdentity g f)) ∧
      (how = .finished → r.matched = false →
        ((s.seg g).engine.identRetries < 3 → Ends e (stopped fun en => { en with identRetries := en.identRetries + 1 })) ∧
        (3 ≤ (s.seg g).engine.identRetries → Ends e ((stopped id).endSweep g .corrupt))) ∧
      (refused → Ends e ((stopped id).endSweep g .complete)))

/-- The decision on an identity by Table 7-4, with the address a move or a new device is given and the conflict claim (R111,
R112, R118). -/
def Obligations.IdentityDecidedByTable : Prop :=
  ∀ (s : State) (g : Seg) (f : Found),
    let assigns := fun a => s.modSeg g fun sg => { sg with engine := { sg.engine with state := .assigning, chosen := some a } }
    let offers := fun a : Addr => (s.seg g).config.poolFirst.toNat ≤ a.toNat ∧ a.toNat ≤ (s.seg g).config.poolLast.toNat ∧
      (∀ h e, s.entryAt h = some e → e.segment = g → e.address ≠ a) ∧ a ∉ (s.seg g).config.reserved
    let chooses := fun t : State =>
      (∀ a, offers a → (∀ b, b.toNat < a.toNat → ¬ offers b) → t = assigns a) ∧
      ((∀ a, ¬ offers a) → t = s.endSweep g .poolExhausted)
    (∀ h e, s.entryAt h = some e → e.identity = some f.identity →
      (∀ k d, s.entryAt k = some d → d.identity = some f.identity → k = h) →
      (e.segment = g → s.decideIdentity g f = assigns e.address) ∧
      (e.segment ≠ g → e.state = .missing → chooses (s.decideIdentity g f)) ∧
      (e.segment ≠ g → e.state ≠ .missing →
        ((s.seg g).conflictClaim = none →
          s.decideIdentity g f =
            (((s.modSeg g fun sg => { sg with conflictClaim := some ⟨f, h, e.segment, 1⟩ }).placeClaim (.conflict g)).modSeg g
              fun sg => { sg with engine := { sg.engine with state := .parking } })) ∧
        (∀ c, (s.seg g).conflictClaim = some c →
          s.decideIdentity g f = s.modSeg g fun sg => { sg with
            conflictClaim := some ⟨f, h, e.segment, min (c.conflicts + 1) 255⟩
            engine := { sg.engine with state := .parking } }))) ∧
    ((∀ h e, s.entryAt h = some e → e.identity ≠ some f.identity) →
      ((∃ h, s.entryAt h = none) → chooses (s.decideIdentity g f)) ∧
      ((∀ h, s.entryAt h ≠ none) → s.decideIdentity g f = s.endSweep g .rosterFull))

/-- The Engine reads the results of ASSIGN, PARK and FORGET: an acknowledged ASSIGN is written into the Roster and counted,
also where the stop after the acknowledged check byte fails, a refused ASSIGN or PARK is issued again up to three times,
and a FORGET that reached the devices makes the PRESENT ENROLLED entries of its segment MISSING, each with its claim, and
ends FORGOTTEN (R113, R114, R119). That a FORGET whose check byte was sent whole has reached them also after a stretch
timeout and a failed stop is the model's reading (log entry 22), and so is the acknowledged check byte of a stretch
timeout whose stop fails (log entry 35). -/
def Obligations.AssignParkAndForgetRead : Prop :=
  ∀ (s : State) (g : Seg) (bus : List BusAnswer), s.rstLow = false → (s.seg g).sc = .controlling →
    (s.seg g).handed = some .enrol →
    let r := runTx (enrolDesc (s.seg g).config (s.seg g).engine) bus
    let en := (s.seg g).engine
    let read := fun (t : State) (f : Engine → Engine) => t.modSeg g fun sg => { sg with engine := f { sg.engine with losses := 0 } }
    let counted := fun t : State => t.modSeg g fun sg =>
      { sg with engine := { sg.engine with chosen := none, assigned := sg.engine.assigned + 1 } }
    let goesOn := fun t : State => t.modSeg g fun sg => { sg with engine := { sg.engine with state := .identifying } }
    let refused := (s.seg g).stretch = none ∧ (r.phase = .ended .addressRefused ∨ r.phase = .ended .dataRefused ∨
      (r.phase = .ended .finished ∧ r.checkAcked = false))
    let again := fun e =>
      (en.cmdRetries < 3 → Ends e (read (s.stoppedAt g) fun en => { en with cmdRetries := en.cmdRetries + 1 })) ∧
      (3 ≤ en.cmdRetries → Ends e ((read (s.stoppedAt g) id).endSweep g .corrupt))
    let takenAt := fun (stopMade : Bool) (base : State) =>
      r.phase = .ended .finished ∧ r.checkAcked = true ∧
        ((stopMade = true ∧ (s.seg g).stretch = none ∧ base = s.stoppedAt g) ∨ (stopMade = false ∧ base = s.stopFailedAt g))
    (en.state = .assigning →
      (refused → again (exec (.assignEnd g bus true) s)) ∧
      (∀ stopMade base f x, takenAt stopMade base → en.current = some f → en.chosen = some x →
        let e := exec (.assignEnd g bus stopMade) s
        let taken := read base id
        let writes := fun t : State =>
          (en.assigned + 1 < 32 → Ends e (goesOn (counted t))) ∧
          (32 ≤ en.assigned + 1 → Ends e ((counted t).endSweep g .sweepLimit))
        (∀ h d, s.entryAt h = some d → d.identity = some f.identity →
          (∀ k c, s.entryAt k = some c → c.identity = some f.identity → k = h) →
          let new : Entry := { d with segment := g, address := x, kind := .enrolled f, state := .present, misses := 0 }
          (d.segment = g → d.state = .present → writes (taken.putEntry h (some new))) ∧
          (d.segment = g → d.state ≠ .present →
            writes ((taken.putEntry h (some new)).rosterChange h false false)) ∧
          (d.segment ≠ g →
            writes ((taken.putEntry h (some { new with probeDue := false })).rosterChange h false true))) ∧
        ((∀ h d, s.entryAt h = some d → d.identity ≠ some f.identity) →
          (∀ h, s.entryAt h = none → (∀ k, k < h → s.entryAt k ≠ none) →
            writes ((taken.putEntry h (some
              { segment := g, address := x, kind := .enrolled f, state := .present, misses := 0, probeDue := false
                claimWaiting := false, created := false, moved := false, changes := 0 })).rosterChange h true false)) ∧
          ((∀ h, s.entryAt h ≠ none) → Ends e ((counted taken).endSweep g .rosterFull))))) ∧
    (en.state = .parking →
      (refused → again (exec (.parkEnd g bus true) s)) ∧
      (∀ stopMade base, takenAt stopMade base →
        Ends (exec (.parkEnd g bus stopMade) s)
          (read base fun en => { en with current := none, state := .identifying }))) ∧
    (en.state = .forgetting →
      ∀ stopMade base,
        (stopMade = true ∧ base = s.stoppedAt g) ∨ (stopMade = false ∧ base = s.stopFailedAt g) →
        ((s.seg g).stretch = none → stopMade = true ∧
            (r.phase = .ended .finished ∨ r.phase = .ended .addressRefused ∨ r.phase = .ended .dataRefused) ∨
          stopMade = false ∧ r.phase = .ended .finished ∧ r.checkSent = true) →
        ((s.seg g).stretch ≠ none → r.checkSent = true ∨ (r.phase = .checkOut ∧ (s.seg g).stretch = some true)) →
        let gone := fun (u : State) (h : Handle) => match u.entryAt h with
          | some d => if d.segment = g ∧ d.isEnrolled = true ∧ d.state = .present then
              u.entryBecomes h { d with state := .missing, misses := 0 } .present else u
          | none => u
        let t := (List.finRange 64).foldl gone (read base id)
        Ends (exec (.forgetEnd g bus stopMade) s) (t.endSweep g .forgotten) ∧
        ∀ h, (t.entryAt h).map (fun e => (e.segment, e.address, e.kind, e.state, e.misses)) =
          (s.entryAt h).map fun e =>
            if e.segment = g ∧ e.isEnrolled = true ∧ e.state = .present then (e.segment, e.address, e.kind, .missing, 0)
            else (e.segment, e.address, e.kind, e.state, e.misses))

/-- A loss in the first address byte of an enrolment command starts the retry wait with the backoff unit, and the
ninth in a row ends the work INTERRUPTED, as a later loss does at once, and as a stretch timeout and a bus fault do that
the rule of the command does not read: those of an ASSIGN or PARK whose check byte was acknowledged before the stop
failed, and of a FORGET whose check byte was sent whole (R113, R114, R115, R119). The end of a sweep or a FORGET clears
the sweep state and places the SWEEP_ENDED claim or merges into it (R116, R117). That the target role is evaluated
before the loss is read is the model's reading (log entry 8), and so are the check byte that was sent whole (log entry
22) and a stretch timeout whose stop fails (log entry 35). -/
def Obligations.EnrolmentLossesAndEnd : Prop :=
  (∀ (s : State) (g : Seg) (bus : List BusAnswer) (stopMade : Bool) (c : Instr), s.rstLow = false →
    (s.seg g).sc = .controlling → (s.seg g).handed = some .enrol →
    ((s.seg g).engine.state, c) ∈ [(SweepState.calling, Instr.callEnd g bus stopMade), (.identifying, .identifyEnd g bus stopMade),
      (.assigning, .assignEnd g bus stopMade), (.parking, .parkEnd g bus stopMade), (.forgetting, .forgetEnd g bus stopMade)] →
    let r := runTx (enrolDesc (s.seg g).config (s.seg g).engine) bus
    let left := s.modSeg g fun sg => { sg with sc := .idle, handed := none, stretch := none }
    let taken := ((s.seg g).engine.state = .assigning ∨ (s.seg g).engine.state = .parking) ∧ r.checkAcked = true
    let reached := (s.seg g).engine.state = .forgetting ∧
      (r.checkSent = true ∨ (r.phase = .checkOut ∧ (s.seg g).stretch = some true))
    ((s.seg g).stretch = none →
      (∀ w, r.phase = .ended (.lostFirst w) →
        let t := (addressSeen g w left).markChoice g
        ((s.seg g).engine.losses < 8 →
          Ends (exec c s) (t.modSeg g fun sg => { sg with engine := { sg.engine with
            losses := (s.seg g).engine.losses + 1, retryWait := some sg.config.backoffUnit } })) ∧
        (8 ≤ (s.seg g).engine.losses → Ends (exec c s) (t.endSweep g .interrupted))) ∧
      (r.phase = .ended .lostLater → Ends (exec c s) ((s.lostAt g).endSweep g .interrupted)) ∧
      (∀ how, stopMade = false → r.phase = .ended how → how ≠ .lostLater → (∀ w, how ≠ .lostFirst w) → ¬ taken → ¬ reached →
        Ends (exec c s) ((s.stopFailedAt g).endSweep g .interrupted))) ∧
    ((s.seg g).stretch ≠ none → ¬ reached →
      (stopMade = true → Ends (exec c s) ((s.stoppedAt g).endSweep g .interrupted)) ∧
      (stopMade = false → ¬ taken → Ends (exec c s) ((s.stopFailedAt g).endSweep g .interrupted)))) ∧
  (∀ (s : State) (g : Seg) (cause : SweepCause),
    let cleared := fun c => s.modSeg g fun sg => { sg with
      engine := ⟨.none, .none, none, none, 0, 0, 0, 0, none⟩, sweepClaim := some c }
    ((s.seg g).sweepClaim = none →
      s.endSweep g cause = (cleared ⟨cause, (s.seg g).engine.assigned, 1⟩).placeClaim (.sweepEnded g)) ∧
    (∀ c, (s.seg g).sweepClaim = some c →
      s.endSweep g cause = cleared ⟨cause, (s.seg g).engine.assigned, min (c.ends + 1) 255⟩))

/-! ### Notices -/

/-- The end of a notice query: matched, refused, not matched, ended by a stretch timeout, lost or ended by a bus fault
(R141 to R144), with the notice claim, and the same where the service was turned off while the query was in hand, when
it stays OFF (R139); and the notice line's two changes (R139, R142, R143). The flags of NOTICE_UNCLAIMED at their corners
are the model's reading (log entry 28), and so is the claim that follows a loss or a bus fault with the line released
and mismatches not yet claimed (log entry 34), a stretch timeout whose stop fails (log entry 35), and that the target
role sees the winner's address first (log entry 8). -/
def Obligations.NoticeQueriesAndLine : Prop :=
  ∀ (s : State) (g : Seg), s.rstLow = false →
    let count := (s.seg g).notice.retries
    let low := (s.seg g).noticeLine
    let service := (s.seg g).notice.state
    let becomes := fun (t : State) (st : NoticeState) (n : Nat) => t.modSeg g fun sg => { sg with notice := { sg.notice with
      state := st, retries := n } }
    let claims := fun (t : State) (st : NoticeState) (c : NoticeClaim) => (t.modSeg g fun sg => { sg with notice :=
      { state := st, retries := 0, claim := some c } }).placeClaimOnce (.notice g)
    let pauses := fun (t : State) (c : NoticeClaim) => (claims t .querying c).modSeg g fun sg => { sg with notice :=
      { sg.notice with state := if low then .paused else .watching } }
    let watches := fun (o : Host.Outcome State Fault Refusal) (t : State) (n : Nat) =>
      (low = true ∨ n = 0 → Ends o (becomes t .watching n)) ∧
      (low = false → 0 < n → Ends o (claims t .watching (.unclaimed true false)))
    (∀ (bus : List BusAnswer), (s.seg g).sc = .controlling → (s.seg g).handed = some .notice →
      let r := runTx (noticeDesc (s.seg g).config) bus
      let e := fun stopMade => exec (.noticeQueryEnd g bus stopMade) s
      let stopped := s.stoppedAt g
      let faulted := s.stopFailedAt g
      let seen := fun w => (addressSeen g w (s.modSeg g fun sg => { sg with sc := .idle, handed := none, stretch := none })).markChoice g
      let answer := fun a cause : Byte =>
        NoticeClaim.notice (a.setWidth 7) cause ((List.finRange 64).find? fun h =>
          (s.entryAt h).any fun d => d.segment == g && d.address == a.setWidth 7) count
      (∀ how, (s.seg g).stretch = none → r.phase = .ended how → service = .querying →
        (∀ a cause : Byte, how = .finished → r.matched = true → r.read = [a, cause] →
          Ends (e true) (claims stopped .querying (answer a cause)) ∧
          Ends (e false) (claims faulted .querying (answer a cause))) ∧
        (how = .addressRefused → Ends (e true) (pauses stopped (.unclaimed (decide (0 < count)) false))) ∧
        (how = .finished → r.matched = false →
          (count < 2 → watches (e true) stopped (count + 1)) ∧
          (2 ≤ count → Ends (e true) (pauses stopped (.unclaimed true false)))) ∧
        (how = .lostLater → ∀ stopMade, watches (e stopMade) (s.lostAt g) count) ∧
        (∀ w stopMade, how = .lostFirst w → watches (e stopMade) (seen w) count) ∧
        (how = .addressRefused ∨ (how = .finished ∧ r.matched = false) → watches (e false) faulted count)) ∧
      ((s.seg g).stretch ≠ none → service = .querying →
        (count < 2 → watches (e true) stopped (count + 1)) ∧
        (2 ≤ count → Ends (e true) (pauses stopped (.unclaimed true true))) ∧
        watches (e false) faulted count) ∧
      (service = .off → count = 0 →
        (∀ how, (s.seg g).stretch = none → r.phase = .ended how →
          (∀ a cause : Byte, how = .finished → r.matched = true → r.read = [a, cause] →
            Ends (e true) (claims stopped .off (answer a cause)) ∧
            Ends (e false) (claims faulted .off (answer a cause))) ∧
          (how = .addressRefused → Ends (e true) (claims stopped .off (.unclaimed false false))) ∧
          (how = .finished → r.matched = false → Ends (e true) (becomes stopped .off 0)) ∧
          (how = .lostLater → ∀ stopMade, Ends (e stopMade) (s.lostAt g)) ∧
          (∀ w stopMade, how = .lostFirst w → Ends (e stopMade) (becomes (seen w) .off 0)) ∧
          (how = .addressRefused ∨ (how = .finished ∧ r.matched = false) →
            Ends (e false) (becomes faulted .off 0))) ∧
        ((s.seg g).stretch ≠ none →
          Ends (e true) (becomes stopped .off 0) ∧ Ends (e false) (becomes faulted .off 0)))) ∧
    (low = false →
      let asserted := s.modSeg g fun sg => { sg with noticeLine := true }
      (service = .watching → Ends (exec (.noticeLineAsserted g) s) (asserted.markChoice g)) ∧
      (service ≠ .watching → Ends (exec (.noticeLineAsserted g) s) asserted)) ∧
    (low = true →
      let released := s.modSeg g fun sg => { sg with noticeLine := false }
      let e := exec (.noticeLineReleased g) s
      (service = .paused → count = 0 → Ends e (becomes released .watching 0)) ∧
      (service = .watching → count = 0 → Ends e released) ∧
      (service = .watching → 0 < count → Ends e (claims released .watching (.unclaimed true false))) ∧
      (service = .off ∨ service = .querying → Ends e released))

/-! ### Segment Control -/

/-- SEGMENT_CONFIGURE: its checks in order, with the range of each item of Table 11-1, and then the whole new
configuration (R153, R154, R155). On a disabled segment the posted reply of a station that is turned off is removed and
nothing else changes (R156). On an enabled segment, where only the notice service item and the roll interval are taken,
a changed interval restarts or stops the roll timer (R97), and a changed notice service item passes the service to OFF
with retry count 0, to QUERYING while a query is in hand, or to WATCHING (R139). A value already set is no change, which
is the model's reading (log entry 23). -/
def Obligations.ConfigureChangesAllOrNothing : Prop :=
  (∀ (s : State) (tag seg count : Byte) (pairs : List Byte), Takes s tag → pairs.length = 2 * count.toNat →
    let a := fun x t => Answered (exec (.segmentConfigure tag (seg :: count :: pairs)) s) 0x10 tag x t
    (4 ≤ seg.toNat → a (.refused .badValue) s.hunting) ∧
    (∀ g : Seg, seg.toNat = g.val →
      let items := (List.range count.toNat).map fun k => (pairs.getD (2 * k) 0, pairs.getD (2 * k + 1) 0)
      let old := (s.seg g).config
      ((¬ (items.map (·.1)).Nodup ∨ old.setItems items = none) → a (.refused .badValue) s.hunting) ∧
      (∀ new, (items.map (·.1)).Nodup → old.setItems items = some new →
        (new.poolLast.toNat < new.poolFirst.toNat → a (.refused .badValue) s.hunting) ∧
        (new.poolFirst.toNat ≤ new.poolLast.toNat →
          let conflict := ¬ new.reserved.Nodup ∨
            (∃ h e, s.entryAt h = some e ∧ e.segment = g ∧ e.address ∈ new.reserved) ∨
            (∃ i j x, s.jobAt i = some j ∧ j.state ≠ .ended ∧ j.segment = g ∧ j.target = .raw x ∧ x ∈ new.reserved)
          ((s.seg g).sc ≠ .disabled → (∃ p ∈ items, p.1 ≠ 0x0E ∧ p.1 ≠ 0x10) → a (.refused .segmentEnabled) s.hunting) ∧
          ((s.seg g).sc = .disabled ∨ (∀ p ∈ items, p.1 = 0x0E ∨ p.1 = 0x10) →
            (conflict → a (.refused .conflict) s.hunting) ∧
            (¬ conflict →
              ∃ t : State, a (.ok (byteOf g.val :: new.items)) t ∧ (t.seg g).config = new ∧
                ((s.seg g).sc = .disabled →
                  t = (s.hunting.modSeg g fun sg => { sg with config := new, stations := (t.seg g).stations }) ∧
                  ∀ ix, (t.seg g).station ix = { (s.seg g).station ix with
                    posted := if (old.station ix).enable = true ∧ (new.station ix).enable = false then none
                      else ((s.seg g).station ix).posted }) ∧
                ((s.seg g).sc ≠ .disabled →
                  let rolled := s.hunting.modSeg g fun sg => { sg with
                    config := new
                    rollTimer := if new.rollInterval = old.rollInterval then sg.rollTimer
                      else if new.rollInterval = 0 then none else some new.rollInterval }
                  let service := fun st => rolled.modSeg g fun sg => { sg with notice := { sg.notice with state := st } }
                  (new.noticeService = old.noticeService → t = rolled) ∧
                  (old.noticeService = true → new.noticeService = false →
                    t = rolled.modSeg g fun sg => { sg with notice := { sg.notice with state := .off, retries := 0 } }) ∧
                  (old.noticeService = false → new.noticeService = true →
                    ((s.seg g).handed = some .notice → t = service .querying) ∧
                    ((s.seg g).handed ≠ some .notice → (s.seg g).noticeLine = true → t = (service .watching).markChoice g) ∧
                    ((s.seg g).handed ≠ some .notice → (s.seg g).noticeLine = false → (s.seg g).notice.retries = 0 →
                      t = service .watching))))))))) ∧
  (∀ (c : SegConfig) (item v : Byte),
    let range : Nat × Nat := match item.toNat with
      | 0x00 => (0, 2)
      | 0x01 => (1, 100)
      | 0x02 => (1, 40)
      | 0x03 | 0x06 | 0x0B | 0x0C | 0x0D | 0x0F => (0x08, 0x77)
      | 0x04 | 0x05 | 0x07 | 0x08 | 0x0A | 0x0E => (0, 1)
      | 0x09 => (1, 200)
      | 0x10 => (0, 255)
      | _ => (1, 0)
    let inRange := range.1 ≤ v.toNat ∧ v.toNat ≤ range.2
    let flag := fun b : Bool => if b then (1 : Byte) else 0
    let station := fun st : StationConfig => [byteOf st.address.toNat, flag st.enable, if st.policy = .hold then 1 else 0]
    c.items = [match c.profile with
        | .p100 => 0
        | .p400 => 1
        | .p1000 => 2, byteOf c.stretchLimit, byteOf c.backoffUnit] ++ station c.station0 ++ station c.station1 ++
      [byteOf c.holdLimit, flag c.broadcastAccept, byteOf c.enrolAddress.toNat, byteOf c.poolFirst.toNat,
        byteOf c.poolLast.toNat, flag c.noticeService, byteOf c.noticeAddress.toNat, byteOf c.rollInterval] ∧
    c.reserved = ([c.station0, c.station1].filter (·.enable)).map (·.address) ++ [c.enrolAddress, c.noticeAddress] ∧
    (inRange → ∃ new, c.setItem item v = some new ∧ new.items = c.items.set item.toNat v) ∧
    (¬ inRange → c.setItem item v = none) ∧
    c.setItems [] = some c ∧
    (∀ rest, c.setItem item v = none → c.setItems ((item, v) :: rest) = none) ∧
    (∀ rest new, c.setItem item v = some new → c.setItems ((item, v) :: rest) = new.setItems rest))

/-- SEGMENT_ENABLE passes a disabled segment to IDLE with its monitor UNKNOWN, starts the roll timer when the interval is not
0, and puts the notice service in WATCHING when its item is on (R157, R97, R139). SEGMENT_DISABLE leaves the segment off with
nothing in hand and answers the number of jobs it ended (R158). Its current job ends SEGMENT_DISABLED, with what an attempt
on the bus had written and read, its overdue flag as it stands, the flags of a result clear and no check byte (R84). With KEEP every waiting job stays in its place,
and with FLUSH each ends SEGMENT_DISABLED, but that a HELD job whose predecessor this request ended is PREDECESSOR_FAILED
(R159); jobs of other segments change only where they wait on one that ended (R10, R25). A sweep or FORGET ends ABORTED, a
service is abandoned with its blocks returned, the notice service is OFF with retry count 0 (R146), the timers of the
segment stop, and its configuration, inbound lists, station records but for a read being served, waiting notice,
ENROL_CONFLICT and fault claims, its Roster entries but for probe due, and the other segments stay as they are. The claims stand in the order of R159, in the Report Queue as
far as it has room and then in the claim list: the current job's and those its end cascaded, then the flushed
jobs' in order of acceptance, each followed by those its own end cascaded, and then the SWEEP_ENDED claim. The
ROSTER_CHANGED claim before them, of the address bytes that the attempt cut off had had acknowledged, is the model's
choice (log entry 7), and so are the place of the READ_SERVED claim (log entries 9 and 10) and the overread of that read
(log entry 36). -/
def Obligations.EnableAndDisableSegment : Prop :=
  ∀ (s : State) (tag seg : Byte), Takes s tag →
    (4 ≤ seg.toNat →
      Answered (exec (.segmentEnable tag [seg]) s) 0x11 tag (.refused .badValue) s.hunting ∧
      ∀ mode cut, Answered (exec (.segmentDisable tag [seg, mode] cut) s) 0x12 tag (.refused .badValue) s.hunting) ∧
    (∀ g : Seg, seg.toNat = g.val →
      ((s.seg g).sc ≠ .disabled →
        Answered (exec (.segmentEnable tag [seg]) s) 0x11 tag (.refused .segmentEnabled) s.hunting) ∧
      ((s.seg g).sc = .disabled → (s.seg g).notice.retries = 0 →
        Answered (exec (.segmentEnable tag [seg]) s) 0x11 tag (.ok [])
          ((s.hunting.modSeg g fun sg => { sg with
            sc := .idle, monitor := .unknown, stopSeen := false
            rollTimer := if sg.config.rollInterval = 0 then none else some sg.config.rollInterval
            notice := if sg.config.noticeService then { sg.notice with state := .watching } else sg.notice }).markChoice g)) ∧
      (∀ (mode : Byte) (cut : BusCut),
        let e := exec (.segmentDisable tag [seg, mode] cut) s
        (2 ≤ mode.toNat → Answered e 0x12 tag (.refused .badValue) s.hunting) ∧
        (mode = 0 → (s.seg g).sc = .disabled → Answered e 0x12 tag (.ok [0]) s.hunting) ∧
        (mode.toNat < 2 → PlacesOk s →
          let count := fun u : State => (allSlots.filter fun i => (u.jobAt i).any (·.state == .ended)).length
          ∃ t : State, Answered e 0x12 tag (.ok [byteOf (count t - count s)]) t ∧
            ((s.seg g).sc ≠ .disabled →
              (t.seg g).sc = .disabled ∧ (t.seg g).monitor = .off ∧ (t.seg g).handed = none ∧ (t.seg g).current = none ∧
              (t.seg g).service = .none ∧ (t.seg g).engine.state = .none ∧ (t.seg g).notice.state = .off ∧
              (t.seg g).rollTimer = none ∧ (t.seg g).fairness = 0 ∧ (t.seg g).config = (s.seg g).config ∧
              ∀ h d, t.entryAt h = some d → d.segment = g → d.probeDue = false) ∧
            (mode = 1 → ∀ i j, t.jobAt i = some j → j.segment = g →
              j.state ≠ .staging ∧ j.state ≠ .held ∧ j.state ≠ .queued) ∧
            (∀ i, t.genAt i = s.genAt i ∧ (s.jobAt i = none → t.jobAt i = none)) ∧
            (∀ i j, s.jobAt i = some j →
              let flushed := mode = 1 ∧ j.segment = g
              let failed := ∃ id p, j.predecessor = .job id ∧ t.jobAt id.slot = some p ∧ p.state = .ended
              let attempt : Nat × List Byte :=
                if j.state = .active ∧ (s.seg g).sc = .controlling then
                  ((runTx (jobDesc j) cut.answers).written, (runTx (jobDesc j) cut.answers).read)
                else (0, [])
              (j.state = .ended → t.jobAt i = some j) ∧
              (j.state.isCurrent = true →
                (j.segment = g → (s.seg g).sc ≠ .disabled →
                  t.jobAt i = some (j.endedAs .segmentDisabled attempt.1 attempt.2)) ∧
                (j.segment ≠ g ∨ (s.seg g).sc = .disabled → t.jobAt i = some j)) ∧
              (j.state = .queued →
                (flushed → t.jobAt i = some (j.endedAs .segmentDisabled 0 [])) ∧ (¬ flushed → t.jobAt i = some j)) ∧
              (j.state = .held →
                (failed → t.jobAt i = some (j.endedAs .predecessorFailed 0 [])) ∧
                (¬ failed → flushed → t.jobAt i = some (j.endedAs .segmentDisabled 0 [])) ∧
                (¬ failed → ¬ flushed → t.jobAt i = some j)) ∧
              (j.state = .staging → ∃ p, (failed → p = .failed) ∧ (¬ failed → p = j.predecessor) ∧
                (flushed → t.jobAt i = some (({ j with predecessor := p } : Job).endedAs .segmentDisabled 0 [])) ∧
                (¬ flushed → t.jobAt i = some { j with predecessor := p }))) ∧
            ((t.seg g).urgent = (if mode = 0 then (s.seg g).urgent else []) ∧
              (t.seg g).routine = (if mode = 0 then (s.seg g).routine else []) ∧
              t.heldSet = s.heldSet.filter fun x => (t.jobAt x.slot).any (·.state == .held)) ∧
            (∀ h, (t.entryAt h).map (fun d => (d.segment, d.address, d.kind)) =
              (s.entryAt h).map fun d => (d.segment, d.address, d.kind)) ∧
            (HostLinkOk s →
              let enabled := (s.seg g).sc ≠ .disabled
              let acked : State := match (s.seg g).handed with
                | some (.job i) => match s.jobAt i with
                  | some j =>
                    if enabled ∧ (s.seg g).sc = .controlling then s.presenceAck j (runTx (jobDesc j) cut.answers) else s
                  | none => s
                | _ => s
              let read : List Claimant := match (s.seg g).service with
                | .reading ix _ _ => if enabled ∧ .station g ix .served ∉ s.claims then [.station g ix .served] else []
                | _ => []
              let swept := enabled ∧ (s.seg g).engine.state ≠ .none
              (∀ k, k ≠ g → t.seg k = s.seg k) ∧
              (enabled → t.seg g = { s.seg g with
                sc := .disabled, monitor := .off, stopSeen := false, stretch := none, recoverRequested := false
                handed := none, current := none, fairness := 0, backoffTimer := none, backoffExpired := false
                urgent := (t.seg g).urgent, routine := (t.seg g).routine, rollTimer := none, service := .none
                notice := ⟨.off, 0, (s.seg g).notice.claim⟩
                engine := if (s.seg g).engine.state = .none then (s.seg g).engine
                  else ⟨.none, .none, none, none, 0, 0, 0, 0, none⟩
                sweepClaim := (t.seg g).sweepClaim, stations := (t.seg g).stations }) ∧
              (¬ enabled → t.seg g = { s.seg g with
                urgent := (t.seg g).urgent, routine := (t.seg g).routine, fairness := (t.seg g).fairness }) ∧
              (∀ k, k ∈ t.choiceDue → k ∈ s.choiceDue ∨ k = g) ∧
              t = { s.hunting with
                slots := t.slots, heldSet := t.heldSet, segs := t.segs, roster := t.roster, poolFree := t.poolFree
                reports := t.reports, claims := t.claims, nextSeq := t.nextSeq, attn := t.attn
                choiceDue := t.choiceDue } ∧
              (∀ h, t.entryAt h = (acked.entryAt h).map fun d =>
                if enabled ∧ d.segment = g then { d with probeDue := false } else d) ∧
              (∀ ix, (t.seg g).station ix = match (s.seg g).service with
                | .reading k p current =>
                  if enabled ∧ ix = k then
                    { (s.seg g).station ix with
                      served := if .station g ix .served ∈ t.claims then min (((s.seg g).station ix).served + 1) 255 else 0
                      lastLength := min cut.sent 255
                      lastOverread := min (cut.sent - p.bytes.length) 255
                      posted := if current = true ∧ p.standing = false then none else ((s.seg g).station ix).posted }
                  else (s.seg g).station ix
                | _ => (s.seg g).station ix) ∧
              (∀ m, (s.seg g).service = .receiving m → enabled → t.poolFree = s.poolFree + (m.bytes.length + 31) / 32) ∧
              ((∀ m, (s.seg g).service ≠ .receiving m) → t.poolFree = s.poolFree) ∧
              (swept →
                let aborted := SweepClaim.mk .aborted (s.seg g).engine.assigned
                (∀ c, (s.seg g).sweepClaim = some c → (t.seg g).sweepClaim = some (aborted (min (c.ends + 1) 255))) ∧
                ((s.seg g).sweepClaim = none →
                  (.sweepEnded g ∈ t.claims → (t.seg g).sweepClaim = some (aborted 1)) ∧
                  (.sweepEnded g ∉ t.claims → (t.seg g).sweepClaim = none ∧
                    ∃ q, ⟨0x89, q, [byteOf g.val, 6, byteOf (s.seg g).engine.assigned, 1], .sweepEnded g, false⟩ ∈
                      t.reports))) ∧
              s.reports <+: t.reports ∧ (t.claims ≠ [] → t.reports.length = 64) ∧
              (∃ ended : List Slot,
                t.reports.map (·.owner) ++ t.claims = acked.reports.map (·.owner) ++ acked.claims ++
                  ended.map .jobEnded ++
                  (if swept ∧ (s.seg g).sweepClaim = none then [.sweepEnded g] else []) ++ read ∧
                (∀ i, i ∈ ended ↔ ∃ j j', s.jobAt i = some j ∧ j.state ≠ .ended ∧ t.jobAt i = some j' ∧ j'.state = .ended) ∧
                EndOrder s
                  ((if (s.seg g).sc = .disabled then [] else (s.seg g).current.toList) ++
                    (if mode = 1 then s.accepted.filter fun i => (s.jobAt i).any fun j => j.segment == g &&
                      (j.state == .staging || j.state == .held || j.state == .queued) else [])) [] ended)))))

/-! ### Reset meets the laws -/

/-- The state after reset meets the laws that every step keeps. -/
def Obligations.ResetStateMeetsTheLaws : Prop :=
  HostLinkOk State.reset ∧ PoolOk State.reset ∧ SegmentsOk State.reset ∧ RosterOk State.reset ∧ PlacesOk State.reset
end

