-- ==== Sys2Proof/Laws/State.lean ====
section
/-!
SUPPORT. One lemma per field per update of the state, so that no proof unfolds a record update, and what each operation
reads back after a write.
-/

namespace Sys2Proof.Machine

/-! ### Reading back -/

@[simp] theorem State.seg_modSeg_self (s : State) (g : Seg) (f : Segment → Segment) :
    (s.modSeg g f).seg g = f (s.seg g) := by
  simp [State.seg, State.modSeg]

theorem State.seg_modSeg_ne (s : State) (g k : Seg) (f : Segment → Segment) (h : k ≠ g) :
    (s.modSeg g f).seg k = s.seg k := by
  have h' : g.val ≠ k.val := fun e => h (Fin.ext e.symm)
  simp [State.seg, State.modSeg, h']

@[simp] theorem State.jobAt_putJob_self (s : State) (i : Slot) (j : Option Job) : (s.putJob i j).jobAt i = j := by
  simp [State.jobAt, State.putJob]

theorem State.jobAt_putJob_ne (s : State) (i k : Slot) (j : Option Job) (h : k ≠ i) :
    (s.putJob i j).jobAt k = s.jobAt k := by
  have h' : i.val ≠ k.val := fun e => h (Fin.ext e.symm)
  simp [State.jobAt, State.putJob, h']

@[simp] theorem State.genAt_putJob (s : State) (i k : Slot) (j : Option Job) : (s.putJob i j).genAt k = s.genAt k := by
  by_cases h : i.val = k.val
  · simp [State.genAt, State.putJob, h]
  · simp [State.genAt, State.putJob, h]

@[simp] theorem State.jobAt_modJob_self (s : State) (i : Slot) (f : Job → Job) :
    (s.modJob i f).jobAt i = (s.jobAt i).map f := by
  simp [State.modJob]

theorem State.jobAt_modJob_ne (s : State) (i k : Slot) (f : Job → Job) (h : k ≠ i) :
    (s.modJob i f).jobAt k = s.jobAt k := by
  simp [State.modJob, State.jobAt_putJob_ne _ _ _ _ h]

@[simp] theorem State.genAt_modJob (s : State) (i k : Slot) (f : Job → Job) : (s.modJob i f).genAt k = s.genAt k := by
  simp [State.modJob]

@[simp] theorem State.entryAt_putEntry_self (s : State) (h : Handle) (e : Option Entry) :
    (s.putEntry h e).entryAt h = e := by
  simp [State.entryAt, State.putEntry]

theorem State.entryAt_putEntry_ne (s : State) (h k : Handle) (e : Option Entry) (n : k ≠ h) :
    (s.putEntry h e).entryAt k = s.entryAt k := by
  have n' : h.val ≠ k.val := fun x => n (Fin.ext x.symm)
  simp [State.entryAt, State.putEntry, n']

@[simp] theorem State.entryAt_modEntry_self (s : State) (h : Handle) (f : Entry → Entry) :
    (s.modEntry h f).entryAt h = (s.entryAt h).map f := by
  simp [State.modEntry]

theorem State.entryAt_modEntry_ne (s : State) (h k : Handle) (f : Entry → Entry) (n : k ≠ h) :
    (s.modEntry h f).entryAt k = s.entryAt k := by
  simp [State.modEntry, State.entryAt_putEntry_ne _ _ _ _ n]

theorem State.entryAt_mapEntries (s : State) (g : Seg) (f : Entry → Entry) (k : Handle) :
    (s.mapEntries g f).entryAt k = (s.entryAt k).map fun e => if e.segment = g then f e else e := by
  simp [State.entryAt, State.mapEntries]

theorem State.mem_markChoice (s : State) (g : Seg) : g ∈ (s.markChoice g).choiceDue := by
  unfold State.markChoice; split <;> simp_all

/-! ### What the other reads keep -/

/-! Changing a segment. -/

@[simp] theorem State.modSeg_slots (s : State) (g : Seg) (f : Segment → Segment) :
    (s.modSeg g f).slots = s.slots := rfl

@[simp] theorem State.modSeg_heldSet (s : State) (g : Seg) (f : Segment → Segment) :
    (s.modSeg g f).heldSet = s.heldSet := rfl

@[simp] theorem State.modSeg_accepted (s : State) (g : Seg) (f : Segment → Segment) :
    (s.modSeg g f).accepted = s.accepted := rfl

@[simp] theorem State.modSeg_roster (s : State) (g : Seg) (f : Segment → Segment) :
    (s.modSeg g f).roster = s.roster := rfl

@[simp] theorem State.modSeg_poolFree (s : State) (g : Seg) (f : Segment → Segment) :
    (s.modSeg g f).poolFree = s.poolFree := rfl

@[simp] theorem State.modSeg_rx (s : State) (g : Seg) (f : Segment → Segment) :
    (s.modSeg g f).rx = s.rx := rfl

@[simp] theorem State.modSeg_cache (s : State) (g : Seg) (f : Segment → Segment) :
    (s.modSeg g f).cache = s.cache := rfl

@[simp] theorem State.modSeg_replies (s : State) (g : Seg) (f : Segment → Segment) :
    (s.modSeg g f).replies = s.replies := rfl

@[simp] theorem State.modSeg_reports (s : State) (g : Seg) (f : Segment → Segment) :
    (s.modSeg g f).reports = s.reports := rfl

@[simp] theorem State.modSeg_nextSeq (s : State) (g : Seg) (f : Segment → Segment) :
    (s.modSeg g f).nextSeq = s.nextSeq := rfl

@[simp] theorem State.modSeg_claims (s : State) (g : Seg) (f : Segment → Segment) :
    (s.modSeg g f).claims = s.claims := rfl

@[simp] theorem State.modSeg_attn (s : State) (g : Seg) (f : Segment → Segment) :
    (s.modSeg g f).attn = s.attn := rfl

@[simp] theorem State.modSeg_htx (s : State) (g : Seg) (f : Segment → Segment) :
    (s.modSeg g f).htx = s.htx := rfl

@[simp] theorem State.modSeg_restart (s : State) (g : Seg) (f : Segment → Segment) :
    (s.modSeg g f).restart = s.restart := rfl

@[simp] theorem State.modSeg_rstLow (s : State) (g : Seg) (f : Segment → Segment) :
    (s.modSeg g f).rstLow = s.rstLow := rfl

@[simp] theorem State.modSeg_rate1 (s : State) (g : Seg) (f : Segment → Segment) :
    (s.modSeg g f).rate1 = s.rate1 := rfl

@[simp] theorem State.modSeg_rate0 (s : State) (g : Seg) (f : Segment → Segment) :
    (s.modSeg g f).rate0 = s.rate0 := rfl

@[simp] theorem State.modSeg_choiceDue (s : State) (g : Seg) (f : Segment → Segment) :
    (s.modSeg g f).choiceDue = s.choiceDue := rfl

@[simp] theorem State.modSeg_pending (s : State) (g : Seg) (f : Segment → Segment) :
    (s.modSeg g f).pending = s.pending := rfl

@[simp] theorem State.modSeg_jobAt (s : State) (g : Seg) (f : Segment → Segment) (k : Slot) :
    (s.modSeg g f).jobAt k = s.jobAt k := rfl

@[simp] theorem State.modSeg_genAt (s : State) (g : Seg) (f : Segment → Segment) (k : Slot) :
    (s.modSeg g f).genAt k = s.genAt k := rfl

@[simp] theorem State.modSeg_entryAt (s : State) (g : Seg) (f : Segment → Segment) (k : Handle) :
    (s.modSeg g f).entryAt k = s.entryAt k := rfl

/-! Putting a job record. -/

@[simp] theorem State.putJob_heldSet (s : State) (i : Slot) (j : Option Job) :
    (s.putJob i j).heldSet = s.heldSet := rfl

@[simp] theorem State.putJob_accepted (s : State) (i : Slot) (j : Option Job) :
    (s.putJob i j).accepted = s.accepted := rfl

@[simp] theorem State.putJob_segs (s : State) (i : Slot) (j : Option Job) :
    (s.putJob i j).segs = s.segs := rfl

@[simp] theorem State.putJob_roster (s : State) (i : Slot) (j : Option Job) :
    (s.putJob i j).roster = s.roster := rfl

@[simp] theorem State.putJob_poolFree (s : State) (i : Slot) (j : Option Job) :
    (s.putJob i j).poolFree = s.poolFree := rfl

@[simp] theorem State.putJob_rx (s : State) (i : Slot) (j : Option Job) :
    (s.putJob i j).rx = s.rx := rfl

@[simp] theorem State.putJob_cache (s : State) (i : Slot) (j : Option Job) :
    (s.putJob i j).cache = s.cache := rfl

@[simp] theorem State.putJob_replies (s : State) (i : Slot) (j : Option Job) :
    (s.putJob i j).replies = s.replies := rfl

@[simp] theorem State.putJob_reports (s : State) (i : Slot) (j : Option Job) :
    (s.putJob i j).reports = s.reports := rfl

@[simp] theorem State.putJob_nextSeq (s : State) (i : Slot) (j : Option Job) :
    (s.putJob i j).nextSeq = s.nextSeq := rfl

@[simp] theorem State.putJob_claims (s : State) (i : Slot) (j : Option Job) :
    (s.putJob i j).claims = s.claims := rfl

@[simp] theorem State.putJob_attn (s : State) (i : Slot) (j : Option Job) :
    (s.putJob i j).attn = s.attn := rfl

@[simp] theorem State.putJob_htx (s : State) (i : Slot) (j : Option Job) :
    (s.putJob i j).htx = s.htx := rfl

@[simp] theorem State.putJob_restart (s : State) (i : Slot) (j : Option Job) :
    (s.putJob i j).restart = s.restart := rfl

@[simp] theorem State.putJob_rstLow (s : State) (i : Slot) (j : Option Job) :
    (s.putJob i j).rstLow = s.rstLow := rfl

@[simp] theorem State.putJob_rate1 (s : State) (i : Slot) (j : Option Job) :
    (s.putJob i j).rate1 = s.rate1 := rfl

@[simp] theorem State.putJob_rate0 (s : State) (i : Slot) (j : Option Job) :
    (s.putJob i j).rate0 = s.rate0 := rfl

@[simp] theorem State.putJob_choiceDue (s : State) (i : Slot) (j : Option Job) :
    (s.putJob i j).choiceDue = s.choiceDue := rfl

@[simp] theorem State.putJob_pending (s : State) (i : Slot) (j : Option Job) :
    (s.putJob i j).pending = s.pending := rfl

@[simp] theorem State.putJob_seg (s : State) (i : Slot) (j : Option Job) (k : Seg) :
    (s.putJob i j).seg k = s.seg k := rfl

@[simp] theorem State.putJob_entryAt (s : State) (i : Slot) (j : Option Job) (k : Handle) :
    (s.putJob i j).entryAt k = s.entryAt k := rfl

/-! Changing a job record. -/

@[simp] theorem State.modJob_heldSet (s : State) (i : Slot) (f : Job → Job) :
    (s.modJob i f).heldSet = s.heldSet := rfl

@[simp] theorem State.modJob_accepted (s : State) (i : Slot) (f : Job → Job) :
    (s.modJob i f).accepted = s.accepted := rfl

@[simp] theorem State.modJob_segs (s : State) (i : Slot) (f : Job → Job) :
    (s.modJob i f).segs = s.segs := rfl

@[simp] theorem State.modJob_roster (s : State) (i : Slot) (f : Job → Job) :
    (s.modJob i f).roster = s.roster := rfl

@[simp] theorem State.modJob_poolFree (s : State) (i : Slot) (f : Job → Job) :
    (s.modJob i f).poolFree = s.poolFree := rfl

@[simp] theorem State.modJob_rx (s : State) (i : Slot) (f : Job → Job) :
    (s.modJob i f).rx = s.rx := rfl

@[simp] theorem State.modJob_cache (s : State) (i : Slot) (f : Job → Job) :
    (s.modJob i f).cache = s.cache := rfl

@[simp] theorem State.modJob_replies (s : State) (i : Slot) (f : Job → Job) :
    (s.modJob i f).replies = s.replies := rfl

@[simp] theorem State.modJob_reports (s : State) (i : Slot) (f : Job → Job) :
    (s.modJob i f).reports = s.reports := rfl

@[simp] theorem State.modJob_nextSeq (s : State) (i : Slot) (f : Job → Job) :
    (s.modJob i f).nextSeq = s.nextSeq := rfl

@[simp] theorem State.modJob_claims (s : State) (i : Slot) (f : Job → Job) :
    (s.modJob i f).claims = s.claims := rfl

@[simp] theorem State.modJob_attn (s : State) (i : Slot) (f : Job → Job) :
    (s.modJob i f).attn = s.attn := rfl

@[simp] theorem State.modJob_htx (s : State) (i : Slot) (f : Job → Job) :
    (s.modJob i f).htx = s.htx := rfl

@[simp] theorem State.modJob_restart (s : State) (i : Slot) (f : Job → Job) :
    (s.modJob i f).restart = s.restart := rfl

@[simp] theorem State.modJob_rstLow (s : State) (i : Slot) (f : Job → Job) :
    (s.modJob i f).rstLow = s.rstLow := rfl

@[simp] theorem State.modJob_rate1 (s : State) (i : Slot) (f : Job → Job) :
    (s.modJob i f).rate1 = s.rate1 := rfl

@[simp] theorem State.modJob_rate0 (s : State) (i : Slot) (f : Job → Job) :
    (s.modJob i f).rate0 = s.rate0 := rfl

@[simp] theorem State.modJob_choiceDue (s : State) (i : Slot) (f : Job → Job) :
    (s.modJob i f).choiceDue = s.choiceDue := rfl

@[simp] theorem State.modJob_pending (s : State) (i : Slot) (f : Job → Job) :
    (s.modJob i f).pending = s.pending := rfl

@[simp] theorem State.modJob_seg (s : State) (i : Slot) (f : Job → Job) (k : Seg) :
    (s.modJob i f).seg k = s.seg k := rfl

@[simp] theorem State.modJob_entryAt (s : State) (i : Slot) (f : Job → Job) (k : Handle) :
    (s.modJob i f).entryAt k = s.entryAt k := rfl

/-! Writing a roster entry. -/

@[simp] theorem State.putEntry_slots (s : State) (h : Handle) (e : Option Entry) :
    (s.putEntry h e).slots = s.slots := rfl

@[simp] theorem State.putEntry_heldSet (s : State) (h : Handle) (e : Option Entry) :
    (s.putEntry h e).heldSet = s.heldSet := rfl

@[simp] theorem State.putEntry_accepted (s : State) (h : Handle) (e : Option Entry) :
    (s.putEntry h e).accepted = s.accepted := rfl

@[simp] theorem State.putEntry_segs (s : State) (h : Handle) (e : Option Entry) :
    (s.putEntry h e).segs = s.segs := rfl

@[simp] theorem State.putEntry_poolFree (s : State) (h : Handle) (e : Option Entry) :
    (s.putEntry h e).poolFree = s.poolFree := rfl

@[simp] theorem State.putEntry_rx (s : State) (h : Handle) (e : Option Entry) :
    (s.putEntry h e).rx = s.rx := rfl

@[simp] theorem State.putEntry_cache (s : State) (h : Handle) (e : Option Entry) :
    (s.putEntry h e).cache = s.cache := rfl

@[simp] theorem State.putEntry_replies (s : State) (h : Handle) (e : Option Entry) :
    (s.putEntry h e).replies = s.replies := rfl

@[simp] theorem State.putEntry_reports (s : State) (h : Handle) (e : Option Entry) :
    (s.putEntry h e).reports = s.reports := rfl

@[simp] theorem State.putEntry_nextSeq (s : State) (h : Handle) (e : Option Entry) :
    (s.putEntry h e).nextSeq = s.nextSeq := rfl

@[simp] theorem State.putEntry_claims (s : State) (h : Handle) (e : Option Entry) :
    (s.putEntry h e).claims = s.claims := rfl

@[simp] theorem State.putEntry_attn (s : State) (h : Handle) (e : Option Entry) :
    (s.putEntry h e).attn = s.attn := rfl

@[simp] theorem State.putEntry_htx (s : State) (h : Handle) (e : Option Entry) :
    (s.putEntry h e).htx = s.htx := rfl

@[simp] theorem State.putEntry_restart (s : State) (h : Handle) (e : Option Entry) :
    (s.putEntry h e).restart = s.restart := rfl

@[simp] theorem State.putEntry_rstLow (s : State) (h : Handle) (e : Option Entry) :
    (s.putEntry h e).rstLow = s.rstLow := rfl

@[simp] theorem State.putEntry_rate1 (s : State) (h : Handle) (e : Option Entry) :
    (s.putEntry h e).rate1 = s.rate1 := rfl

@[simp] theorem State.putEntry_rate0 (s : State) (h : Handle) (e : Option Entry) :
    (s.putEntry h e).rate0 = s.rate0 := rfl

@[simp] theorem State.putEntry_choiceDue (s : State) (h : Handle) (e : Option Entry) :
    (s.putEntry h e).choiceDue = s.choiceDue := rfl

@[simp] theorem State.putEntry_pending (s : State) (h : Handle) (e : Option Entry) :
    (s.putEntry h e).pending = s.pending := rfl

@[simp] theorem State.putEntry_seg (s : State) (h : Handle) (e : Option Entry) (k : Seg) :
    (s.putEntry h e).seg k = s.seg k := rfl

@[simp] theorem State.putEntry_jobAt (s : State) (h : Handle) (e : Option Entry) (k : Slot) :
    (s.putEntry h e).jobAt k = s.jobAt k := rfl

@[simp] theorem State.putEntry_genAt (s : State) (h : Handle) (e : Option Entry) (k : Slot) :
    (s.putEntry h e).genAt k = s.genAt k := rfl

/-! Changing a roster entry. -/

@[simp] theorem State.modEntry_slots (s : State) (h : Handle) (f : Entry → Entry) :
    (s.modEntry h f).slots = s.slots := rfl

@[simp] theorem State.modEntry_heldSet (s : State) (h : Handle) (f : Entry → Entry) :
    (s.modEntry h f).heldSet = s.heldSet := rfl

@[simp] theorem State.modEntry_accepted (s : State) (h : Handle) (f : Entry → Entry) :
    (s.modEntry h f).accepted = s.accepted := rfl

@[simp] theorem State.modEntry_segs (s : State) (h : Handle) (f : Entry → Entry) :
    (s.modEntry h f).segs = s.segs := rfl

@[simp] theorem State.modEntry_poolFree (s : State) (h : Handle) (f : Entry → Entry) :
    (s.modEntry h f).poolFree = s.poolFree := rfl

@[simp] theorem State.modEntry_rx (s : State) (h : Handle) (f : Entry → Entry) :
    (s.modEntry h f).rx = s.rx := rfl

@[simp] theorem State.modEntry_cache (s : State) (h : Handle) (f : Entry → Entry) :
    (s.modEntry h f).cache = s.cache := rfl

@[simp] theorem State.modEntry_replies (s : State) (h : Handle) (f : Entry → Entry) :
    (s.modEntry h f).replies = s.replies := rfl

@[simp] theorem State.modEntry_reports (s : State) (h : Handle) (f : Entry → Entry) :
    (s.modEntry h f).reports = s.reports := rfl

@[simp] theorem State.modEntry_nextSeq (s : State) (h : Handle) (f : Entry → Entry) :
    (s.modEntry h f).nextSeq = s.nextSeq := rfl

@[simp] theorem State.modEntry_claims (s : State) (h : Handle) (f : Entry → Entry) :
    (s.modEntry h f).claims = s.claims := rfl

@[simp] theorem State.modEntry_attn (s : State) (h : Handle) (f : Entry → Entry) :
    (s.modEntry h f).attn = s.attn := rfl

@[simp] theorem State.modEntry_htx (s : State) (h : Handle) (f : Entry → Entry) :
    (s.modEntry h f).htx = s.htx := rfl

@[simp] theorem State.modEntry_restart (s : State) (h : Handle) (f : Entry → Entry) :
    (s.modEntry h f).restart = s.restart := rfl

@[simp] theorem State.modEntry_rstLow (s : State) (h : Handle) (f : Entry → Entry) :
    (s.modEntry h f).rstLow = s.rstLow := rfl

@[simp] theorem State.modEntry_rate1 (s : State) (h : Handle) (f : Entry → Entry) :
    (s.modEntry h f).rate1 = s.rate1 := rfl

@[simp] theorem State.modEntry_rate0 (s : State) (h : Handle) (f : Entry → Entry) :
    (s.modEntry h f).rate0 = s.rate0 := rfl

@[simp] theorem State.modEntry_choiceDue (s : State) (h : Handle) (f : Entry → Entry) :
    (s.modEntry h f).choiceDue = s.choiceDue := rfl

@[simp] theorem State.modEntry_pending (s : State) (h : Handle) (f : Entry → Entry) :
    (s.modEntry h f).pending = s.pending := rfl

@[simp] theorem State.modEntry_seg (s : State) (h : Handle) (f : Entry → Entry) (k : Seg) :
    (s.modEntry h f).seg k = s.seg k := rfl

@[simp] theorem State.modEntry_jobAt (s : State) (h : Handle) (f : Entry → Entry) (k : Slot) :
    (s.modEntry h f).jobAt k = s.jobAt k := rfl

@[simp] theorem State.modEntry_genAt (s : State) (h : Handle) (f : Entry → Entry) (k : Slot) :
    (s.modEntry h f).genAt k = s.genAt k := rfl

/-! Queuing a reply. -/

@[simp] theorem State.queueReply_slots (s : State) (f : Frame) :
    (s.queueReply f).slots = s.slots := rfl

@[simp] theorem State.queueReply_heldSet (s : State) (f : Frame) :
    (s.queueReply f).heldSet = s.heldSet := rfl

@[simp] theorem State.queueReply_accepted (s : State) (f : Frame) :
    (s.queueReply f).accepted = s.accepted := rfl

@[simp] theorem State.queueReply_segs (s : State) (f : Frame) :
    (s.queueReply f).segs = s.segs := rfl

@[simp] theorem State.queueReply_roster (s : State) (f : Frame) :
    (s.queueReply f).roster = s.roster := rfl

@[simp] theorem State.queueReply_poolFree (s : State) (f : Frame) :
    (s.queueReply f).poolFree = s.poolFree := rfl

@[simp] theorem State.queueReply_rx (s : State) (f : Frame) :
    (s.queueReply f).rx = s.rx := rfl

@[simp] theorem State.queueReply_cache (s : State) (f : Frame) :
    (s.queueReply f).cache = s.cache := rfl

@[simp] theorem State.queueReply_reports (s : State) (f : Frame) :
    (s.queueReply f).reports = s.reports := rfl

@[simp] theorem State.queueReply_nextSeq (s : State) (f : Frame) :
    (s.queueReply f).nextSeq = s.nextSeq := rfl

@[simp] theorem State.queueReply_claims (s : State) (f : Frame) :
    (s.queueReply f).claims = s.claims := rfl

@[simp] theorem State.queueReply_attn (s : State) (f : Frame) :
    (s.queueReply f).attn = s.attn := rfl

@[simp] theorem State.queueReply_htx (s : State) (f : Frame) :
    (s.queueReply f).htx = s.htx := rfl

@[simp] theorem State.queueReply_restart (s : State) (f : Frame) :
    (s.queueReply f).restart = s.restart := rfl

@[simp] theorem State.queueReply_rstLow (s : State) (f : Frame) :
    (s.queueReply f).rstLow = s.rstLow := rfl

@[simp] theorem State.queueReply_rate1 (s : State) (f : Frame) :
    (s.queueReply f).rate1 = s.rate1 := rfl

@[simp] theorem State.queueReply_rate0 (s : State) (f : Frame) :
    (s.queueReply f).rate0 = s.rate0 := rfl

@[simp] theorem State.queueReply_choiceDue (s : State) (f : Frame) :
    (s.queueReply f).choiceDue = s.choiceDue := rfl

@[simp] theorem State.queueReply_pending (s : State) (f : Frame) :
    (s.queueReply f).pending = s.pending := rfl

@[simp] theorem State.queueReply_seg (s : State) (f : Frame) (k : Seg) :
    (s.queueReply f).seg k = s.seg k := rfl

@[simp] theorem State.queueReply_jobAt (s : State) (f : Frame) (k : Slot) :
    (s.queueReply f).jobAt k = s.jobAt k := rfl

@[simp] theorem State.queueReply_genAt (s : State) (f : Frame) (k : Slot) :
    (s.queueReply f).genAt k = s.genAt k := rfl

@[simp] theorem State.queueReply_entryAt (s : State) (f : Frame) (k : Handle) :
    (s.queueReply f).entryAt k = s.entryAt k := rfl

/-! Caching a reply. -/

@[simp] theorem State.enterCache_slots (s : State) (t : Byte) (f : Frame) :
    (s.enterCache t f).slots = s.slots := rfl

@[simp] theorem State.enterCache_heldSet (s : State) (t : Byte) (f : Frame) :
    (s.enterCache t f).heldSet = s.heldSet := rfl

@[simp] theorem State.enterCache_accepted (s : State) (t : Byte) (f : Frame) :
    (s.enterCache t f).accepted = s.accepted := rfl

@[simp] theorem State.enterCache_segs (s : State) (t : Byte) (f : Frame) :
    (s.enterCache t f).segs = s.segs := rfl

@[simp] theorem State.enterCache_roster (s : State) (t : Byte) (f : Frame) :
    (s.enterCache t f).roster = s.roster := rfl

@[simp] theorem State.enterCache_poolFree (s : State) (t : Byte) (f : Frame) :
    (s.enterCache t f).poolFree = s.poolFree := rfl

@[simp] theorem State.enterCache_rx (s : State) (t : Byte) (f : Frame) :
    (s.enterCache t f).rx = s.rx := rfl

@[simp] theorem State.enterCache_replies (s : State) (t : Byte) (f : Frame) :
    (s.enterCache t f).replies = s.replies := rfl

@[simp] theorem State.enterCache_reports (s : State) (t : Byte) (f : Frame) :
    (s.enterCache t f).reports = s.reports := rfl

@[simp] theorem State.enterCache_nextSeq (s : State) (t : Byte) (f : Frame) :
    (s.enterCache t f).nextSeq = s.nextSeq := rfl

@[simp] theorem State.enterCache_claims (s : State) (t : Byte) (f : Frame) :
    (s.enterCache t f).claims = s.claims := rfl

@[simp] theorem State.enterCache_attn (s : State) (t : Byte) (f : Frame) :
    (s.enterCache t f).attn = s.attn := rfl

@[simp] theorem State.enterCache_htx (s : State) (t : Byte) (f : Frame) :
    (s.enterCache t f).htx = s.htx := rfl

@[simp] theorem State.enterCache_restart (s : State) (t : Byte) (f : Frame) :
    (s.enterCache t f).restart = s.restart := rfl

@[simp] theorem State.enterCache_rstLow (s : State) (t : Byte) (f : Frame) :
    (s.enterCache t f).rstLow = s.rstLow := rfl

@[simp] theorem State.enterCache_rate1 (s : State) (t : Byte) (f : Frame) :
    (s.enterCache t f).rate1 = s.rate1 := rfl

@[simp] theorem State.enterCache_rate0 (s : State) (t : Byte) (f : Frame) :
    (s.enterCache t f).rate0 = s.rate0 := rfl

@[simp] theorem State.enterCache_choiceDue (s : State) (t : Byte) (f : Frame) :
    (s.enterCache t f).choiceDue = s.choiceDue := rfl

@[simp] theorem State.enterCache_pending (s : State) (t : Byte) (f : Frame) :
    (s.enterCache t f).pending = s.pending := rfl

@[simp] theorem State.enterCache_seg (s : State) (t : Byte) (f : Frame) (k : Seg) :
    (s.enterCache t f).seg k = s.seg k := rfl

@[simp] theorem State.enterCache_jobAt (s : State) (t : Byte) (f : Frame) (k : Slot) :
    (s.enterCache t f).jobAt k = s.jobAt k := rfl

@[simp] theorem State.enterCache_genAt (s : State) (t : Byte) (f : Frame) (k : Slot) :
    (s.enterCache t f).genAt k = s.genAt k := rfl

@[simp] theorem State.enterCache_entryAt (s : State) (t : Byte) (f : Frame) (k : Handle) :
    (s.enterCache t f).entryAt k = s.entryAt k := rfl

/-! Admitting a report. -/

@[simp] theorem State.enqueueReport_slots (s : State) (c : Claimant) (k : Byte) (b : List Byte) :
    (s.enqueueReport c k b).slots = s.slots := rfl

@[simp] theorem State.enqueueReport_heldSet (s : State) (c : Claimant) (k : Byte) (b : List Byte) :
    (s.enqueueReport c k b).heldSet = s.heldSet := rfl

@[simp] theorem State.enqueueReport_accepted (s : State) (c : Claimant) (k : Byte) (b : List Byte) :
    (s.enqueueReport c k b).accepted = s.accepted := rfl

@[simp] theorem State.enqueueReport_segs (s : State) (c : Claimant) (k : Byte) (b : List Byte) :
    (s.enqueueReport c k b).segs = s.segs := rfl

@[simp] theorem State.enqueueReport_roster (s : State) (c : Claimant) (k : Byte) (b : List Byte) :
    (s.enqueueReport c k b).roster = s.roster := rfl

@[simp] theorem State.enqueueReport_poolFree (s : State) (c : Claimant) (k : Byte) (b : List Byte) :
    (s.enqueueReport c k b).poolFree = s.poolFree := rfl

@[simp] theorem State.enqueueReport_rx (s : State) (c : Claimant) (k : Byte) (b : List Byte) :
    (s.enqueueReport c k b).rx = s.rx := rfl

@[simp] theorem State.enqueueReport_cache (s : State) (c : Claimant) (k : Byte) (b : List Byte) :
    (s.enqueueReport c k b).cache = s.cache := rfl

@[simp] theorem State.enqueueReport_replies (s : State) (c : Claimant) (k : Byte) (b : List Byte) :
    (s.enqueueReport c k b).replies = s.replies := rfl

@[simp] theorem State.enqueueReport_claims (s : State) (c : Claimant) (k : Byte) (b : List Byte) :
    (s.enqueueReport c k b).claims = s.claims := rfl

@[simp] theorem State.enqueueReport_htx (s : State) (c : Claimant) (k : Byte) (b : List Byte) :
    (s.enqueueReport c k b).htx = s.htx := rfl

@[simp] theorem State.enqueueReport_restart (s : State) (c : Claimant) (k : Byte) (b : List Byte) :
    (s.enqueueReport c k b).restart = s.restart := rfl

@[simp] theorem State.enqueueReport_rstLow (s : State) (c : Claimant) (k : Byte) (b : List Byte) :
    (s.enqueueReport c k b).rstLow = s.rstLow := rfl

@[simp] theorem State.enqueueReport_rate1 (s : State) (c : Claimant) (k : Byte) (b : List Byte) :
    (s.enqueueReport c k b).rate1 = s.rate1 := rfl

@[simp] theorem State.enqueueReport_rate0 (s : State) (c : Claimant) (k : Byte) (b : List Byte) :
    (s.enqueueReport c k b).rate0 = s.rate0 := rfl

@[simp] theorem State.enqueueReport_choiceDue (s : State) (c : Claimant) (k : Byte) (b : List Byte) :
    (s.enqueueReport c k b).choiceDue = s.choiceDue := rfl

@[simp] theorem State.enqueueReport_pending (s : State) (c : Claimant) (k : Byte) (b : List Byte) :
    (s.enqueueReport c k b).pending = s.pending := rfl

@[simp] theorem State.enqueueReport_seg (s : State) (c : Claimant) (kd : Byte) (b : List Byte) (k : Seg) :
    (s.enqueueReport c kd b).seg k = s.seg k := rfl

@[simp] theorem State.enqueueReport_jobAt (s : State) (c : Claimant) (kd : Byte) (b : List Byte) (k : Slot) :
    (s.enqueueReport c kd b).jobAt k = s.jobAt k := rfl

@[simp] theorem State.enqueueReport_genAt (s : State) (c : Claimant) (kd : Byte) (b : List Byte) (k : Slot) :
    (s.enqueueReport c kd b).genAt k = s.genAt k := rfl

@[simp] theorem State.enqueueReport_entryAt (s : State) (c : Claimant) (kd : Byte) (b : List Byte) (k : Handle) :
    (s.enqueueReport c kd b).entryAt k = s.entryAt k := rfl

/-! Withdrawing a claim. -/

@[simp] theorem State.withdrawClaim_slots (s : State) (c : Claimant) :
    (s.withdrawClaim c).slots = s.slots := rfl

@[simp] theorem State.withdrawClaim_heldSet (s : State) (c : Claimant) :
    (s.withdrawClaim c).heldSet = s.heldSet := rfl

@[simp] theorem State.withdrawClaim_accepted (s : State) (c : Claimant) :
    (s.withdrawClaim c).accepted = s.accepted := rfl

@[simp] theorem State.withdrawClaim_segs (s : State) (c : Claimant) :
    (s.withdrawClaim c).segs = s.segs := rfl

@[simp] theorem State.withdrawClaim_roster (s : State) (c : Claimant) :
    (s.withdrawClaim c).roster = s.roster := rfl

@[simp] theorem State.withdrawClaim_poolFree (s : State) (c : Claimant) :
    (s.withdrawClaim c).poolFree = s.poolFree := rfl

@[simp] theorem State.withdrawClaim_rx (s : State) (c : Claimant) :
    (s.withdrawClaim c).rx = s.rx := rfl

@[simp] theorem State.withdrawClaim_cache (s : State) (c : Claimant) :
    (s.withdrawClaim c).cache = s.cache := rfl

@[simp] theorem State.withdrawClaim_replies (s : State) (c : Claimant) :
    (s.withdrawClaim c).replies = s.replies := rfl

@[simp] theorem State.withdrawClaim_reports (s : State) (c : Claimant) :
    (s.withdrawClaim c).reports = s.reports := rfl

@[simp] theorem State.withdrawClaim_nextSeq (s : State) (c : Claimant) :
    (s.withdrawClaim c).nextSeq = s.nextSeq := rfl

@[simp] theorem State.withdrawClaim_attn (s : State) (c : Claimant) :
    (s.withdrawClaim c).attn = s.attn := rfl

@[simp] theorem State.withdrawClaim_htx (s : State) (c : Claimant) :
    (s.withdrawClaim c).htx = s.htx := rfl

@[simp] theorem State.withdrawClaim_restart (s : State) (c : Claimant) :
    (s.withdrawClaim c).restart = s.restart := rfl

@[simp] theorem State.withdrawClaim_rstLow (s : State) (c : Claimant) :
    (s.withdrawClaim c).rstLow = s.rstLow := rfl

@[simp] theorem State.withdrawClaim_rate1 (s : State) (c : Claimant) :
    (s.withdrawClaim c).rate1 = s.rate1 := rfl

@[simp] theorem State.withdrawClaim_rate0 (s : State) (c : Claimant) :
    (s.withdrawClaim c).rate0 = s.rate0 := rfl

@[simp] theorem State.withdrawClaim_choiceDue (s : State) (c : Claimant) :
    (s.withdrawClaim c).choiceDue = s.choiceDue := rfl

@[simp] theorem State.withdrawClaim_pending (s : State) (c : Claimant) :
    (s.withdrawClaim c).pending = s.pending := rfl

@[simp] theorem State.withdrawClaim_seg (s : State) (c : Claimant) (k : Seg) :
    (s.withdrawClaim c).seg k = s.seg k := rfl

@[simp] theorem State.withdrawClaim_jobAt (s : State) (c : Claimant) (k : Slot) :
    (s.withdrawClaim c).jobAt k = s.jobAt k := rfl

@[simp] theorem State.withdrawClaim_genAt (s : State) (c : Claimant) (k : Slot) :
    (s.withdrawClaim c).genAt k = s.genAt k := rfl

@[simp] theorem State.withdrawClaim_entryAt (s : State) (c : Claimant) (k : Handle) :
    (s.withdrawClaim c).entryAt k = s.entryAt k := rfl

/-! Changing a sweep state. -/

@[simp] theorem State.modEngine_slots (s : State) (g : Seg) (f : Engine → Engine) :
    (s.modEngine g f).slots = s.slots := rfl

@[simp] theorem State.modEngine_heldSet (s : State) (g : Seg) (f : Engine → Engine) :
    (s.modEngine g f).heldSet = s.heldSet := rfl

@[simp] theorem State.modEngine_accepted (s : State) (g : Seg) (f : Engine → Engine) :
    (s.modEngine g f).accepted = s.accepted := rfl

@[simp] theorem State.modEngine_roster (s : State) (g : Seg) (f : Engine → Engine) :
    (s.modEngine g f).roster = s.roster := rfl

@[simp] theorem State.modEngine_poolFree (s : State) (g : Seg) (f : Engine → Engine) :
    (s.modEngine g f).poolFree = s.poolFree := rfl

@[simp] theorem State.modEngine_rx (s : State) (g : Seg) (f : Engine → Engine) :
    (s.modEngine g f).rx = s.rx := rfl

@[simp] theorem State.modEngine_cache (s : State) (g : Seg) (f : Engine → Engine) :
    (s.modEngine g f).cache = s.cache := rfl

@[simp] theorem State.modEngine_replies (s : State) (g : Seg) (f : Engine → Engine) :
    (s.modEngine g f).replies = s.replies := rfl

@[simp] theorem State.modEngine_reports (s : State) (g : Seg) (f : Engine → Engine) :
    (s.modEngine g f).reports = s.reports := rfl

@[simp] theorem State.modEngine_nextSeq (s : State) (g : Seg) (f : Engine → Engine) :
    (s.modEngine g f).nextSeq = s.nextSeq := rfl

@[simp] theorem State.modEngine_claims (s : State) (g : Seg) (f : Engine → Engine) :
    (s.modEngine g f).claims = s.claims := rfl

@[simp] theorem State.modEngine_attn (s : State) (g : Seg) (f : Engine → Engine) :
    (s.modEngine g f).attn = s.attn := rfl

@[simp] theorem State.modEngine_htx (s : State) (g : Seg) (f : Engine → Engine) :
    (s.modEngine g f).htx = s.htx := rfl

@[simp] theorem State.modEngine_restart (s : State) (g : Seg) (f : Engine → Engine) :
    (s.modEngine g f).restart = s.restart := rfl

@[simp] theorem State.modEngine_rstLow (s : State) (g : Seg) (f : Engine → Engine) :
    (s.modEngine g f).rstLow = s.rstLow := rfl

@[simp] theorem State.modEngine_rate1 (s : State) (g : Seg) (f : Engine → Engine) :
    (s.modEngine g f).rate1 = s.rate1 := rfl

@[simp] theorem State.modEngine_rate0 (s : State) (g : Seg) (f : Engine → Engine) :
    (s.modEngine g f).rate0 = s.rate0 := rfl

@[simp] theorem State.modEngine_choiceDue (s : State) (g : Seg) (f : Engine → Engine) :
    (s.modEngine g f).choiceDue = s.choiceDue := rfl

@[simp] theorem State.modEngine_pending (s : State) (g : Seg) (f : Engine → Engine) :
    (s.modEngine g f).pending = s.pending := rfl

@[simp] theorem State.modEngine_jobAt (s : State) (g : Seg) (f : Engine → Engine) (k : Slot) :
    (s.modEngine g f).jobAt k = s.jobAt k := rfl

@[simp] theorem State.modEngine_genAt (s : State) (g : Seg) (f : Engine → Engine) (k : Slot) :
    (s.modEngine g f).genAt k = s.genAt k := rfl

@[simp] theorem State.modEngine_entryAt (s : State) (g : Seg) (f : Engine → Engine) (k : Handle) :
    (s.modEngine g f).entryAt k = s.entryAt k := rfl

/-! Changing a notice service. -/

@[simp] theorem State.modNotice_slots (s : State) (g : Seg) (f : Notice → Notice) :
    (s.modNotice g f).slots = s.slots := rfl

@[simp] theorem State.modNotice_heldSet (s : State) (g : Seg) (f : Notice → Notice) :
    (s.modNotice g f).heldSet = s.heldSet := rfl

@[simp] theorem State.modNotice_accepted (s : State) (g : Seg) (f : Notice → Notice) :
    (s.modNotice g f).accepted = s.accepted := rfl

@[simp] theorem State.modNotice_roster (s : State) (g : Seg) (f : Notice → Notice) :
    (s.modNotice g f).roster = s.roster := rfl

@[simp] theorem State.modNotice_poolFree (s : State) (g : Seg) (f : Notice → Notice) :
    (s.modNotice g f).poolFree = s.poolFree := rfl

@[simp] theorem State.modNotice_rx (s : State) (g : Seg) (f : Notice → Notice) :
    (s.modNotice g f).rx = s.rx := rfl

@[simp] theorem State.modNotice_cache (s : State) (g : Seg) (f : Notice → Notice) :
    (s.modNotice g f).cache = s.cache := rfl

@[simp] theorem State.modNotice_replies (s : State) (g : Seg) (f : Notice → Notice) :
    (s.modNotice g f).replies = s.replies := rfl

@[simp] theorem State.modNotice_reports (s : State) (g : Seg) (f : Notice → Notice) :
    (s.modNotice g f).reports = s.reports := rfl

@[simp] theorem State.modNotice_nextSeq (s : State) (g : Seg) (f : Notice → Notice) :
    (s.modNotice g f).nextSeq = s.nextSeq := rfl

@[simp] theorem State.modNotice_claims (s : State) (g : Seg) (f : Notice → Notice) :
    (s.modNotice g f).claims = s.claims := rfl

@[simp] theorem State.modNotice_attn (s : State) (g : Seg) (f : Notice → Notice) :
    (s.modNotice g f).attn = s.attn := rfl

@[simp] theorem State.modNotice_htx (s : State) (g : Seg) (f : Notice → Notice) :
    (s.modNotice g f).htx = s.htx := rfl

@[simp] theorem State.modNotice_restart (s : State) (g : Seg) (f : Notice → Notice) :
    (s.modNotice g f).restart = s.restart := rfl

@[simp] theorem State.modNotice_rstLow (s : State) (g : Seg) (f : Notice → Notice) :
    (s.modNotice g f).rstLow = s.rstLow := rfl

@[simp] theorem State.modNotice_rate1 (s : State) (g : Seg) (f : Notice → Notice) :
    (s.modNotice g f).rate1 = s.rate1 := rfl

@[simp] theorem State.modNotice_rate0 (s : State) (g : Seg) (f : Notice → Notice) :
    (s.modNotice g f).rate0 = s.rate0 := rfl

@[simp] theorem State.modNotice_choiceDue (s : State) (g : Seg) (f : Notice → Notice) :
    (s.modNotice g f).choiceDue = s.choiceDue := rfl

@[simp] theorem State.modNotice_pending (s : State) (g : Seg) (f : Notice → Notice) :
    (s.modNotice g f).pending = s.pending := rfl

@[simp] theorem State.modNotice_jobAt (s : State) (g : Seg) (f : Notice → Notice) (k : Slot) :
    (s.modNotice g f).jobAt k = s.jobAt k := rfl

@[simp] theorem State.modNotice_genAt (s : State) (g : Seg) (f : Notice → Notice) (k : Slot) :
    (s.modNotice g f).genAt k = s.genAt k := rfl

@[simp] theorem State.modNotice_entryAt (s : State) (g : Seg) (f : Notice → Notice) (k : Handle) :
    (s.modNotice g f).entryAt k = s.entryAt k := rfl

/-! Changing the entries of a segment. -/

@[simp] theorem State.mapEntries_slots (s : State) (g : Seg) (f : Entry → Entry) :
    (s.mapEntries g f).slots = s.slots := rfl

@[simp] theorem State.mapEntries_heldSet (s : State) (g : Seg) (f : Entry → Entry) :
    (s.mapEntries g f).heldSet = s.heldSet := rfl

@[simp] theorem State.mapEntries_accepted (s : State) (g : Seg) (f : Entry → Entry) :
    (s.mapEntries g f).accepted = s.accepted := rfl

@[simp] theorem State.mapEntries_segs (s : State) (g : Seg) (f : Entry → Entry) :
    (s.mapEntries g f).segs = s.segs := rfl

@[simp] theorem State.mapEntries_poolFree (s : State) (g : Seg) (f : Entry → Entry) :
    (s.mapEntries g f).poolFree = s.poolFree := rfl

@[simp] theorem State.mapEntries_rx (s : State) (g : Seg) (f : Entry → Entry) :
    (s.mapEntries g f).rx = s.rx := rfl

@[simp] theorem State.mapEntries_cache (s : State) (g : Seg) (f : Entry → Entry) :
    (s.mapEntries g f).cache = s.cache := rfl

@[simp] theorem State.mapEntries_replies (s : State) (g : Seg) (f : Entry → Entry) :
    (s.mapEntries g f).replies = s.replies := rfl

@[simp] theorem State.mapEntries_reports (s : State) (g : Seg) (f : Entry → Entry) :
    (s.mapEntries g f).reports = s.reports := rfl

@[simp] theorem State.mapEntries_nextSeq (s : State) (g : Seg) (f : Entry → Entry) :
    (s.mapEntries g f).nextSeq = s.nextSeq := rfl

@[simp] theorem State.mapEntries_claims (s : State) (g : Seg) (f : Entry → Entry) :
    (s.mapEntries g f).claims = s.claims := rfl

@[simp] theorem State.mapEntries_attn (s : State) (g : Seg) (f : Entry → Entry) :
    (s.mapEntries g f).attn = s.attn := rfl

@[simp] theorem State.mapEntries_htx (s : State) (g : Seg) (f : Entry → Entry) :
    (s.mapEntries g f).htx = s.htx := rfl

@[simp] theorem State.mapEntries_restart (s : State) (g : Seg) (f : Entry → Entry) :
    (s.mapEntries g f).restart = s.restart := rfl

@[simp] theorem State.mapEntries_rstLow (s : State) (g : Seg) (f : Entry → Entry) :
    (s.mapEntries g f).rstLow = s.rstLow := rfl

@[simp] theorem State.mapEntries_rate1 (s : State) (g : Seg) (f : Entry → Entry) :
    (s.mapEntries g f).rate1 = s.rate1 := rfl

@[simp] theorem State.mapEntries_rate0 (s : State) (g : Seg) (f : Entry → Entry) :
    (s.mapEntries g f).rate0 = s.rate0 := rfl

@[simp] theorem State.mapEntries_choiceDue (s : State) (g : Seg) (f : Entry → Entry) :
    (s.mapEntries g f).choiceDue = s.choiceDue := rfl

@[simp] theorem State.mapEntries_pending (s : State) (g : Seg) (f : Entry → Entry) :
    (s.mapEntries g f).pending = s.pending := rfl

@[simp] theorem State.mapEntries_seg (s : State) (g : Seg) (f : Entry → Entry) (k : Seg) :
    (s.mapEntries g f).seg k = s.seg k := rfl

@[simp] theorem State.mapEntries_jobAt (s : State) (g : Seg) (f : Entry → Entry) (k : Slot) :
    (s.mapEntries g f).jobAt k = s.jobAt k := rfl

@[simp] theorem State.mapEntries_genAt (s : State) (g : Seg) (f : Entry → Entry) (k : Slot) :
    (s.mapEntries g f).genAt k = s.genAt k := rfl

/-! Taking a slot. -/

@[simp] theorem State.takeSlot_heldSet (s : State) (i : Slot) (j : Job) :
    (s.takeSlot i j).heldSet = s.heldSet := rfl

@[simp] theorem State.takeSlot_segs (s : State) (i : Slot) (j : Job) :
    (s.takeSlot i j).segs = s.segs := rfl

@[simp] theorem State.takeSlot_roster (s : State) (i : Slot) (j : Job) :
    (s.takeSlot i j).roster = s.roster := rfl

@[simp] theorem State.takeSlot_rx (s : State) (i : Slot) (j : Job) :
    (s.takeSlot i j).rx = s.rx := rfl

@[simp] theorem State.takeSlot_cache (s : State) (i : Slot) (j : Job) :
    (s.takeSlot i j).cache = s.cache := rfl

@[simp] theorem State.takeSlot_replies (s : State) (i : Slot) (j : Job) :
    (s.takeSlot i j).replies = s.replies := rfl

@[simp] theorem State.takeSlot_reports (s : State) (i : Slot) (j : Job) :
    (s.takeSlot i j).reports = s.reports := rfl

@[simp] theorem State.takeSlot_nextSeq (s : State) (i : Slot) (j : Job) :
    (s.takeSlot i j).nextSeq = s.nextSeq := rfl

@[simp] theorem State.takeSlot_claims (s : State) (i : Slot) (j : Job) :
    (s.takeSlot i j).claims = s.claims := rfl

@[simp] theorem State.takeSlot_attn (s : State) (i : Slot) (j : Job) :
    (s.takeSlot i j).attn = s.attn := rfl

@[simp] theorem State.takeSlot_htx (s : State) (i : Slot) (j : Job) :
    (s.takeSlot i j).htx = s.htx := rfl

@[simp] theorem State.takeSlot_restart (s : State) (i : Slot) (j : Job) :
    (s.takeSlot i j).restart = s.restart := rfl

@[simp] theorem State.takeSlot_rstLow (s : State) (i : Slot) (j : Job) :
    (s.takeSlot i j).rstLow = s.rstLow := rfl

@[simp] theorem State.takeSlot_rate1 (s : State) (i : Slot) (j : Job) :
    (s.takeSlot i j).rate1 = s.rate1 := rfl

@[simp] theorem State.takeSlot_rate0 (s : State) (i : Slot) (j : Job) :
    (s.takeSlot i j).rate0 = s.rate0 := rfl

@[simp] theorem State.takeSlot_choiceDue (s : State) (i : Slot) (j : Job) :
    (s.takeSlot i j).choiceDue = s.choiceDue := rfl

@[simp] theorem State.takeSlot_pending (s : State) (i : Slot) (j : Job) :
    (s.takeSlot i j).pending = s.pending := rfl

@[simp] theorem State.takeSlot_seg (s : State) (i : Slot) (j : Job) (k : Seg) :
    (s.takeSlot i j).seg k = s.seg k := rfl

@[simp] theorem State.takeSlot_entryAt (s : State) (i : Slot) (j : Job) (k : Handle) :
    (s.takeSlot i j).entryAt k = s.entryAt k := rfl

/-! Changing the command queue. -/

@[simp] theorem State.withPending_slots (s : State) (q : List Instr) :
    (s.withPending q).slots = s.slots := rfl

@[simp] theorem State.withPending_heldSet (s : State) (q : List Instr) :
    (s.withPending q).heldSet = s.heldSet := rfl

@[simp] theorem State.withPending_accepted (s : State) (q : List Instr) :
    (s.withPending q).accepted = s.accepted := rfl

@[simp] theorem State.withPending_segs (s : State) (q : List Instr) :
    (s.withPending q).segs = s.segs := rfl

@[simp] theorem State.withPending_roster (s : State) (q : List Instr) :
    (s.withPending q).roster = s.roster := rfl

@[simp] theorem State.withPending_poolFree (s : State) (q : List Instr) :
    (s.withPending q).poolFree = s.poolFree := rfl

@[simp] theorem State.withPending_rx (s : State) (q : List Instr) :
    (s.withPending q).rx = s.rx := rfl

@[simp] theorem State.withPending_cache (s : State) (q : List Instr) :
    (s.withPending q).cache = s.cache := rfl

@[simp] theorem State.withPending_replies (s : State) (q : List Instr) :
    (s.withPending q).replies = s.replies := rfl

@[simp] theorem State.withPending_reports (s : State) (q : List Instr) :
    (s.withPending q).reports = s.reports := rfl

@[simp] theorem State.withPending_nextSeq (s : State) (q : List Instr) :
    (s.withPending q).nextSeq = s.nextSeq := rfl

@[simp] theorem State.withPending_claims (s : State) (q : List Instr) :
    (s.withPending q).claims = s.claims := rfl

@[simp] theorem State.withPending_attn (s : State) (q : List Instr) :
    (s.withPending q).attn = s.attn := rfl

@[simp] theorem State.withPending_htx (s : State) (q : List Instr) :
    (s.withPending q).htx = s.htx := rfl

@[simp] theorem State.withPending_restart (s : State) (q : List Instr) :
    (s.withPending q).restart = s.restart := rfl

@[simp] theorem State.withPending_rstLow (s : State) (q : List Instr) :
    (s.withPending q).rstLow = s.rstLow := rfl

@[simp] theorem State.withPending_rate1 (s : State) (q : List Instr) :
    (s.withPending q).rate1 = s.rate1 := rfl

@[simp] theorem State.withPending_rate0 (s : State) (q : List Instr) :
    (s.withPending q).rate0 = s.rate0 := rfl

@[simp] theorem State.withPending_choiceDue (s : State) (q : List Instr) :
    (s.withPending q).choiceDue = s.choiceDue := rfl

@[simp] theorem State.withPending_seg (s : State) (q : List Instr) (k : Seg) :
    (s.withPending q).seg k = s.seg k := rfl

@[simp] theorem State.withPending_jobAt (s : State) (q : List Instr) (k : Slot) :
    (s.withPending q).jobAt k = s.jobAt k := rfl

@[simp] theorem State.withPending_genAt (s : State) (q : List Instr) (k : Slot) :
    (s.withPending q).genAt k = s.genAt k := rfl

@[simp] theorem State.withPending_entryAt (s : State) (q : List Instr) (k : Handle) :
    (s.withPending q).entryAt k = s.entryAt k := rfl

/-! Marking a choice point. -/

@[simp] theorem State.markChoice_slots (s : State) (g : Seg) :
    (s.markChoice g).slots = s.slots := by
  unfold State.markChoice; split <;> rfl

@[simp] theorem State.markChoice_heldSet (s : State) (g : Seg) :
    (s.markChoice g).heldSet = s.heldSet := by
  unfold State.markChoice; split <;> rfl

@[simp] theorem State.markChoice_accepted (s : State) (g : Seg) :
    (s.markChoice g).accepted = s.accepted := by
  unfold State.markChoice; split <;> rfl

@[simp] theorem State.markChoice_segs (s : State) (g : Seg) :
    (s.markChoice g).segs = s.segs := by
  unfold State.markChoice; split <;> rfl

@[simp] theorem State.markChoice_roster (s : State) (g : Seg) :
    (s.markChoice g).roster = s.roster := by
  unfold State.markChoice; split <;> rfl

@[simp] theorem State.markChoice_poolFree (s : State) (g : Seg) :
    (s.markChoice g).poolFree = s.poolFree := by
  unfold State.markChoice; split <;> rfl

@[simp] theorem State.markChoice_rx (s : State) (g : Seg) :
    (s.markChoice g).rx = s.rx := by
  unfold State.markChoice; split <;> rfl

@[simp] theorem State.markChoice_cache (s : State) (g : Seg) :
    (s.markChoice g).cache = s.cache := by
  unfold State.markChoice; split <;> rfl

@[simp] theorem State.markChoice_replies (s : State) (g : Seg) :
    (s.markChoice g).replies = s.replies := by
  unfold State.markChoice; split <;> rfl

@[simp] theorem State.markChoice_reports (s : State) (g : Seg) :
    (s.markChoice g).reports = s.reports := by
  unfold State.markChoice; split <;> rfl

@[simp] theorem State.markChoice_nextSeq (s : State) (g : Seg) :
    (s.markChoice g).nextSeq = s.nextSeq := by
  unfold State.markChoice; split <;> rfl

@[simp] theorem State.markChoice_claims (s : State) (g : Seg) :
    (s.markChoice g).claims = s.claims := by
  unfold State.markChoice; split <;> rfl

@[simp] theorem State.markChoice_attn (s : State) (g : Seg) :
    (s.markChoice g).attn = s.attn := by
  unfold State.markChoice; split <;> rfl

@[simp] theorem State.markChoice_htx (s : State) (g : Seg) :
    (s.markChoice g).htx = s.htx := by
  unfold State.markChoice; split <;> rfl

@[simp] theorem State.markChoice_restart (s : State) (g : Seg) :
    (s.markChoice g).restart = s.restart := by
  unfold State.markChoice; split <;> rfl

@[simp] theorem State.markChoice_rstLow (s : State) (g : Seg) :
    (s.markChoice g).rstLow = s.rstLow := by
  unfold State.markChoice; split <;> rfl

@[simp] theorem State.markChoice_rate1 (s : State) (g : Seg) :
    (s.markChoice g).rate1 = s.rate1 := by
  unfold State.markChoice; split <;> rfl

@[simp] theorem State.markChoice_rate0 (s : State) (g : Seg) :
    (s.markChoice g).rate0 = s.rate0 := by
  unfold State.markChoice; split <;> rfl

@[simp] theorem State.markChoice_pending (s : State) (g : Seg) :
    (s.markChoice g).pending = s.pending := by
  unfold State.markChoice; split <;> rfl

@[simp] theorem State.markChoice_seg (s : State) (g : Seg) (k : Seg) :
    (s.markChoice g).seg k = s.seg k := by
  simp [State.seg]

@[simp] theorem State.markChoice_jobAt (s : State) (g : Seg) (k : Slot) :
    (s.markChoice g).jobAt k = s.jobAt k := by
  simp [State.jobAt]

@[simp] theorem State.markChoice_genAt (s : State) (g : Seg) (k : Slot) :
    (s.markChoice g).genAt k = s.genAt k := by
  simp [State.genAt]

@[simp] theorem State.markChoice_entryAt (s : State) (g : Seg) (k : Handle) :
    (s.markChoice g).entryAt k = s.entryAt k := by
  simp [State.entryAt]

end Sys2Proof.Machine
end

