-- ==== Sys2Proof/Laws/Actions.lean ====
section
/-!
SUPPORT. What an action and a request are, said once: the outcome of `act`, the course of `takeFrame` through Table 12-1,
and how the updates of one segment, one entry and the choice points due combine.
-/

namespace Sys2Proof.Machine

/-! ### Updates -/

/-- Two changes of one segment are one change. -/
@[simp] theorem State.modSeg_modSeg (s : State) (g : Seg) (f f' : Segment → Segment) :
    (s.modSeg g f).modSeg g f' = s.modSeg g fun sg => f' (f sg) := by
  simp [State.modSeg, State.seg]

/-- A change of a segment is known by what it makes of that segment as it stands. -/
theorem State.modSeg_congr (s : State) (g : Seg) {f f' : Segment → Segment} (h : f (s.seg g) = f' (s.seg g)) :
    s.modSeg g f = s.modSeg g f' := by
  simp [State.modSeg, h]

/-- A change that leaves the segment as it stands changes nothing. -/
theorem State.modSeg_id (s : State) (g : Seg) {f : Segment → Segment} (h : f (s.seg g) = s.seg g) : s.modSeg g f = s := by
  simp only [State.modSeg, h]
  cases s
  simp [State.seg]

/-- Two writes of one roster entry are the last of them. -/
@[simp] theorem State.putEntry_putEntry (s : State) (h : Handle) (e e' : Option Entry) :
    (s.putEntry h e).putEntry h e' = s.putEntry h e' := by
  simp [State.putEntry]

/-- Two writes of one slot are the last of them. -/
@[simp] theorem State.putJob_putJob (s : State) (i : Slot) (j j' : Option Job) :
    (s.putJob i j).putJob i j' = s.putJob i j' := by
  simp [State.putJob]

/-- Two changes of one job are one change. -/
@[simp] theorem State.modJob_modJob (s : State) (i : Slot) (f f' : Job → Job) :
    (s.modJob i f).modJob i f' = s.modJob i fun j => f' (f j) := by
  simp [State.modJob, Function.comp_def]

/-- A choice point that is due is not marked again. -/
theorem State.markChoice_of_mem (s : State) {g : Seg} (h : g ∈ s.choiceDue) : s.markChoice g = s := by
  simp [State.markChoice, h]

/-- Marking a choice point twice is marking it once. -/
@[simp] theorem State.markChoice_markChoice (s : State) (g : Seg) : (s.markChoice g).markChoice g = s.markChoice g :=
  State.markChoice_of_mem _ (State.mem_markChoice s g)

/-- A mark and a change of a segment do not disturb each other. -/
theorem State.markChoice_modSeg (s : State) (g k : Seg) (f : Segment → Segment) :
    (s.markChoice g).modSeg k f = (s.modSeg k f).markChoice g := by
  unfold State.markChoice
  by_cases h : g ∈ s.choiceDue <;> simp [h, State.modSeg, State.seg]

/-! ### Actions -/

/-- An action answers a next state: its effect with what closes it, or nothing while RST is low. -/
theorem act_eq (f : State → State) (s : State) : act f s = .next (if s.rstLow then s else (f s).settle) := rfl

/-- An action taken while RST is high ends in its effect. -/
theorem act_ends (f : State → State) {s : State} (h : s.rstLow = false) : Ends (act f s) (f s) := by
  simp [Ends, act_eq, h]

/-! ### Requests -/

/-- A tag is not cached when no entry has it. -/
theorem State.cached_eq_none {s : State} {tag : Byte} (h : ∀ e ∈ s.cache, e.tag ≠ tag) : s.cached tag = none := by
  simpa [State.cached] using h

/-- A request that no line of Table 12-1 stops is executed, and its answer queued and cached (R167). -/
theorem takeFrame_takes {s : State} {tag : Byte} (h : Takes s tag) (kind : Byte) (run : State → State × Answer) :
    takeFrame kind tag true run s = (run s.hunting).1.reply kind tag (run s.hunting).2 := by
  have hc : State.cached { s with rx := none } tag = none := State.cached_eq_none h.fresh
  have hr : ¬ Config.maxReplies ≤ s.replies.length := Nat.not_le.mpr h.room
  have hs : s.restart.isSome = false := by rw [h.restart]; rfl
  simp only [takeFrame, hs, hr, hc, h.tag, State.hunting, if_true, if_false, Bool.false_eq_true]

/-- The outcome of a request that is executed. -/
theorem answered_of_takes {s : State} {tag : Byte} (h : Takes s tag) (kind : Byte) (sizeOk : Bool)
    (run : State → State × Answer) (hs : sizeOk = true) :
    Answered (act (takeFrame kind tag sizeOk run) s) kind tag (run s.hunting).2 (run s.hunting).1 := by
  subst hs
  have := act_ends (takeFrame kind tag true run) h.running
  rwa [takeFrame_takes h] at this

end Sys2Proof.Machine
end

