-- ==== Sys2Proof/Laws/Reports.lean ====
section
/-!
SUPPORT. What placing a claim can change, said once: the claim list, the Report Queue and what a claimant gives up when
its report is formed (R172), and nothing else.
-/

namespace Sys2Proof.Machine

/-- Two records of one segment that differ at most in what the claimants of the segment give up at the entry of their
reports into the Report Queue: the marks of reported messages, station counts, claims, and the notice service state. -/
structure Segment.SameButClaims (a b : Segment) : Prop where
  config : a.config = b.config
  sc : a.sc = b.sc
  monitor : a.monitor = b.monitor
  stopSeen : a.stopSeen = b.stopSeen
  stretch : a.stretch = b.stretch
  recoverRequested : a.recoverRequested = b.recoverRequested
  urgent : a.urgent = b.urgent
  routine : a.routine = b.routine
  current : a.current = b.current
  handed : a.handed = b.handed
  fairness : a.fairness = b.fairness
  backoffTimer : a.backoffTimer = b.backoffTimer
  backoffExpired : a.backoffExpired = b.backoffExpired
  engine : a.engine = b.engine
  service : a.service = b.service
  noticeLine : a.noticeLine = b.noticeLine
  rollTimer : a.rollTimer = b.rollTimer
  retries : a.notice.retries = b.notice.retries
  noticeState : a.notice.state = b.notice.state ∨ (b.notice.state = .querying ∧ a.notice.state = .watching)
  posted : ∀ ix, (a.station ix).posted = (b.station ix).posted

/-- A segment is like itself. -/
theorem Segment.SameButClaims.rfl' (a : Segment) : a.SameButClaims a := by
  constructor <;> first | rfl | exact Or.inl rfl | exact fun _ => rfl

/-- One such difference after another is such a difference. -/
theorem Segment.SameButClaims.trans {a b c : Segment} (h : a.SameButClaims b) (k : b.SameButClaims c) :
    a.SameButClaims c where
  config := h.config.trans k.config
  sc := h.sc.trans k.sc
  monitor := h.monitor.trans k.monitor
  stopSeen := h.stopSeen.trans k.stopSeen
  stretch := h.stretch.trans k.stretch
  recoverRequested := h.recoverRequested.trans k.recoverRequested
  urgent := h.urgent.trans k.urgent
  routine := h.routine.trans k.routine
  current := h.current.trans k.current
  handed := h.handed.trans k.handed
  fairness := h.fairness.trans k.fairness
  backoffTimer := h.backoffTimer.trans k.backoffTimer
  backoffExpired := h.backoffExpired.trans k.backoffExpired
  engine := h.engine.trans k.engine
  service := h.service.trans k.service
  noticeLine := h.noticeLine.trans k.noticeLine
  rollTimer := h.rollTimer.trans k.rollTimer
  retries := h.retries.trans k.retries
  noticeState := by
    rcases h.noticeState with h | h <;> rcases k.noticeState with k | k <;> simp_all
  posted ix := (h.posted ix).trans (k.posted ix)

/-- Two states that differ at most in their claims, their reports and what claimants give up. -/
structure State.SameButClaims (a b : State) : Prop where
  slots : a.slots = b.slots
  heldSet : a.heldSet = b.heldSet
  accepted : a.accepted = b.accepted
  poolFree : a.poolFree = b.poolFree
  rx : a.rx = b.rx
  cache : a.cache = b.cache
  replies : a.replies = b.replies
  htx : a.htx = b.htx
  restart : a.restart = b.restart
  rstLow : a.rstLow = b.rstLow
  rate1 : a.rate1 = b.rate1
  rate0 : a.rate0 = b.rate0
  pending : a.pending = b.pending
  seg : ∀ g, (a.seg g).SameButClaims (b.seg g)
  /-- A roster entry gives up its claim's flags and count only (R91). -/
  entry : ∀ h, (a.entryAt h).map (fun e => (e.segment, e.address, e.kind, e.state, e.misses, e.probeDue)) =
    (b.entryAt h).map fun e => (e.segment, e.address, e.kind, e.state, e.misses, e.probeDue)
  /-- A choice point that was due is due still. -/
  choiceDue : ∀ g ∈ b.choiceDue, g ∈ a.choiceDue

/-- A state is like itself. -/
theorem State.SameButClaims.rfl' (a : State) : a.SameButClaims a := by
  constructor <;> first | rfl | exact fun _ => rfl | exact fun g => Segment.SameButClaims.rfl' _ | exact fun _ h => h

/-- One such difference after another is such a difference. -/
theorem State.SameButClaims.trans {a b c : State} (h : a.SameButClaims b) (k : b.SameButClaims c) :
    a.SameButClaims c where
  slots := h.slots.trans k.slots
  heldSet := h.heldSet.trans k.heldSet
  accepted := h.accepted.trans k.accepted
  poolFree := h.poolFree.trans k.poolFree
  rx := h.rx.trans k.rx
  cache := h.cache.trans k.cache
  replies := h.replies.trans k.replies
  htx := h.htx.trans k.htx
  restart := h.restart.trans k.restart
  rstLow := h.rstLow.trans k.rstLow
  rate1 := h.rate1.trans k.rate1
  rate0 := h.rate0.trans k.rate0
  pending := h.pending.trans k.pending
  seg g := (h.seg g).trans (k.seg g)
  entry i := (h.entry i).trans (k.entry i)
  choiceDue g hg := h.choiceDue g (k.choiceDue g hg)

/-- A change of one segment that only gives up claims. -/
theorem State.SameButClaims.modSeg (s : State) (g : Seg) {f : Segment → Segment}
    (h : (f (s.seg g)).SameButClaims (s.seg g)) : (s.modSeg g f).SameButClaims s where
  slots := rfl
  heldSet := rfl
  accepted := rfl
  poolFree := rfl
  rx := rfl
  cache := rfl
  replies := rfl
  htx := rfl
  restart := rfl
  rstLow := rfl
  rate1 := rfl
  rate0 := rfl
  pending := rfl
  seg k := by
    by_cases hk : k = g
    · subst hk; rw [State.seg_modSeg_self]; exact h
    · rw [State.seg_modSeg_ne _ _ _ _ hk]; exact Segment.SameButClaims.rfl' _
  entry _ := rfl
  choiceDue _ hg := hg

/-- A mark only adds a choice point that is due. -/
theorem State.SameButClaims.markChoice (s : State) (g : Seg) : (s.markChoice g).SameButClaims s := by
  unfold State.markChoice
  split
  · exact State.SameButClaims.rfl' s
  · constructor <;>
      first
      | rfl
      | exact fun _ => rfl
      | exact fun _ => Segment.SameButClaims.rfl' _
      | exact fun _ h => List.mem_append_left _ h

/-- What a claimant gives up when its claim is taken (R91, R117, R118, R128, R135, R145, R161). -/
theorem clearClaim_same (s : State) (c : Claimant) : (clearClaim s c).SameButClaims s := by
  cases c with
  | jobEnded i => exact State.SameButClaims.rfl' s
  | hlc => exact State.SameButClaims.rfl' s
  | inbound g r =>
    unfold clearClaim
    refine State.SameButClaims.modSeg s g ?_
    constructor <;> first | rfl | exact Or.inl rfl | exact fun _ => rfl
  | station g ix what =>
    unfold clearClaim
    refine State.SameButClaims.modSeg s g ?_
    constructor <;> try first | rfl | exact Or.inl rfl
    intro k
    by_cases hk : k = ix
    · subst hk; cases what <;> simp [Segment.modStation, Segment.station, Station.clearCount]
    · have : ix.val ≠ k.val := fun h => hk (Fin.ext h.symm)
      simp [Segment.modStation, Segment.station, this]
  | notice g =>
    have h : (s.modSeg g fun sg => { sg with notice := sg.notice.takeClaim }).SameButClaims s := by
      refine State.SameButClaims.modSeg s g ?_
      constructor <;> try first | rfl | exact fun _ => rfl
      · unfold Notice.takeClaim; split <;> rfl
      · unfold Notice.takeClaim
        split
        · by_cases hq : (s.seg g).notice.state = .querying
          · exact Or.inr ⟨hq, by simp [hq]⟩
          · exact Or.inl (by simp [hq])
        · exact Or.inl rfl
    show (State.noticeChoice _ g).SameButClaims s
    unfold State.noticeChoice
    split
    · exact (State.SameButClaims.markChoice _ g).trans h
    · exact h
  | sweepEnded g =>
    unfold clearClaim
    refine State.SameButClaims.modSeg s g ?_
    constructor <;> first | rfl | exact Or.inl rfl | exact fun _ => rfl
  | conflict g =>
    unfold clearClaim
    refine State.SameButClaims.modSeg s g ?_
    constructor <;> first | rfl | exact Or.inl rfl | exact fun _ => rfl
  | fault g =>
    unfold clearClaim
    refine State.SameButClaims.modSeg s g ?_
    constructor <;> first | rfl | exact Or.inl rfl | exact fun _ => rfl
  | roster h =>
    constructor <;>
      try first | rfl | exact fun _ => Segment.SameButClaims.rfl' _ | exact fun _ h => h
    intro k
    by_cases hk : k = h
    · subst hk
      simp only [clearClaim, State.entryAt_modEntry_self]
      cases s.entryAt k <;> rfl
    · simp [clearClaim, State.entryAt_modEntry_ne _ _ _ _ hk]

/-- The claim list and the Report Queue are not looked at by `SameButClaims`. -/
theorem State.SameButClaims.withClaims (s : State) (cs : List Claimant) : State.SameButClaims { s with claims := cs } s := by
  constructor <;> first | rfl | exact fun _ => rfl | exact fun g => Segment.SameButClaims.rfl' _ | exact fun _ h => h

/-- The entry of a report into the queue changes nothing that `SameButClaims` looks at. -/
theorem State.SameButClaims.enqueueReport (s : State) (c : Claimant) (kind : Byte) (body : List Byte) :
    (s.enqueueReport c kind body).SameButClaims s := by
  constructor <;> first | rfl | exact fun _ => rfl | exact fun g => Segment.SameButClaims.rfl' _ | exact fun _ h => h

/-- Taking the oldest claim. -/
theorem takeOldestClaim_same (s : State) : (takeOldestClaim s).SameButClaims s := by
  unfold takeOldestClaim
  split
  · exact State.SameButClaims.rfl' s
  · split
    · exact State.SameButClaims.withClaims s _
    · exact (State.SameButClaims.enqueueReport _ _ _ _).trans
        ((clearClaim_same _ _).trans (State.SameButClaims.withClaims s _))

/-- Taking claims while there is room. -/
theorem takeClaims_same (n : Nat) (s : State) : (takeClaims n s).SameButClaims s := by
  induction n generalizing s with
  | zero => exact State.SameButClaims.rfl' s
  | succ n ih =>
    unfold takeClaims
    split
    · exact (ih _).trans (takeOldestClaim_same s)
    · exact State.SameButClaims.rfl' s

/-- Filling the Report Queue (R172). -/
theorem State.fillQueue_same (s : State) : s.fillQueue.SameButClaims s := takeClaims_same _ s

/-- Placing a claim (R172). -/
theorem State.placeClaim_same (s : State) (c : Claimant) : (s.placeClaim c).SameButClaims s :=
  (State.fillQueue_same _).trans (State.SameButClaims.withClaims s _)

/-- Placing a claim that may wait already (R135). -/
theorem State.placeClaimOnce_same (s : State) (c : Claimant) : (s.placeClaimOnce c).SameButClaims s := by
  unfold State.placeClaimOnce
  split
  · exact State.SameButClaims.rfl' s
  · exact State.placeClaim_same s c

/-- A claim withdrawn. -/
theorem State.withdrawClaim_same (s : State) (c : Claimant) : (s.withdrawClaim c).SameButClaims s :=
  State.SameButClaims.withClaims s _

end Sys2Proof.Machine
end

