-- ==== Sys2Proof/Laws/Jobs.lean ====
section
/-!
SUPPORT. What the end of a job can change outside the Job Table, said once: class lists, the current job and Dispatch's
backoff, fairness counts, claims and reports (R15, R24, R25), and never the Segment Controller, the bus monitor, a service
or the enrolment engine.
-/

namespace Sys2Proof.Machine

/-- Two records of one segment that differ at most in its jobs and in what claimants give up. -/
structure Segment.SameButJobs (a b : Segment) : Prop where
  config : a.config = b.config
  sc : a.sc = b.sc
  monitor : a.monitor = b.monitor
  stopSeen : a.stopSeen = b.stopSeen
  stretch : a.stretch = b.stretch
  recoverRequested : a.recoverRequested = b.recoverRequested
  handed : a.handed = b.handed
  engine : a.engine = b.engine
  service : a.service = b.service
  noticeLine : a.noticeLine = b.noticeLine
  rollTimer : a.rollTimer = b.rollTimer
  retries : a.notice.retries = b.notice.retries
  posted : ∀ ix, (a.station ix).posted = (b.station ix).posted

/-- Two states that differ at most in the Job Table, the queues and what claimants give up. -/
structure State.SameButJobs (a b : State) : Prop where
  accepted : a.accepted = b.accepted
  poolFree : a.poolFree = b.poolFree
  gen : ∀ i, a.genAt i = b.genAt i
  rx : a.rx = b.rx
  cache : a.cache = b.cache
  replies : a.replies = b.replies
  htx : a.htx = b.htx
  restart : a.restart = b.restart
  rstLow : a.rstLow = b.rstLow
  pending : a.pending = b.pending
  seg : ∀ g, (a.seg g).SameButJobs (b.seg g)
  choiceDue : ∀ g ∈ b.choiceDue, g ∈ a.choiceDue

/-- A segment is like itself. -/
theorem Segment.SameButJobs.rfl' (a : Segment) : a.SameButJobs a := by
  constructor <;> first | rfl | exact fun _ => rfl

/-- One such difference after another is such a difference. -/
theorem Segment.SameButJobs.trans {a b c : Segment} (h : a.SameButJobs b) (k : b.SameButJobs c) : a.SameButJobs c where
  config := h.config.trans k.config
  sc := h.sc.trans k.sc
  monitor := h.monitor.trans k.monitor
  stopSeen := h.stopSeen.trans k.stopSeen
  stretch := h.stretch.trans k.stretch
  recoverRequested := h.recoverRequested.trans k.recoverRequested
  handed := h.handed.trans k.handed
  engine := h.engine.trans k.engine
  service := h.service.trans k.service
  noticeLine := h.noticeLine.trans k.noticeLine
  rollTimer := h.rollTimer.trans k.rollTimer
  retries := h.retries.trans k.retries
  posted ix := (h.posted ix).trans (k.posted ix)

/-- What claimants give up is no difference here. -/
theorem Segment.SameButClaims.sameButJobs {a b : Segment} (h : a.SameButClaims b) : a.SameButJobs b where
  config := h.config
  sc := h.sc
  monitor := h.monitor
  stopSeen := h.stopSeen
  stretch := h.stretch
  recoverRequested := h.recoverRequested
  handed := h.handed
  engine := h.engine
  service := h.service
  noticeLine := h.noticeLine
  rollTimer := h.rollTimer
  retries := h.retries
  posted := h.posted

/-- A state is like itself. -/
theorem State.SameButJobs.rfl' (a : State) : a.SameButJobs a := by
  constructor <;> first | rfl | exact fun _ => rfl | exact fun g => Segment.SameButJobs.rfl' _ | exact fun _ h => h

/-- One such difference after another is such a difference. -/
theorem State.SameButJobs.trans {a b c : State} (h : a.SameButJobs b) (k : b.SameButJobs c) : a.SameButJobs c where
  accepted := h.accepted.trans k.accepted
  poolFree := h.poolFree.trans k.poolFree
  gen i := (h.gen i).trans (k.gen i)
  rx := h.rx.trans k.rx
  cache := h.cache.trans k.cache
  replies := h.replies.trans k.replies
  htx := h.htx.trans k.htx
  restart := h.restart.trans k.restart
  rstLow := h.rstLow.trans k.rstLow
  pending := h.pending.trans k.pending
  seg g := (h.seg g).trans (k.seg g)
  choiceDue g hg := h.choiceDue g (k.choiceDue g hg)

/-- What claimants give up is no difference here. -/
theorem State.SameButClaims.sameButJobs {a b : State} (h : a.SameButClaims b) : a.SameButJobs b where
  accepted := h.accepted
  poolFree := h.poolFree
  gen i := by simp [State.genAt, h.slots]
  rx := h.rx
  cache := h.cache
  replies := h.replies
  htx := h.htx
  restart := h.restart
  rstLow := h.rstLow
  pending := h.pending
  seg g := (h.seg g).sameButJobs
  choiceDue := h.choiceDue

/-- A change of one segment's jobs. -/
theorem State.SameButJobs.modSeg (s : State) (g : Seg) {f : Segment → Segment}
    (h : (f (s.seg g)).SameButJobs (s.seg g)) : (s.modSeg g f).SameButJobs s := by
  constructor <;> try first | rfl | exact fun _ => rfl | exact fun _ h => h
  intro k
  by_cases hk : k = g
  · subst hk; rw [State.seg_modSeg_self]; exact h
  · rw [State.seg_modSeg_ne _ _ _ _ hk]; exact Segment.SameButJobs.rfl' _

/-- A job record written. -/
theorem State.SameButJobs.putJob (s : State) (i : Slot) (j : Option Job) : (s.putJob i j).SameButJobs s := by
  constructor <;>
    first
    | rfl
    | exact fun k => State.genAt_putJob s i k j
    | exact fun g => Segment.SameButJobs.rfl' _
    | exact fun _ h => h

/-- A job record changed. -/
theorem State.SameButJobs.modJob (s : State) (i : Slot) (f : Job → Job) : (s.modJob i f).SameButJobs s :=
  State.SameButJobs.putJob s i _

/-- The held set changed. -/
theorem State.SameButJobs.withHeld (s : State) (hs : List HeldEntry) : State.SameButJobs { s with heldSet := hs } s := by
  constructor <;> first | rfl | exact fun _ => rfl | exact fun g => Segment.SameButJobs.rfl' _ | exact fun _ h => h

/-- A job leaves its class list. -/
theorem Segment.dequeue_same (sg : Segment) (c : JobClass) (i : Slot) : (sg.dequeue c i).SameButJobs sg := by
  cases c <;>
    · unfold Segment.dequeue Segment.fairnessAfter
      simp only
      split <;> constructor <;> first | rfl | exact fun _ => rfl

/-- A job enters its class list. -/
theorem Segment.enqueue_same (sg : Segment) (c : JobClass) (i : Slot) : (sg.enqueue c i).SameButJobs sg := by
  cases c <;> constructor <;> first | rfl | exact fun _ => rfl

/-- Dispatch lets go of its current job (R37). -/
theorem Segment.dropCurrent_same (sg : Segment) : sg.dropCurrent.SameButJobs sg := by
  constructor <;> first | rfl | exact fun _ => rfl

/-- A job leaves its place (R15). -/
theorem State.leavePlace_same (s : State) (i : Slot) (j : Job) : (s.leavePlace i j).SameButJobs s := by
  unfold State.leavePlace
  split
  · exact State.SameButJobs.modSeg s _ (Segment.dequeue_same _ _ _)
  · exact State.SameButJobs.withHeld s _
  · exact State.SameButJobs.modSeg s _ (Segment.dropCurrent_same _)
  · exact (State.SameButClaims.markChoice _ _).sameButJobs.trans
      (State.SameButJobs.modSeg s _ (Segment.dropCurrent_same _))
  · exact State.SameButJobs.rfl' s
  · exact State.SameButJobs.rfl' s

/-- The visit of the STAGING dependents (R10). -/
theorem State.visitStaging_same (s : State) (id : JobId) (ok : Bool) : (s.visitStaging id ok).SameButJobs s := by
  constructor <;>
    first
    | rfl
    | exact fun g => Segment.SameButJobs.rfl' _
    | exact fun _ h => h
    | (intro i; simp [State.genAt, State.visitStaging])

/-- The end of one job (R15). -/
theorem State.endOne_same (s : State) (i : Slot) (st : EndStatus) (c : EndCounts) : (s.endOne i st c).SameButJobs s := by
  unfold State.endOne
  split
  · exact State.SameButJobs.rfl' s
  · split
    · exact State.SameButJobs.rfl' s
    · exact (State.placeClaim_same _ _).sameButJobs.trans ((State.visitStaging_same _ _ _).trans
        ((State.SameButJobs.putJob _ _ _).trans (State.leavePlace_same s _ _)))

/-- A job becomes QUEUED (R21). -/
theorem State.becomeQueued_same (s : State) (i : Slot) : (s.becomeQueued i).SameButJobs s := by
  unfold State.becomeQueued
  split
  · exact State.SameButJobs.rfl' s
  · exact (State.SameButClaims.markChoice _ _).sameButJobs.trans
      ((State.SameButJobs.modSeg _ _ (Segment.enqueue_same _ _ _)).trans (State.SameButJobs.modJob s _ _))

/-- A pass over slots each of which changes jobs only. -/
theorem State.foldl_same {α : Type} (f : State → α → State) (h : ∀ s a, (f s a).SameButJobs s) (as : List α) (s : State) :
    (as.foldl f s).SameButJobs s := by
  induction as generalizing s with
  | nil => exact State.SameButJobs.rfl' s
  | cons a as ih => exact (ih _).trans (h s a)

/-- The release of the HELD dependents (R24). -/
theorem State.releaseDependents_same (s : State) (id : JobId) : (s.releaseDependents id).SameButJobs s := by
  refine State.foldl_same _ (fun s i => ?_) _ s
  split
  · exact (State.becomeQueued_same _ _).trans (State.SameButJobs.withHeld s _)
  · exact State.SameButJobs.rfl' s

/-- The cascade (R25). -/
theorem State.cascade_same (s : State) : s.cascade.SameButJobs s := by
  refine State.foldl_same _ (fun s i => ?_) _ s
  split
  · exact State.endOne_same _ _ _ _
  · exact State.SameButJobs.rfl' s

/-- The end of a job with its dependents (R15, R24, R25). -/
theorem State.endJob_same (s : State) (i : Slot) (st : EndStatus) (c : EndCounts) : (s.endJob i st c).SameButJobs s := by
  unfold State.endJob
  repeat' split
  all_goals
    first
    | exact State.SameButJobs.rfl' s
    | exact (State.releaseDependents_same _ _).trans (State.endOne_same _ _ _ _)
    | exact (State.cascade_same _).trans (State.endOne_same _ _ _ _)

end Sys2Proof.Machine
end

