-- ==== Sys2Proof/Laws/Roster.lean ====
section
/-!
SUPPORT. The acknowledged signal changes nothing in an entry that is PRESENT without a miss, so an address byte of which
the Roster is told twice has one effect.
-/

namespace Sys2Proof.Machine

/-- An entry written back as it stands. -/
theorem State.putEntry_entryAt {s : State} {h : Handle} {e : Entry} (he : s.entryAt h = some e) :
    s.putEntry h (some e) = s := by
  rw [← he]
  simp [State.putEntry, State.entryAt]

theorem Entry.acknowledged_of_present {e : Entry} (hs : e.state = .present) (hm : e.misses = 0) :
    e.acknowledged = e := by
  cases e
  simp_all [Entry.acknowledged]

/-- R90: the acknowledged signal to an entry that is PRESENT without a miss. -/
theorem State.ackSignal_of_present {s : State} {h : Handle} {e : Entry} (he : s.entryAt h = some e)
    (hs : e.state = .present) (hm : e.misses = 0) : s.ackSignal h = s := by
  simp [State.ackSignal, he, State.updateEntry, Entry.acknowledged_of_present hs hm, State.putEntry_entryAt he]

/-- R79: the entry of an attempt stands on the segment of the job, with no removal pending. -/
theorem State.presenceEntry_eq_some {s : State} {j : Job} {h : Handle} (hp : s.presenceEntry j = some h) :
    j.target = .handle h ∧ j.removalPending = false ∧ ∃ e, s.entryAt h = some e ∧ e.segment = j.segment := by
  unfold State.presenceEntry at hp
  split at hp
  · cases hp
  · split at hp
    · split at hp
      · cases hp
        exact ⟨‹_›, by simp_all, _, ‹_›, by simp_all⟩
      · cases hp
    · cases hp

end Sys2Proof.Machine
end

