-- ==== Sys2Proof/Laws/Transaction.lean ====
section
/-!
SUPPORT. What the course of a transaction is, said once: it runs answer by answer, it stands once its bytes have ended, and
a stretch timeout takes only the check byte received and its comparison from it.
-/

namespace Sys2Proof.Machine

@[simp] theorem runTx_nil (d : TxDesc) : runTx d [] = TxRun.start d := rfl

/-- The course after some answers goes on from where it stood. -/
theorem runTx_append (d : TxDesc) (xs ys : List BusAnswer) :
    runTx d (xs ++ ys) = ys.foldl (TxRun.answer d) (runTx d xs) := by
  simp [runTx, List.foldl_append]

@[simp] theorem runTx_concat (d : TxDesc) (xs : List BusAnswer) (a : BusAnswer) :
    runTx d (xs ++ [a]) = (runTx d xs).answer d a := by
  simp [runTx_append]

/-- Once its bytes have ended no answer changes a transaction. -/
theorem TxRun.answer_of_ended {r : TxRun} {how : TxStop} (h : r.phase = .ended how) (d : TxDesc) (a : BusAnswer) :
    r.answer d a = r := by
  simp [TxRun.answer, h]

theorem TxRun.foldl_answer_of_ended {r : TxRun} {how : TxStop} (h : r.phase = .ended how) (d : TxDesc)
    (bus : List BusAnswer) : bus.foldl (TxRun.answer d) r = r := by
  induction bus with
  | nil => rfl
  | cons a rest ih => rw [List.foldl_cons, answer_of_ended h, ih]

/-- Up to the boundary of a cancel the last answer alone may be a loss in a byte that is refused. -/
@[simp] theorem runTxCancelled_concat (d : TxDesc) (xs : List BusAnswer) (a : BusAnswer) :
    runTxCancelled d (xs ++ [a]) = (runTx d xs).answerRefused d a := by
  simp [runTxCancelled]

/-- Where the last answer is no loss in a read byte, a cancel leaves the course as it is. -/
theorem TxRun.answerRefused_eq_answer {a : BusAnswer} (h : ∀ b, a ≠ .byteLost b) (d : TxDesc) (r : TxRun) :
    r.answerRefused d a = r.answer d a := by
  unfold TxRun.answerRefused
  split
  · exact absurd rfl (h _)
  · exact absurd rfl (h _)
  · rfl

/-! ### A stretch timeout -/

@[simp] theorem TxRun.afterStretch_false (r : TxRun) : r.afterStretch false = r := rfl
@[simp] theorem TxRun.afterStretch_checkByte (r : TxRun) : (r.afterStretch true).checkByte = none := rfl
@[simp] theorem TxRun.afterStretch_matched (r : TxRun) : (r.afterStretch true).matched = false := rfl
@[simp] theorem TxRun.afterStretch_phase (r : TxRun) (b : Bool) : (r.afterStretch b).phase = r.phase := by
  cases b <;> rfl
@[simp] theorem TxRun.afterStretch_written (r : TxRun) (b : Bool) : (r.afterStretch b).written = r.written := by
  cases b <;> rfl
@[simp] theorem TxRun.afterStretch_read (r : TxRun) (b : Bool) : (r.afterStretch b).read = r.read := by
  cases b <;> rfl
@[simp] theorem TxRun.afterStretch_addressAcks (r : TxRun) (b : Bool) : (r.afterStretch b).addressAcks = r.addressAcks := by
  cases b <;> rfl
@[simp] theorem TxRun.afterStretch_refusedLast (r : TxRun) (b : Bool) : (r.afterStretch b).refusedLast = r.refusedLast := by
  cases b <;> rfl
@[simp] theorem TxRun.afterStretch_checkSent (r : TxRun) (b : Bool) : (r.afterStretch b).checkSent = r.checkSent := by
  cases b <;> rfl
@[simp] theorem TxRun.afterStretch_checkAcked (r : TxRun) (b : Bool) : (r.afterStretch b).checkAcked = r.checkAcked := by
  cases b <;> rfl

end Sys2Proof.Machine
end

