-- ==== Sys2Proof/WellFormed.lean ====
section
/-!
DEFINITION. Which commands can come from outside: the size of a frame's body, and answers of the bus, recovery pulses
and kinds that the rules allow together.
-/

namespace Sys2Proof

/-- A frame carries a body of at most 240 bytes (R165). -/
def bodyFits (body : List Byte) : Bool := decide (body.length ≤ Config.maxBody)

/-- An answer after which the transaction goes on to another byte (R48, R69 to R73). -/
def BusAnswer.goesOn : BusAnswer → Bool
  | .ack => true
  | .byte _ => true
  | .nak => false
  | .lostTo _ => false
  | .lost => false
  | .byteLost _ => false

/-- A loss in the first address byte stands alone (R48). -/
def BusAnswer.standsAlone : BusAnswer → Bool
  | .lostTo _ => true
  | _ => false

/-- Answers the bus can give to the bytes of one transaction: a refusal or a loss is the last of them, and a loss in the
first address byte the only one. -/
def answersFit : List BusAnswer → Bool
  | [] => true
  | [_] => true
  | a :: b :: rest => a.goesOn && !b.standsAlone && answersFit (b :: rest)

/-- The byte received after the boundary of a cancel (R81, case 3). -/
def nextFits : Option BusAnswer → Bool
  | none => true
  | some (.byte _) => true
  | some (.byteLost _) => true
  | _ => false

/-- The pulses of a recovery that has ended (R61), of which `n` may still be given. -/
def pulsesFit : Nat → List RecoveryPulse → Bool
  | n, [] => n == 0
  | 0, _ :: _ => false
  | _ + 1, .stopMade :: rest => rest.isEmpty
  | _ + 1, .clockHeld :: rest => rest.isEmpty
  | n + 1, .dataLow :: rest => pulsesFit n rest
  | n + 1, .stopFailed :: rest => pulsesFit n rest

/-- The answers of an exchange that was cut off. -/
def BusCut.fits (c : BusCut) : Bool := answersFit c.answers

/-- A command that can come from outside. -/
def Instr.wellFormed : Instr → Bool
  | .powerOn => true
  | .rstAssert => true
  | .rstRelease => true
  | .restartTaken => true
  | .frameDiscarded _ _ cut => cut.fits
  | .hrxGapTimeout _ cut => cut.fits
  | .unknownKindFrame kind _ body => bodyFits body && !Machine.requestKinds.contains kind
  | .htxFrameSent => true
  | .status _ body => bodyFits body
  | .restart _ body => bodyFits body
  | .sync _ body => bodyFits body
  | .ackReports _ body => bodyFits body
  | .resendReports _ body => bodyFits body
  | .segmentConfigure _ body => bodyFits body
  | .segmentEnable _ body => bodyFits body
  | .segmentDisable _ body cut => bodyFits body && cut.fits
  | .segmentRecover _ body => bodyFits body
  | .submit _ body => bodyFits body
  | .append _ body => bodyFits body
  | .cancel _ body => bodyFits body
  | .queryJob _ body => bodyFits body
  | .rosterRead _ body => bodyFits body
  | .rosterAddFixed _ body => bodyFits body
  | .rosterRemove _ body => bodyFits body
  | .enrolSweep _ body => bodyFits body
  | .enrolForget _ body => bodyFits body
  | .postReply _ body => bodyFits body
  | .withdrawReply _ body => bodyFits body
  | .stagingTimerExpiry _ => true
  | .deadlineExpiry _ => true
  | .backoffTimerExpiry _ => true
  | .rollTimerExpiry _ => true
  | .holdTimerExpiry _ => true
  | .retryWaitExpiry _ => true
  | .jobAttemptEnd _ bus _ => answersFit bus
  | .cancelAtByteBoundary _ bus next _ => answersFit bus && nextFits next
  | .probeEnd _ bus _ => answersFit bus
  | .callEnd _ bus _ => answersFit bus
  | .identifyEnd _ bus _ => answersFit bus
  | .assignEnd _ bus _ => answersFit bus
  | .parkEnd _ bus _ => answersFit bus
  | .forgetEnd _ bus _ => answersFit bus
  | .noticeQueryEnd _ bus _ => answersFit bus
  | .noticeLineAsserted _ => true
  | .noticeLineReleased _ => true
  | .busStartSeen _ => true
  | .clockFallDataHigh _ => true
  | .busStopSeen _ _ => true
  | .busRepeatedStartSeen _ _ => true
  | .freeTimeElapsed _ => true
  | .linesHigh1ms _ _ => true
  | .stuckDetected _ _ cut => cut.fits
  | .stretchTimeout _ _ => true
  | .recoveryEnd _ pulses => pulsesFit Config.recoveryPulses pulses
  | .addressMatch _ _ => true
  | .inboundByte _ _ => true
  | .servedReadEnd _ _ => true

end Sys2Proof
end

