-- ==== Sys2Proof/Tests/Slice0.lean ====
section
/-!
SUPPORT. The model's own tests: worked examples and tables of the manual, each on one action; an ill-formed command for
each check of WellFormed; and, for each statement that has hypotheses, a state and operands that meet them.
-/

set_option Elab.async false

namespace Sys2Proof.Tests

open Sys2Proof Sys2Proof.Machine

/-! ### Small states -/

/-- The state after a command. -/
def after (c : Instr) (s : State) : State :=
  match exec c s with
  | .next t => t
  | .fault _ => s
  | .refused _ => s

/-- The state after reset, with segment B changed. -/
def segB (f : Segment → Segment) : State := State.reset.modSeg 1 f

/-- A URGENT raw-address job of segment B with two write bytes, in a given state. -/
def aJob (st : JobState) : Job where
  state := st
  segment := 1
  target := .raw 0x3A
  cls := .urgent
  retryBudget := 1
  deadline := none
  check := false
  predecessor := .absent
  steps := [.write 2]
  writeTotal := 2
  staged := 2
  readReserve := 0
  blocksHeld := 1
  attempts := 1
  resolved := some 0x3A
  overdue := false
  cancelPending := false
  removalPending := false
  outcome := none
  writeData := [7, 8]
  deadlineTimer := none
  stagingTimer := none

/-- The job in slot 0, with segment B enabled and IDLE on a FREE bus. -/
def withJob (j : Job) : State :=
  (segB fun sg => { sg with sc := .idle, monitor := .free }).putJob 0 (some j)

/-- The job in slot 0, with its attempt handed on segment B in the state `sc`. -/
def handedJob (sc : ScState) (j : Job) : State :=
  (withJob j).modSeg 1 fun sg => { sg with sc := sc, monitor := .busy, current := some 0, handed := some (.job 0) }

/-- Segment B with a job at each class list's head. -/
def twoQueued (fairness : Nat) : State :=
  (((withJob (aJob .queued)).putJob 1 (some { aJob .queued with cls := .routine })).modSeg 1 fun sg =>
    { sg with urgent := [0], routine := [1], fairness := fairness })

/-- An identity with its class code (7.9, device Q). -/
def deviceQ : Found := ⟨⟨#[0x30, 0x0F, 0, 0, 0, 0, 1, 2], rfl⟩, 7⟩

/-- A fixed entry. -/
def fixedAt (g : Seg) (a : Addr) : Entry := ⟨g, a, .fixed, .present, 0, false, false, false, false, 0⟩

/-- An enrolled entry of device Q. -/
def enrolledAt (g : Seg) (a : Addr) (st : EntryState) : Entry :=
  ⟨g, a, .enrolled deviceQ, st, 0, false, false, false, false, 0⟩

/-- One entry under handle 5. -/
def oneEntry (e : Entry) : State := State.reset.putEntry 5 (some e)

/-- Every handle holds an entry, none of them of segment B or with an identity. -/
def fullRoster : State := { State.reset with roster := Vector.replicate 64 (some (fixedAt 2 0x40)) }

/-- Segment B with an enrolment command running in a sweep state. -/
def sweeping (e : Engine) (s : State := State.reset) : State :=
  s.modSeg 1 fun sg => { sg with sc := .controlling, monitor := .busy, handed := some .enrol, engine := e }

/-- The engine in a sweep state with device Q in hand. -/
def engineIn (st : SweepState) : Engine := { Engine.reset with state := st, work := some .sweep, current := some deviceQ }

/-- A running block that has no reply queued, no tag cached and no restart on its way takes a request. -/
theorem takes_when_quiet {s : State} (h : (s.rstLow, s.restart, s.replies, s.cache) = (false, none, [], [])) :
    Takes s 1 := by
  simp only [Prod.mk.injEq] at h
  exact ⟨h.1, h.2.1, by simp [h.2.2.1], by simp [h.2.2.2], by decide⟩

/-- A property of every entry, checked handle by handle. -/
theorem all_entries {s : State} {p : Handle → Entry → Prop} [∀ h e, Decidable (p h e)]
    (hp : ∀ k, (s.entryAt k).all (fun d => decide (p k d)) = true) : ∀ k d, s.entryAt k = some d → p k d := by
  intro k d hk
  have := hp k
  simpa [hk] using this

/-! ### Worked examples and tables of the manual -/

/-- 4.9: the check byte over 98h, 0Dh, 99h, 01h, 7Ah is 36h, and running the register on over it gives 00h. -/
theorem test_check_byte : crc8 [0x98, 0x0D, 0x99, 0x01, 0x7A] = 0x36 ∧ crc8 [0x98, 0x0D, 0x99, 0x01, 0x7A, 0x36] = 0 := by
  decide +kernel

/-- Table 4-6. -/
theorem test_check_byte_steps : (crc8 [0x98], crc8 [0x98, 0x0D], crc8 [0x98, 0x0D, 0x99], crc8 [0x98, 0x0D, 0x99, 0x01]) =
    (0x58, 0xDB, 0xB8, 0x46) := by decide +kernel

/-- 2.10: the SUBMIT of the worked example, refused before the roster holds handle 7. -/
theorem test_submit_unknown_handle :
    (after (.submit 1 [0, 7, 0, 0, 0xFF, 0xF4, 0x01, 1, 0, 0, 0, 2, 0, 1, 1, 2, 0x0D]) State.reset).replies =
      [⟨0x7F, 1, [0x20, 0x0D]⟩] := by decide +kernel

/-- 2.10: accepted into slot 3 under generation 42, with two blocks taken, QUEUED and staged 1. Segment C is disabled here,
so no choice point follows. -/
theorem test_submit_accepted :
    let s := { ((State.reset.putEntry 7 (some (fixedAt 2 0x4C))).putJob 0 (some (aJob .ended))) with poolFree := 90 }
    let s := (s.putJob 1 (some (aJob .ended))).putJob 2 (some (aJob .ended))
    let s := { s with slots := s.slots.set 3 ⟨41, none⟩ }
    let t := after (.submit 1 [0, 7, 0, 0, 0xFF, 0xF4, 0x01, 1, 0, 0, 0, 2, 0, 1, 1, 2, 0x0D]) s
    t.replies = [⟨0x60, 1, [0, 3, 42, 3, 1, 0]⟩] ∧ t.poolFree = 88 ∧ (t.seg 2).urgent = [3] ∧
      (t.jobAt 3).map (fun j => (j.retryBudget, j.deadlineTimer, j.stagingTimer, j.readReserve)) = some (3, some 500, none, 3) :=
  by decide +kernel

/-- 10.6, event 2: a SUBMIT that would take the free count below 8 is refused POOL_SHORT. -/
theorem test_submit_pool_short :
    (after (.submit 1 [1, 0x40, 0, 0, 1, 0, 0, 0, 0, 0, 0, 2, 0, 0, 1, 33]) { State.reset with poolFree := 9 }).replies =
      [⟨0x7F, 1, [0x20, 0x05]⟩] := by decide +kernel

/-- R11: the last bytes of an APPEND place the job. -/
theorem test_append_completes :
    let j := { aJob .staging with staged := 1, writeData := [7], stagingTimer := some 1000 }
    let t := after (.append 1 [0, 0, 9]) (State.reset.putJob 0 (some j))
    t.replies = [⟨0x61, 1, [0, 0, 0, 3, 2, 0]⟩] ∧ (t.jobAt 0).map (·.writeData) = some [7, 9] ∧ (t.seg 1).urgent = [0] := by
  decide +kernel

/-- R40: a QUEUED job ends CANCELLED and leaves its list; the reply says ENDED. -/
theorem test_cancel_queued :
    let t := after (.cancel 1 [0, 0]) ((State.reset.putJob 0 (some (aJob .queued))).modSeg 1 fun sg => { sg with urgent := [0] })
    t.replies = [⟨0x62, 1, [0, 0, 0, 6]⟩] ∧ (t.seg 1).urgent = [] ∧ (t.jobAt 0).map (·.state) = some .ended := by
  decide +kernel

/-- 3.7: a QUERY_JOB of a HELD job gives position FFh. -/
theorem test_query_held :
    (after (.queryJob 1 [0, 0]) (State.reset.putJob 0 (some (aJob .held)))).replies =
      [⟨0x63, 1, [0, 0, 0, 2, 1, 0, 2, 0, 2, 0, 0xFF, 0xFF]⟩] := by decide +kernel

/-- Table 3-2, choices 4 and 5: URGENT at fairness count 3, and ROUTINE at 4. -/
theorem test_fairness :
    (((twoQueued 3).choicePoint 1).seg 1).current = some 0 ∧ (((twoQueued 3).choicePoint 1).seg 1).fairness = 4 ∧
    (((twoQueued 4).choicePoint 1).seg 1).current = some 1 ∧ (((twoQueued 4).choicePoint 1).seg 1).fairness = 0 := by
  decide +kernel

/-- 3.7, event 4: the refused first attempt of a job with retry budget 1 passes it to BACKOFF for 2 ms. -/
theorem test_attempt_refused_retries :
    let t := after (.jobAttemptEnd 1 [.nak] true) (handedJob .controlling (aJob .active))
    (t.jobAt 0).map (·.state) = some .backoff ∧ (t.seg 1).backoffTimer = some 4 ∧ (t.seg 1).sc = .idle := by decide +kernel

/-- 3.7, event 6: the second refusal ends it NO_RESPONSE with nothing written. -/
theorem test_attempt_refused_ends :
    let t := after (.jobAttemptEnd 1 [.nak] true) (handedJob .controlling { aJob .active with attempts := 2 })
    (t.reports.drop 1).map (·.body) = [[0, 0, 1, 1, 0x3A, 0x3A, 1, 0, 2, 0, 0, 0, 0]] ∧ (t.seg 1).current = none := by
  decide +kernel

/-- R81, case 1: a cancel after the first of two bytes ends the job CANCELLED with one byte written. -/
theorem test_cancel_at_boundary :
    let t := after (.cancelAtByteBoundary 1 [.ack, .ack] none true)
      (handedJob .controlling { aJob .active with cancelPending := true })
    (t.jobAt 0).map (fun j => j.outcome.map fun o => (o.status, o.written)) = some (some (.cancelled, 1)) := by
  decide +kernel

/-- 5.11: the deadline of a job in BACKOFF ends it at once, and the backoff timer stops. -/
theorem test_deadline_in_backoff :
    let s := (withJob { aJob .backoff with deadlineTimer := some 5 }).modSeg 1 fun sg =>
      { sg with current := some 0, backoffTimer := some 8 }
    let t := after (.deadlineExpiry 0) s
    (t.jobAt 0).map (fun j => j.outcome.map (·.status)) = some (some .deadline) ∧ (t.seg 1).backoffTimer = none := by
  decide +kernel

/-- R12. -/
theorem test_staging_timeout :
    let t := after (.stagingTimerExpiry 0) (State.reset.putJob 0 (some { aJob .staging with stagingTimer := some 1000 }))
    (t.jobAt 0).map (fun j => j.outcome.map (·.status)) = some (some .stageTimeout) := by decide +kernel

/-- R36: the expiry sets backoff expired, and level 1 hands the second attempt. -/
theorem test_backoff_expiry :
    let s := (withJob (aJob .backoff)).modSeg 1 fun sg => { sg with current := some 0, backoffTimer := some 4 }
    let t := after (.backoffTimerExpiry 1) s
    (t.seg 1).sc = .controlling ∧ (t.jobAt 0).map (fun j => (j.state, j.attempts)) = some (.active, 2) := by decide +kernel

/-- 6.10: at the third miss the entry becomes MISSING with miss count 0 and places its claim. -/
theorem test_probe_third_miss :
    let e := { enrolledAt 1 0x22 .present with misses := 2, probeDue := true }
    let s := (oneEntry e).modSeg 1 fun sg =>
      { sg with sc := .controlling, monitor := .busy, handed := some (.probe (some 5) 0x22) }
    let t := after (.probeEnd 1 [.nak] true) s
    (t.entryAt 5).map (fun e => (e.state, e.misses)) = some (.missing, 0) ∧ (t.reports.drop 1).map (·.kind) = [0x88] := by
  decide +kernel

/-- R97: the roll timer sets probe due and hands the first probe. -/
theorem test_roll_timer :
    let s := (oneEntry (fixedAt 1 0x48)).modSeg 1 fun sg => { sg with
      sc := .idle, monitor := .free, rollTimer := some 10, config := { sg.config with rollInterval := 10 } }
    let t := after (.rollTimerExpiry 1) s
    (t.seg 1).handed = some (.probe (some 5) 0x48) ∧ (t.entryAt 5).map (·.probeDue) = some true := by decide +kernel

/-- R92: an added entry takes the lowest free handle, and the address is then held. -/
theorem test_roster_add :
    (after (.rosterAddFixed 1 [1, 0x48]) State.reset).replies = [⟨0x71, 1, [0, 0]⟩] ∧
    (after (.rosterAddFixed 1 [1, 0x48]) (oneEntry (fixedAt 1 0x48))).replies = [⟨0x7F, 1, [0x31, 0x0F]⟩] := by decide +kernel

/-- R93: an ENROLLED entry that is PRESENT is not removed. -/
theorem test_roster_remove :
    (after (.rosterRemove 1 [5, 1]) (oneEntry (enrolledAt 1 0x22 .present))).replies = [⟨0x7F, 1, [0x32, 0x11]⟩] ∧
    (after (.rosterRemove 1 [5, 0]) (oneEntry (enrolledAt 1 0x22 .missing))).entryAt 5 = none := by decide +kernel

/-- R96: the entry of handle 5, its flags those of a FIXED entry that is PRESENT. -/
theorem test_roster_read :
    (after (.rosterRead 1 [0, 16]) (oneEntry (fixedAt 1 0x48))).replies = [⟨0x70, 1, [0, 1, 5, 1, 0x48, 1, 0]⟩] := by
  decide +kernel

/-- 7.9: ENROL_SWEEP answers PENDING, and the choice point hands CALL. -/
theorem test_enrol_sweep :
    let t := after (.enrolSweep 1 [1]) (segB fun sg => { sg with sc := .idle, monitor := .free })
    t.replies = [⟨0x73, 1, [0, 1]⟩] ∧ (t.seg 1).engine.state = .calling ∧ (t.seg 1).sc = .controlling := by decide +kernel

/-- R119: ENROL_FORGET while a sweep is at work is refused BUSY. -/
theorem test_enrol_forget_busy :
    (after (.enrolForget 1 [1]) (sweeping (engineIn .calling))).replies = [⟨0x7F, 1, [0x34, 0x0C]⟩] := by decide +kernel

/-- 7.9: the CALL is acknowledged and the sweep goes on to IDENTIFYING. -/
theorem test_call_end :
    ((after (.callEnd 1 [.ack, .ack, .ack] true) (sweeping (engineIn .calling))).seg 1).engine.state = .identifying := by
  decide +kernel

/-- 7.9, first IDENTIFY: 20h is held and 21h is station 0's, so device Q gets 22h. -/
theorem test_identify_end :
    let s := (sweeping (engineIn .identifying)).putEntry 0 (some (fixedAt 1 0x20))
    let s := s.modSeg 1 fun sg => { sg with config := { sg.config with station0 := ⟨0x21, true, .refuse⟩ } }
    let bytes := deviceQ.identity.toList ++ [deviceQ.cls]
    let check := crc8 ([0xB8, 0xA2, 0xB9] ++ bytes)
    let t := after (.identifyEnd 1 ([.ack, .ack, .ack] ++ bytes.map .byte ++ [.byte check]) true) s
    (t.seg 1).engine.state = .assigning ∧ (t.seg 1).engine.chosen = some 0x22 := by decide +kernel

/-- 7.9: the acknowledged ASSIGN creates the entry. -/
theorem test_assign_end :
    let s := sweeping { engineIn .assigning with chosen := some 0x22 }
    let t := after (.assignEnd 1 (List.replicate 12 .ack) true) s
    t.entryAt 0 = some (enrolledAt 1 0x22 .present) ∧ (t.seg 1).engine.assigned = 1 ∧
      (t.reports.drop 1).map (·.body) = [[0, 1, 0x22, 0x15, 1, 0x30, 0x0F, 0, 0, 0, 0, 1, 2, 7]] := by decide +kernel

/-- R114: the PARK is acknowledged, and the sweep identifies the next contender. -/
theorem test_park_end :
    ((after (.parkEnd 1 (List.replicate 11 .ack) true) (sweeping (engineIn .parking))).seg 1).engine.state = .identifying := by
  decide +kernel

/-- R119: a FORGET makes the entry MISSING and ends FORGOTTEN. -/
theorem test_forget_end :
    let s := sweeping { engineIn .forgetting with current := none } (oneEntry (enrolledAt 1 0x22 .present))
    let t := after (.forgetEnd 1 [.ack, .ack, .ack] true) s
    (t.entryAt 5).map (·.state) = some .missing ∧ (t.seg 1).engine.state = .none ∧
      (t.reports.drop 1).map (·.kind) = [0x88, 0x89] := by decide +kernel

/-- R115: a loss in the first address byte starts the retry wait. -/
theorem test_enrolment_loss :
    ((after (.callEnd 1 [.lostTo 0x50] true) (sweeping (engineIn .calling))).seg 1).engine.retryWait = some 4 := by
  decide +kernel

/-- R115: the end of the retry wait issues the command again. -/
theorem test_retry_wait :
    let s := (sweeping { engineIn .calling with retryWait := some 4, losses := 1 }).modSeg 1 fun sg =>
      { sg with sc := .idle, monitor := .free, handed := none }
    ((after (.retryWaitExpiry 1) s).seg 1).handed = some .enrol := by decide +kernel

/-- Segment A of 8.9, with station 0 enabled at 28h under HOLD. -/
def stationA (f : Segment → Segment) : State :=
  State.reset.modSeg 0 fun sg => f { sg with
    sc := .idle, monitor := .busy, config := { sg.config with station0 := ⟨0x28, true, .hold⟩ } }

/-- 8.9: the read of 28h without a posted reply is held for 20 ms, with its report. -/
theorem test_read_held :
    let t := after (.addressMatch 0 0x51) (stationA id)
    (t.seg 0).service = .holding 0 20 ∧ (t.seg 0).sc = .serving ∧ (t.reports.drop 1).map (·.kind) = [0x83] := by
  decide +kernel

/-- 8.9: POST_REPLY serves the held read; replaced clear, released set. -/
theorem test_post_reply :
    let t := after (.postReply 1 [0, 0, 0, 0x1C, 0x40]) (stationA fun sg => { sg with sc := .serving, service := .holding 0 20 })
    t.replies = [⟨0x78, 1, [0, 2]⟩] ∧ (t.seg 0).service = .reading 0 ⟨[0x1C, 0x40], false⟩ true := by decide +kernel

/-- R134. -/
theorem test_withdraw_reply :
    let s := stationA (·.modStation 0 fun st => { st with posted := some ⟨[1], true⟩ })
    let t := after (.withdrawReply 1 [0, 0]) s
    t.replies = [⟨0x79, 1, [0, 1]⟩] ∧ ((t.seg 0).station 0).posted = none := by decide +kernel

/-- 8.9: the served read removes the ONE_SHOT reply and is reported. -/
theorem test_served_read :
    let s := stationA fun sg => { sg.modStation 0 (fun st => { st with posted := some ⟨[0x1C, 0x40], false⟩ }) with
      sc := .serving, service := .reading 0 ⟨[0x1C, 0x40], false⟩ true }
    let t := after (.servedReadEnd 0 2) s
    ((t.seg 0).station 0).posted = none ∧ (t.reports.drop 1).map (·.body) = [[0, 0, 0x28, 1, 2, 0, 0]] := by decide +kernel

/-- 8.10: the hold timer expires: READ_EXPIRED, and the Broker takes no further part. -/
theorem test_hold_expiry :
    let t := after (.holdTimerExpiry 0) (stationA fun sg => { sg with sc := .serving, service := .holding 0 20 })
    (t.seg 0).service = .passive ∧ (t.reports.drop 1).map (·.body) = [[0, 0, 0x28, 1]] := by decide +kernel

/-- A message with `n` bytes in progress on segment A. -/
def receivingN (n : Nat) : State :=
  stationA fun sg => { sg with sc := .serving, service := .receiving ⟨0, 0x28, List.replicate n 0, false, false, false⟩ }

/-- 10.6, event 5: byte 65 needs a block and the pool is empty, so it is refused. -/
theorem test_inbound_pool_empty :
    ((after (.inboundByte 0 9) { receivingN 64 with poolFree := 0 }).seg 0).service =
      .receiving ⟨0, 0x28, List.replicate 64 0, true, false, false⟩ := by decide +kernel

/-- 8.9: the repeated start completes the message, ENDED_BY_RESTART, with its report. -/
theorem test_message_completes :
    let t := after (.busRepeatedStartSeen 0 0) (receivingN 1)
    (t.seg 0).service = .awaiting ∧ (t.reports.drop 1).map (·.body) = [[0, 0, 0x28, 2, 1, 0]] := by decide +kernel

/-- 8.9: the stop ends SERVING. -/
theorem test_stop_ends_serving :
    let t := after (.busStopSeen 0 0) (stationA fun sg => { sg with sc := .serving, service := .passive })
    (t.seg 0).sc = .idle ∧ (t.seg 0).stopSeen = true := by decide +kernel

/-- Table 4-3: the free time after a stop makes the bus FREE, and a start makes it BUSY. -/
theorem test_monitor :
    ((after (.freeTimeElapsed 0) (stationA fun sg => { sg with stopSeen := true })).seg 0).monitor = .free ∧
    ((after (.busStartSeen 0) (stationA fun sg => { sg with monitor := .free })).seg 0).monitor = .busy := by decide +kernel

/-- 4.11: in STUCK the clock falling with data high turns the monitor BUSY. -/
theorem test_clock_fall :
    ((after (.clockFallDataHigh 0) (stationA fun sg => { sg with monitor := .stuck })).seg 0).monitor = .busy := by
  decide +kernel

/-- R53: 1 ms of high lines makes a bus that is UNKNOWN FREE. -/
theorem test_lines_high :
    ((after (.linesHigh1ms 0 0) (stationA fun sg => { sg with monitor := .unknown })).seg 0).monitor = .free := by
  decide +kernel

/-- 4.11: the data line held low turns the segment RECOVERING, the waiting attempt staying handed. -/
theorem test_stuck_data :
    let t := after (.stuckDetected 1 .data ⟨[], 0⟩) (handedJob .contending (aJob .active))
    (t.seg 1).sc = .recovering ∧ (t.seg 1).handed = some (.job 0) ∧ (t.seg 1).monitor = .stuck := by decide +kernel

/-- 4.11: the stop made at the fourth pulse returns it to CONTENDING. -/
theorem test_recovery :
    let s := (handedJob .recovering (aJob .active)).modSeg 1 fun sg => { sg with monitor := .stuck }
    ((after (.recoveryEnd 1 [.dataLow, .dataLow, .dataLow, .stopMade]) s).seg 1).sc = .contending := by decide +kernel

/-- 4.11: data low at the ninth pulse puts the segment in FAULT and ends the attempt BUS_FAULT, with SEGMENT_FAULT. -/
theorem test_recovery_fails :
    let s := (handedJob .recovering (aJob .active)).modSeg 1 fun sg => { sg with monitor := .stuck }
    let t := after (.recoveryEnd 1 (List.replicate 9 .dataLow)) s
    (t.seg 1).sc = .fault ∧ (t.reports.drop 1).map (fun r => (r.kind, r.body.getD 6 0)) = [(0x81, 7), (0x8B, 0)] := by
  decide +kernel

/-- R51, R77: the end of an attempt after a stretch timeout. -/
theorem test_stretch_timeout :
    let t := after (.stretchTimeout 1 false) (handedJob .controlling (aJob .active))
    (t.seg 1).stretch = some false ∧
    ((after (.jobAttemptEnd 1 [.ack] true) t).jobAt 0).map (fun j => j.outcome.map (·.status)) = some (some .stretchTimeout) := by
  decide +kernel

/-- Segment B watched for notices, its line low, a query running. -/
def queryingB : State := segB fun sg => { sg with
  sc := .controlling, monitor := .busy, handed := some .notice, notice := ⟨.querying, 0, none⟩, noticeLine := true }

/-- R141: a matching query becomes a NOTICE report and the service watches again. -/
theorem test_notice_query :
    let t := after (.noticeQueryEnd 1 [.ack, .byte 0x22, .byte 7, .byte (crc8 [0x33, 0x22, 7])] true) queryingB
    (t.reports.drop 1).map (·.kind) = [0x86] ∧ (t.seg 1).notice.claim = none := by decide +kernel

/-- R140: a line asserted while WATCHING is queried at the choice point; R142: its release is only recorded. -/
theorem test_notice_line :
    let s := segB fun sg => { sg with sc := .idle, monitor := .free, notice := ⟨.watching, 0, none⟩ }
    let t := after (.noticeLineAsserted 1) s
    (t.seg 1).handed = some .notice ∧ ((after (.noticeLineReleased 1) t).seg 1).notice = ⟨.querying, 0, none⟩ := by
  decide +kernel

/-- R157, and R155 on an enabled segment. -/
theorem test_enable_and_configure :
    let t := after (.segmentEnable 1 [1]) State.reset
    (t.seg 1).sc = .idle ∧ (t.seg 1).monitor = .unknown ∧
    (after (.segmentConfigure 2 [1, 1, 0, 1]) { t with replies := [] }).replies = [⟨0x7F, 2, [0x10, 0x0A]⟩] := by
  decide +kernel

/-- 8.9: station 0 of segment A at 28h, enabled, HOLD; the reply carries the whole configuration. -/
theorem test_configure :
    (after (.segmentConfigure 1 [0, 3, 3, 0x28, 4, 1, 5, 1]) State.reset).replies =
      [⟨0x50, 1, [0, 0, 0, 0x19, 4, 0x28, 1, 1, 0x11, 0, 0, 0x14, 0, 0x5C, 0x20, 0x3F, 0, 0x19, 0]⟩] := by decide +kernel

/-- 11.8: the ACTIVE job that waits ends SEGMENT_DISABLED, and one job is answered. -/
theorem test_disable :
    let t := after (.segmentDisable 1 [1, 0] ⟨[], 0⟩) (handedJob .contending (aJob .active))
    t.replies = [⟨0x52, 1, [0, 1]⟩] ∧ (t.seg 1).sc = .disabled ∧ (t.seg 1).monitor = .off ∧ (t.seg 1).handed = none ∧
      (t.jobAt 0).map (fun j => j.outcome.map (·.status)) = some (some .segmentDisabled) := by decide +kernel

/-- R163: a recovery is started from FAULT only. -/
theorem test_segment_recover :
    ((after (.segmentRecover 1 [1]) (segB fun sg => { sg with sc := .fault })).seg 1).sc = .recovering ∧
    (after (.segmentRecover 1 [1]) (segB fun sg => { sg with sc := .idle })).replies = [⟨0x7F, 1, [0x13, 0x0C]⟩] := by
  decide +kernel

/-- Entries `a` to `a + n - 1` of a Report Queue, the first `sent` of them SENT. -/
def queued (a : BitVec 8) (n sent : Nat) : List Report :=
  (List.range n).map fun k => ⟨0x88, a + BitVec.ofNat 8 k, [], .hlc, k < sent⟩

/-- A state with that queue. -/
def withQueue (n sent : Nat) : State := { State.reset with reports := queued 40 n sent, nextSeq := 40 + BitVec.ofNat 8 n }

/-- 12.9, step 4: ACK_REPORTS(42) removes three. -/
theorem test_ack :
    let t := after (.ackReports 0x31 [42]) (withQueue 20 16)
    t.replies = [⟨0x44, 0x31, [0, 3]⟩] ∧ t.reports.length = 17 ∧ t.attn = true := by decide +kernel

/-- 12.9, step 7: 59 is WAITING, so it is refused. -/
theorem test_ack_waiting :
    (after (.ackReports 0x32 [59]) (withQueue 20 16)).replies = [⟨0x7F, 0x32, [0x04, 0x03]⟩] := by decide +kernel

/-- 12.9, step 8: RESEND_REPORTS(43) makes 16 entries WAITING. -/
theorem test_resend :
    let s := { withQueue 20 16 with reports := queued 43 17 16 }
    let t := after (.resendReports 0x33 [43]) s
    t.replies = [⟨0x45, 0x33, [0, 16]⟩] ∧ t.reports.all (fun r => !r.sent) = true := by decide +kernel

/-- R175: SYNC answers the oldest sequence. -/
theorem test_sync : (after (.sync 1 []) (withQueue 20 16)).replies = [⟨0x43, 1, [0, 40]⟩] := by decide +kernel

/-- R177: after reset, 32 slots and 96 blocks free, one report, which is SENT, and every segment DISABLED and OFF. -/
theorem test_status :
    (after (.status 1 []) State.reset).replies = [⟨0x41, 1, [0, 32, 96, 1, 1, 0] ++ List.replicate 24 0⟩] := by decide +kernel

/-- R178: the restart waits for the end of its reply's frame. -/
theorem test_restart :
    let t := after (.restart 1 [1]) { State.reset with htx := none }
    t.htx = some ⟨0x42, 1, [0]⟩ ∧ t.restart = some .warm ∧ (after .restartTaken t).reports.map (·.body) = [[3, 96]] ∧
      (after .htxFrameSent t).htx = some ⟨0x80, 0, [3, 96]⟩ := by decide +kernel

/-- R178: the pin. -/
theorem test_reset_pin :
    (after .rstAssert State.reset).reports = [] ∧ (after .rstAssert State.reset).attn = false ∧
    (after .rstRelease (after .rstAssert State.reset)).htx = some ⟨0x80, 0, [1, 96]⟩ ∧
    (after .powerOn (after .rstAssert State.reset)).htx = some ⟨0x80, 0, [0, 96]⟩ := by decide +kernel

/-- R167: an unknown kind is refused. -/
theorem test_unknown_kind : (after (.unknownKindFrame 0x06 1 []) State.reset).replies = [⟨0x7F, 1, [0x06, 0x02]⟩] := by
  decide +kernel

/-- R165: the STATUS request under tag 1 as bytes on the line is taken; with a bit of its check wrong it is not. -/
theorem test_frame_bytes :
    (after (.hrxGapTimeout (⟨0x01, 1, []⟩ : Frame).bytes ⟨[], 0⟩) State.reset).replies.map (·.kind) = [0x41] ∧
    (after (.frameDiscarded ((⟨0x01, 1, []⟩ : Frame).bytes.set 4 0) false ⟨[], 0⟩) State.reset).replies = [] := by
  decide +kernel

/-- 13.5.1: the JOB_ENDED frame up to its check byte field, 25 bytes in all. -/
theorem test_job_ended_frame :
    let o : JobOutcome := ⟨.ok, 1, [5, 0xC4, 1, 0, 0x9E, 0x20], some 0x77, false, false, false, 1⟩
    let j : Job := { aJob .ended with segment := 0, target := .handle 20, resolved := some 0x2A, outcome := some o }
    let f : Frame := ⟨0x81, 0x2C, jobEndedBody 5 17 j o⟩
    f.bytes.take 23 = [0x5A, 0x15, 0x81, 0x2C, 5, 0x11, 0, 0, 0x14, 0x2A, 0, 8, 1, 1, 0, 6, 0x77, 5, 0xC4, 1, 0, 0x9E, 0x20] ∧
      f.bytes.length = 25 := by decide +kernel

/-- The table gives its rows no bits, so no word spells a command. -/
theorem test_no_word_spells_a_command : decodeTableWord 8 0 = none ∧ decodeTableWord 16 0x5A01 = none := by decide

/-! ### Commands that cannot come from outside -/

/-- A body of 240 bytes fits a frame, and one of 241 does not. -/
theorem test_wf_body : (Instr.append 1 (List.replicate 240 0)).wellFormed = true ∧
    (Instr.append 1 (List.replicate 241 0)).wellFormed = false := by decide +kernel

/-- A request kind is not an unknown kind. -/
theorem test_wf_kind : (Instr.unknownKindFrame 0x06 1 []).wellFormed = true ∧
    (Instr.unknownKindFrame 0x05 1 []).wellFormed = false := by decide +kernel

/-- Nothing follows a refusal, and a loss in the first address byte follows nothing. -/
theorem test_wf_answers : (Instr.jobAttemptEnd 1 [.ack, .byte 3, .nak] true).wellFormed = true ∧
    (Instr.jobAttemptEnd 1 [.nak, .ack] true).wellFormed = false ∧
    (Instr.probeEnd 1 [.ack, .lostTo 3] true).wellFormed = false ∧
    (Instr.callEnd 1 [.lost, .ack] true).wellFormed = false ∧ (Instr.identifyEnd 1 [.byteLost 3, .ack] true).wellFormed = false ∧
    (Instr.noticeQueryEnd 1 [.lostTo 3, .ack] true).wellFormed = false := by decide

/-- The byte received after the boundary of a cancel is a byte. -/
theorem test_wf_cancel : (Instr.cancelAtByteBoundary 1 [.ack] (some (.byte 3)) true).wellFormed = true ∧
    (Instr.cancelAtByteBoundary 1 [.ack] (some .nak) true).wellFormed = false ∧
    (Instr.cancelAtByteBoundary 1 [.nak, .ack] none true).wellFormed = false := by decide

/-- A recovery ends at its stop, at a held clock, or at the ninth pulse. -/
theorem test_wf_recovery : (Instr.recoveryEnd 1 [.dataLow, .stopFailed, .stopMade]).wellFormed = true ∧
    (Instr.recoveryEnd 1 (List.replicate 9 .dataLow)).wellFormed = true ∧
    (Instr.recoveryEnd 1 [.dataLow]).wellFormed = false ∧ (Instr.recoveryEnd 1 [.stopMade, .dataLow]).wellFormed = false ∧
    (Instr.recoveryEnd 1 [.clockHeld, .dataLow]).wellFormed = false ∧
    (Instr.recoveryEnd 1 (List.replicate 10 .dataLow)).wellFormed = false := by decide

/-- What an exchange that was cut off had reached. -/
theorem test_wf_cut : (Instr.segmentDisable 1 [1, 0] ⟨[.ack], 3⟩).wellFormed = true ∧
    (Instr.segmentDisable 1 [1, 0] ⟨[.nak, .ack], 3⟩).wellFormed = false ∧
    (Instr.stuckDetected 1 .data ⟨[.nak, .ack], 3⟩).wellFormed = false ∧
    (Instr.frameDiscarded [] true ⟨[.nak, .ack], 3⟩).wellFormed = false ∧
    (Instr.hrxGapTimeout [] ⟨[.nak, .ack], 3⟩).wellFormed = false := by decide

/-! ### States and operands that meet the hypotheses of the statements -/

theorem witness_StepRunsFrontCommand :
    ({ State.reset with pending := [.htxFrameSent, .powerOn] } : State).pending = .htxFrameSent :: [.powerOn] ∧
      State.reset.pending = [] := by decide +kernel

/-- The state that RST_ASSERT leaves, one in which RST is high, and a command that is neither a reset nor a notice line. -/
theorem witness_PowerOnAndRstResetEverything :
    let s := after .rstAssert State.reset
    let c := Instr.freeTimeElapsed 3
    (s.rstLow = true ∧ s.replies = [] ∧ s.reports = [] ∧ s.htx = none ∧ s.nextSeq = 0 ∧ State.reset.rstLow = false) ∧
    (c ≠ .powerOn ∧ c ≠ .rstAssert ∧ c ≠ .rstRelease ∧
      ∀ g, c ≠ .noticeLineAsserted g ∧ c ≠ .noticeLineReleased g) := by decide +kernel

theorem witness_RestartTakenColdOrWarm :
    let s (m : RestartMode) : State := { State.reset with htx := some ⟨0x42, 1, [0]⟩, restart := some m }
    ((s .cold).rstLow = false ∧ (s .cold).htx = some ⟨0x42, 1, [0]⟩ ∧ (s .cold).restart = some .cold) ∧
      (s .warm).rstLow = false ∧ (s .warm).htx = some ⟨0x42, 1, [0]⟩ ∧ (s .warm).restart = some .warm := by decide +kernel

/-- A state with `n` replies queued. -/
def withReplies (n : Nat) : State := { State.reset with replies := List.replicate n ⟨0x41, 1, [0]⟩ }

/-- Each line of Table 12-1: no frame before a restart, a full reply queue and one with 7 replies, a cached tag, tag 0, an
unknown kind (`witness_takes` has the state that takes it), and a body that is one byte too long. -/
theorem witness_RequestsStoppedBeforeExecution :
    requestOf (.status 1 []) = some (0x01, 1, true) ∧ State.reset.rstLow = false ∧ State.reset.restart = none ∧
    ({ State.reset with restart := some .warm } : State).restart.isSome ∧
    8 ≤ (withReplies 8).replies.length ∧ (withReplies 7).replies.length < 8 ∧
    ({ State.reset with cache := [⟨1, ⟨0x41, 1, [0]⟩⟩] } : State).cached 1 = some ⟨0x41, 1, [0]⟩ ∧
    State.reset.cached 1 = none ∧ State.reset.cached 0 = none ∧ requestOf (.status 0 []) = some (0x01, 0, true) ∧
    requestOf (.unknownKindFrame 0x06 1 []) = some (0x06, 1, true) ∧ (0x06 : Byte) ∉ requestKinds ∧
    (0x01 : Byte) ∈ requestKinds ∧ requestOf (.status 1 [0]) = some (0x01, 1, false) := by decide +kernel

/-- A busy transmitter; an idle one with a reply; and with the window at 15 SENT, at 16, and with nothing WAITING. -/
theorem witness_TransmitterTakesRepliesFirst :
    State.reset.rstLow = false ∧ State.reset.restart = none ∧ State.reset.htx = some (startedFrame 0) ∧
    ({ withReplies 1 with htx := none } : State).replies = ⟨0x41, 1, [0]⟩ :: [] ∧
    (∀ n ∈ [15, 16],
      let s : State := { withQueue 20 n with htx := none }
      s.htx = none ∧ s.replies = [] ∧
      s.reports = s.reports.take n ++ ⟨0x88, 40 + BitVec.ofNat 8 n, [], .hlc, false⟩ :: s.reports.drop (n + 1) ∧
      (∀ x ∈ s.reports.take n, x.sent = true) ∧ s.sentCount = n) ∧
    (∀ x ∈ State.reset.reports, x.sent = true) ∧
    (let s : State := { withReplies 1 with restart := some .warm, htx := some ⟨0x41, 1, [0]⟩ }
     s.rstLow = false ∧ s.restart ≠ none ∧ ∀ f ∈ s.htx, f.kind ≠ 0x42) := by decide +kernel

/-- R178: with a restart on its way the reply to RESTART follows the reply before it. -/
theorem test_replies_before_restart :
    let s : State := { State.reset with
      restart := some .warm, htx := some ⟨0x41, 1, [0]⟩, replies := [⟨0x42, 2, [0]⟩], reports := [] }
    (after .htxFrameSent s).htx = some ⟨0x42, 2, [0]⟩ := by decide +kernel

/-- The longest body; the lengths 1, 2, 242 and 243; a frame of length 2 whose check is one byte short, and whole. -/
theorem witness_ReceiverReadsWhatFramesWrite :
    (⟨0x21, 1, List.replicate 240 0⟩ : Frame).body.length ≤ 240 ∧ (1 : Byte).toNat < 2 ∧ 242 < (243 : Byte).toNat ∧
    2 ≤ (2 : Byte).toNat ∧ (242 : Byte).toNat ≤ 242 ∧ [(1 : Byte), 1, 0].length < (2 : Byte).toNat + 2 ∧
    (2 : Byte).toNat = ([] : List Byte).length + 2 ∧ [(1 : Byte), 1, 0, 0] = 1 :: 1 :: [] ++ 0 :: 0 :: [] := by decide +kernel

theorem witness_GoodFrameRunsItsCommand :
    (⟨0x21, 1, List.replicate 240 0⟩ : Frame).body.length ≤ 240 ∧ State.reset.rstLow = false ∧ State.reset.restart = none ∧
      State.reset.rx = none := by decide +kernel

/-- A frame in progress that a gap or a low stop bit cuts short, and one whose length byte is 1, each with a further 5Ah
among its bytes and without; a whole frame; a hunting receiver, with a 5Ah after another byte and with none; and a restart
on its way. -/
theorem witness_DiscardedFrameLeavesNoTrace :
    let s : State := { State.reset with rx := some [2] }
    let status : Frame := ⟨0x01, 1, []⟩
    (s.rstLow = false ∧ s.restart = none ∧ s.rx = some [2] ∧ State.reset.rx = none ∧
      ({ s with restart := some .warm } : State).restart.isSome = true) ∧
    (∀ f rest, frameIn ([2] ++ [1]) ≠ .good f rest) ∧ (∀ f rest, frameIn ([2] ++ [1, 0x5A]) ≠ .good f rest) ∧
    ((0x5A : Byte) ∉ [2] ++ [1] ∧ frameIn ([2] ++ [1]) = .incomplete ∧
      [2] ++ [1, 0x5A] = [2, 1] ++ 0x5A :: ([] : List Byte) ∧ (0x5A : Byte) ∉ [(2 : Byte), 1]) ∧
    ((0x5A : Byte) ∉ ([] : List Byte) ++ [1] ∧ frameIn ([] ++ [1]) = .bad ∧ frameIn ([] ++ [1, 0x5A]) = .bad) ∧
    (frameIn ([2] ++ status.bytes.drop 2) = .good status [] ∧
      [(7 : Byte), 0x5A, 2] = [7] ++ 0x5A :: [2] ∧ (0x5A : Byte) ∉ [(7 : Byte)]) := by
  refine ⟨⟨rfl, rfl, rfl, rfl, rfl⟩, fun f rest h => ?_, fun f rest h => ?_, by decide, by decide, by decide +kernel⟩
  · have : frameIn ([2] ++ [1]) = .incomplete := by decide
    rw [this] at h
    cases h
  · have : frameIn ([2] ++ [1, 0x5A]) = .incomplete := by decide
    rw [this] at h
    cases h

/-- R166: a STATUS frame whose lead stands in a frame that a gap discards is taken when the bytes are scanned again. -/
theorem test_discarded_frame_scanned_again :
    let s : State := { State.reset with rx := some [9, 0x21] }
    (after (.hrxGapTimeout (⟨0x01, 1, []⟩ : Frame).bytes ⟨[], 0⟩) s).replies.map (fun f => (f.kind, f.tag)) = [(0x41, 1)] := by
  decide +kernel

/-- A state that takes requests under tag 1, the premise of every statement about a request. -/
theorem witness_takes : Takes State.reset 1 := takes_when_quiet rfl

theorem witness_StatusReportsTheBroker : Takes (withQueue 20 16) 1 := takes_when_quiet rfl

/-- The modes 2, 0 and 1. -/
theorem witness_RestartWaitsForItsReply : Takes State.reset 1 ∧ 2 ≤ (2 : Byte).toNat ∧ 2 ≤ (0xFF : Byte).toNat :=
  ⟨takes_when_quiet rfl, by decide, by decide⟩

theorem witness_SyncMakesEveryReportWaiting : Takes (withQueue 20 16) 1 := takes_when_quiet rfl

/-- 12.9: the sequences 42, the last SENT one, 55, and the first WAITING one, 56. -/
theorem witness_AckRemovesUpToTheNamedReport :
    Takes (withQueue 20 16) 1 ∧
    (∀ k ∈ [2, 15], (withQueue 20 16).reports =
        (queued 40 20 16).take k ++ ⟨0x88, 40 + BitVec.ofNat 8 k, [], .hlc, true⟩ :: (queued 40 20 16).drop (k + 1) ∧
      ∀ x ∈ (queued 40 20 16).take k, x.seq ≠ 40 + BitVec.ofNat 8 k) ∧
    (∀ r ∈ (withQueue 20 16).reports, r.seq = 56 → r.sent = false) :=
  ⟨takes_when_quiet rfl, by decide +kernel, by decide +kernel⟩

theorem witness_ResendMakesLaterReportsWaiting :
    Takes (withQueue 20 16) 1 ∧
    (∀ k ∈ [2, 15], (withQueue 20 16).reports =
        (queued 40 20 16).take k ++ ⟨0x88, 40 + BitVec.ofNat 8 k, [], .hlc, true⟩ :: (queued 40 20 16).drop (k + 1) ∧
      ∀ x ∈ (queued 40 20 16).take k, x.seq ≠ 40 + BitVec.ofNat 8 k) ∧
    (∀ r ∈ (withQueue 20 16).reports, r.seq = 56 → r.sent = false) :=
  ⟨takes_when_quiet rfl, by decide +kernel, by decide +kernel⟩

/-- The reports of an ended job, of a message, and of the restart. -/
theorem witness_AcknowledgementFreesSlotAndMessage :
    let job : Report := ⟨0x81, 1, [], .jobEnded 0, true⟩
    let mail : Report := ⟨0x82, 1, [], .inbound 0 2, true⟩
    let m : Message := ⟨2, 0, List.replicate 33 0, false, false, true⟩
    job.owner = .jobEnded 0 ∧ (withJob (aJob .ended)).jobAt 0 = some (aJob .ended) ∧ (aJob .ended).state = .ended ∧
    mail.owner = .inbound 0 2 ∧ ((stationA (·.modInbound 2 fun _ => [m])).seg 0).inboundAt 2 = m :: [] ∧
    (∀ r ∈ State.reset.reports, (∀ i, r.owner ≠ .jobEnded i) ∧ ∀ g k, r.owner ≠ .inbound g k) := by decide +kernel

/-- A queue of 63 reports, which has room, and one of 64; two claims that wait, and one that does not; a claimant of each
kind; and a roster entry without a waiting claim, one with a claim and a change count of 254, and a free handle. -/
theorem witness_ClaimEntersQueueOrWaits :
    let o : JobOutcome := ⟨.ok, 2, [5], some 0, true, false, false, 1⟩
    let m (reported : Bool) : Message := ⟨0, 0x28, [1], false, true, reported⟩
    let s : State := { withQueue 63 0 with claims := [.station 0 1 .served, .notice 1] }
    let held := stationA fun sg => { sg with sc := .serving, service := .holding 0 20 }
    let noticed (c : NoticeClaim) (st : NoticeState) (low : Bool) := segB fun sg =>
      { sg with notice := ⟨st, 0, some c⟩, noticeLine := low }
    let claimed := segB fun sg => { sg with
      sweepClaim := some ⟨.complete, 3, 255⟩, conflictClaim := some ⟨deviceQ, 5, 2, 255⟩, faultClaim := some ⟨true, none, 0, 1⟩ }
    ((withQueue 63 0).claims = [] ∧ (withQueue 63 0).reports.length < 64 ∧
      formReport (withQueue 63 0) (.station 0 1 .served) = some (0x84, [0, 1, 0x11, 0, 0, 0, 0]) ∧
      64 ≤ (withQueue 64 0).reports.length ∧
      s.reports.length < 64 ∧ s.claims = .station 0 1 .served :: [.notice 1]) ∧
    (((withJob { aJob .ended with outcome := some o }).jobAt 0).map (·.outcome) = some (some o) ∧
      ((stationA (·.modInbound 0 fun _ => [m true, m false])).seg 0).inboundAt 0 = [m true] ++ m false :: [] ∧
      (held.seg 0).service = .holding 0 20 ∧ (oneEntry (enrolledAt 1 0x22 .missing)).entryAt 5 = some (enrolledAt 1 0x22 .missing)) ∧
    (∀ c ∈ [NoticeClaim.notice 0x22 7 none 1, .unclaimed true false],
      ∀ st ∈ [NoticeState.off, .watching, .querying, .paused], ∀ low : Bool,
        ((noticed c st low).seg 1).notice = ⟨st, 0, some c⟩ ∧ ((noticed c st low).seg 1).noticeLine = low) ∧
    ((claimed.seg 1).sweepClaim = some ⟨.complete, 3, 255⟩ ∧ (claimed.seg 1).conflictClaim = some ⟨deviceQ, 5, 2, 255⟩ ∧
      (claimed.seg 1).faultClaim = some ⟨true, none, 0, 1⟩) ∧
    (.notice 1 ∈ s.claims ∧ .notice 2 ∉ s.claims ∧ State.reset.entryAt 5 = none ∧
      (enrolledAt 1 0x22 .missing).claimWaiting = false ∧
      let e := { enrolledAt 1 0x22 .missing with claimWaiting := true, changes := 254 }
      (oneEntry e).entryAt 5 = some e ∧ e.claimWaiting = true) := by decide +kernel

/-- A state with a STATUS request at the front of its queue. -/
def withStatus (s : State) : State := { s with pending := [.status 1 []] }

theorem witness_StepKeepsHostLinkLaws :
    HostLinkOk (withStatus (withQueue 20 16)) ∧ ∃ t, step (withStatus (withQueue 20 16)) = .next t :=
  ⟨⟨by decide, by decide, by decide, by decide, by decide +kernel, by decide +kernel, by decide +kernel, by decide +kernel,
    by decide, by decide, by decide⟩, _, rfl⟩

/-! ### Jobs -/

/-- A SUBMIT body: target form and byte, predecessor bytes, one WRITE step of two bytes. -/
def submitBody (form target : Byte) (predecessor : List Byte) : List Byte :=
  [form, target, 1, 0, 0xFF, 0, 0, 0] ++ predecessor ++ [1, 0, 2, 7, 8]

/-- The fields that such a body gives. -/
def submitReq (target : SubmitTarget) (predecessor : Option JobId) : SubmitReq :=
  ⟨target, .urgent, 3, none, false, predecessor, [.write 2], [7, 8]⟩

/-- Bodies of exactly 12 + 2k bytes, with step count 1 and 6, and one of 12 bytes with step count 7; and one whose fields
all lie in range, which the model reads. -/
theorem witness_SubmitFieldsOutOfRange :
    Takes State.reset 1 ∧ submitSize ((submitBody 1 0x3A [0, 0, 0]).take 14) = true ∧
    submitSize ([1, 0x3A, 1, 0, 0xFF, 0, 0, 0, 0, 0, 0, 6] ++ List.replicate 12 0) = true ∧
    submitSize [1, 0x3A, 1, 0, 0xFF, 0, 0, 0, 0, 0, 0, 7] = true ∧
    submitReqOf (submitBody 1 0x3A [0, 0, 0]) = some (submitReq (.raw 1 0x3A) none) :=
  ⟨takes_when_quiet rfl, by decide +kernel⟩

/-- A step count of 0, handles 64 and 63, the raw addresses 07h, 78h and the reserved 5Ch, a stale predecessor, one that
ended not OK, a full Job Table, and a free count of 8 for one block. -/
theorem witness_SubmitRefusedByFirstFailingCheck :
    let s := State.reset
    let notOk := withJob { aJob .ended with outcome := some ⟨.cancelled, 0, [], none, false, false, false, 0⟩ }
    let full : State := { State.reset with slots := Vector.replicate 32 ⟨1, some (aJob .ended)⟩ }
    (Takes s 1 ∧ Takes notOk 1 ∧ Takes full 1 ∧ Takes { s with poolFree := 8 } 1) ∧
    (submitSize (submitBody 1 0x3A [0, 0, 0]) = true ∧
      submitReqOf [1, 0x3A, 1, 0, 0xFF, 0, 0, 0, 0, 0, 0, 0] = none ∧
      submitReqOf (submitBody 0 64 [0, 0, 0]) = some (submitReq (.handle 64) none) ∧ 64 ≤ (64 : Byte).toNat ∧
      submitReqOf (submitBody 0 63 [0, 0, 0]) = some (submitReq (.handle 63) none) ∧ s.entryAt 63 = none) ∧
    (submitReqOf (submitBody 1 0x07 [0, 0, 0]) = some (submitReq (.raw 1 0x07) none) ∧ (0x07 : Byte).toNat < 0x08 ∧
      submitReqOf (submitBody 1 0x78 [0, 0, 0]) = some (submitReq (.raw 1 0x78) none) ∧ 0x77 < (0x78 : Byte).toNat ∧
      (0x5C : Byte).setWidth 7 ∈ (s.seg 1).config.reserved) ∧
    (s.checkTarget (.raw 1 0x77) = .good (.raw 0x77) 1 ∧ s.staleId ⟨31, 0⟩ = true ∧
      submitReqOf (submitBody 1 0x3A [1, 31, 0]) = some (submitReq (.raw 1 0x3A) (some ⟨31, 0⟩)) ∧
      notOk.staleId ⟨0, 0⟩ = false ∧ notOk.endedNotOk ⟨0, 0⟩ = true ∧ s.checkPredecessor none = none ∧
      (∀ i, full.jobAt i ≠ none) ∧ (submitReq (.raw 1 0x3A) none).blocks = 1 ∧ s.jobAt 0 = none) := by
  refine ⟨⟨takes_when_quiet rfl, takes_when_quiet rfl, takes_when_quiet rfl, takes_when_quiet rfl⟩, ?_, ?_, ?_⟩ <;>
    decide +kernel

/-- One block, with a free count of 9; and for the checks an entry, the raw addresses 00h, 08h and 77h, and a predecessor
that lives and one that ended OK. -/
theorem witness_SubmitAcceptedTakesSlotAndBlocks :
    let s : State := { withJob (aJob .active) with poolFree := 9 }
    let o : JobOutcome := ⟨.ok, 2, [], none, false, false, false, 1⟩
    let ended : Job := { aJob .ended with outcome := some o }
    Takes s 1 ∧
    ((oneEntry (fixedAt 2 0x48)).entryAt 5 = some (fixedAt 2 0x48) ∧
      (∀ a ∈ [(0 : Addr), 0x08, 0x77], a ∉ (State.reset.seg 1).config.reserved) ∧
      (s.genAt 0 = 0 ∧ s.jobAt 0 = some (aJob .active) ∧ (aJob .active).outcome = none) ∧
      (withJob ended).genAt 0 = 0 ∧ (withJob ended).jobAt 0 = some ended ∧ o.status = .ok) ∧
    submitSize (submitBody 1 0x3A [0, 0, 0]) = true ∧
      submitReqOf (submitBody 1 0x3A [0, 0, 0]) = some (submitReq (.raw 1 0x3A) none) ∧
      s.checkTarget (.raw 1 0x3A) = .good (.raw 0x3A) 1 ∧ s.checkPredecessor none = none ∧ s.jobAt 1 = none ∧
      (∀ k : Slot, k < 1 → s.jobAt k ≠ none) ∧ (submitReq (.raw 1 0x3A) none).blocks + 8 ≤ s.poolFree :=
  ⟨takes_when_quiet rfl, by decide +kernel⟩

/-- Slot 0 with the job that is placed, slot 1 with one that lives. -/
def placing (p : Predecessor) : State :=
  (withJob { aJob .staging with predecessor := p, stagingTimer := some 1000 }).putJob 1 (some (aJob .active))

theorem witness_PlacementByPredecessor :
    (∀ p ∈ [Predecessor.absent, .job ⟨2, 0⟩, .job ⟨1, 0⟩, .failed],
      (placing p).jobAt 0 = some { aJob .staging with predecessor := p, stagingTimer := some 1000 }) ∧
    (aJob .staging).staged = (aJob .staging).writeTotal ∧
    ({ aJob .staging with staged := 1 } : Job).staged ≠ (aJob .staging).writeTotal ∧
    ((placing (.job ⟨2, 0⟩)).liveId ⟨2, 0⟩ = false ∧ (placing (.job ⟨2, 0⟩)).endedNotOk ⟨2, 0⟩ = false) ∧
    (placing (.job ⟨1, 0⟩)).liveId ⟨1, 0⟩ = true := by decide +kernel

/-- Slots 32 and 31, a wrong generation, a job that is not STAGING, and one byte too many and just enough. -/
theorem witness_AppendStagesBytes :
    let j : Job := { aJob .staging with staged := 1, writeData := [7], stagingTimer := some 1000 }
    Takes (withJob j) 1 ∧ 32 ≤ (32 : Byte).toNat ∧ (31 : Byte).toNat = (31 : Slot).val ∧ (withJob j).jobAt 31 = none ∧
    (withJob j).genAt 0 ≠ 1 ∧ (withJob j).genAt 0 = 0 ∧ (withJob j).jobAt 0 = some j ∧ (aJob .held).state ≠ .staging ∧
    j.state = .staging ∧ j.writeTotal < j.staged + [(8 : Byte), 9].length ∧ j.staged + [(8 : Byte)].length ≤ j.writeTotal :=
  ⟨takes_when_quiet rfl, by decide +kernel⟩

theorem witness_CancelEndsOrMarksTheJob :
    (∀ sc ∈ [ScState.controlling, .contending, .serving, .recovering],
      let s := handedJob sc (aJob .active)
      (s.rstLow, s.restart, s.replies, s.cache) = (false, none, [], []) ∧ s.genAt 0 = 0 ∧
      s.jobAt 0 = some (aJob .active) ∧ (s.seg (aJob .active).segment).handed = some (.job 0) ∧ (s.seg 1).sc = sc) ∧
    (∀ st ∈ [JobState.ended, .queued, .active],
      (withJob (aJob st)).jobAt 0 = some (aJob st) ∧ ((withJob (aJob st)).seg (aJob st).segment).handed ≠ some (.job 0)) ∧
    32 ≤ (32 : Byte).toNat ∧ (31 : Byte).toNat = (31 : Slot).val ∧ State.reset.jobAt 31 = none := by decide +kernel

theorem witness_QueryJobReadsTheRecord :
    let o : JobOutcome := ⟨.ok, 2, [], none, false, false, false, 1⟩
    (Takes (twoQueued 0) 1 ∧ Takes (withJob { aJob .ended with outcome := some o }) 1) ∧
    ((twoQueued 0).genAt 0 = 0 ∧ (twoQueued 0).jobAt 0 = some (aJob .queued) ∧
      ((twoQueued 0).seg (aJob .queued).segment).classList (aJob .queued).cls = [] ++ 0 :: [] ∧
      (withJob { aJob .ended with outcome := some o }).jobAt 0 = some { aJob .ended with outcome := some o } ∧
      32 ≤ (32 : Byte).toNat ∧ (31 : Byte).toNat = (31 : Slot).val ∧ State.reset.jobAt 31 = none) :=
  ⟨⟨takes_when_quiet rfl, takes_when_quiet rfl⟩, by decide +kernel⟩

theorem witness_JobTimersEndJobs :
    let staging : Job := { aJob .staging with stagingTimer := some 1000 }
    let timed (st : JobState) : Job := { aJob st with deadlineTimer := some 5 }
    ((withJob staging).rstLow = false ∧ (withJob staging).jobAt 0 = some staging ∧ staging.stagingTimer.isSome) ∧
    ((withJob (timed .backoff)).rstLow = false ∧ (withJob (timed .backoff)).jobAt 0 = some (timed .backoff) ∧
      (timed .backoff).deadlineTimer.isSome ∧ (timed .backoff).state ≠ .active) ∧
    (∀ sc ∈ [ScState.controlling, .contending, .serving, .recovering],
      let s := handedJob sc (timed .active)
      s.rstLow = false ∧ s.jobAt 0 = some (timed .active) ∧ (s.seg (timed .active).segment).handed = some (.job 0) ∧
      (s.seg 1).sc = sc) := by decide +kernel

/-- A job in each place, with 63 reports in the queue and with 64; and a QUEUED one between two others of its list, with a
ROUTINE list that is empty and one that is not. -/
theorem witness_JobEndFillsOutcomeAndLeavesItsPlace :
    (∀ routine ∈ [[], [(3 : Slot)]],
      let s := (withJob (aJob .queued)).modSeg 1 fun sg => { sg with urgent := [1, 0, 2], routine := routine }
      (s.seg (aJob .queued).segment).classList (aJob .queued).cls = [1] ++ 0 :: [2] ∧ (0 : Slot) ∉ [(1 : Slot)] ∧
      (0 : Slot) ∉ [(2 : Slot)] ∧ (s.seg 1).routine = routine) ∧
    (∀ st ∈ [JobState.staging, .held, .queued, .active, .backoff],
      (withJob (aJob st)).jobAt 0 = some (aJob st) ∧ (aJob st).state = st ∧ (aJob st).state ≠ .ended) ∧
    (∀ n ∈ [63, 64],
      let s : State := { withJob (aJob .queued) with reports := queued 40 n 0 }
      s.jobAt 0 = some (aJob .queued) ∧ s.claims = [] ∧ s.reports.length = n) := by decide +kernel

/-- R29, R37: the end of a job in BACKOFF is a choice-point event of its segment, and that of a QUEUED one is none. -/
theorem test_backoff_end_is_event :
    ((withJob (aJob .backoff)).endOne 0 .cancelled .nothing).choiceDue = [1] ∧
    ((withJob (aJob .queued)).endOne 0 .cancelled .nothing).choiceDue = [] := by decide +kernel

/-- Slot 0 with a QUEUED job, and slot 1 HELD under it; a CANCEL of slot 0 waits. -/
def chain : State :=
  { ((withJob (aJob .queued)).putJob 1 (some { aJob .held with predecessor := .job ⟨0, 0⟩ })).modSeg 1 fun sg =>
      { sg with urgent := [0] } with
    accepted := [0, 1], heldSet := [⟨1, ⟨0, 0⟩⟩], pending := [.cancel 1 [0, 0]] }

/-- A job with a property, in a form that Lean decides. -/
theorem exists_job {o : Option Job} {p : Job → Prop} [DecidablePred p] :
    (∃ j, o = some j ∧ p j) ↔ o.any (fun j => decide (p j)) = true := by
  cases o <;> simp

theorem chain_places : PlacesOk chain where
  accepted := by decide +kernel
  jobs := by
    intro i j h
    have hall : ∀ i, (chain.jobAt i).all
        (fun j => j == aJob .queued || j == { aJob .held with predecessor := .job ⟨0, 0⟩ }) = true := by decide +kernel
    have := hall i
    simp only [h, Option.all_some, Bool.or_eq_true, beq_iff_eq] at this
    obtain rfl | rfl := this <;> exact ⟨by decide, by decide, by decide, by decide, by decide⟩
  lists := by intro g c; revert g; cases c <;> simp only [exists_job] <;> decide +kernel
  held := by simp only [exists_job]; decide +kernel
  heldFor := by
    have hall : ∀ e ∈ chain.heldSet, (chain.jobAt e.slot).all (fun j => j.predecessor == .job e.predecessor) = true := by
      decide +kernel
    intro e he j hj
    simpa [hj] using hall e he
  chain := by
    have hall : ∀ k, (chain.jobAt k).all (fun j => decide (j.state = .held ∨ j.state = .staging →
        k = 1 ∧ j.predecessor = .job ⟨0, 0⟩)) = true := by decide +kernel
    intro k j id h hs hp
    have := hall k
    simp only [h, Option.all_some, decide_eq_true_eq] at this
    obtain ⟨rfl, he⟩ := this hs
    obtain rfl : id = ⟨0, 0⟩ := by simpa [hp] using he
    decide +kernel
  current := by simp only [exists_job]; decide +kernel
  handed := by simp only [exists_job]; decide +kernel

/-- A job with a dependent that waits on it; and the queue with 64 reports, and with room for both claims. -/
theorem witness_EndLeavesNoHeldDependentBehind :
    PlacesOk chain ∧ chain.jobAt 0 = some (aJob .queued) ∧ (aJob .queued).state ≠ .ended ∧
    chain.accepted.filter (chain.waitsOn · (chain.idAt 0)) = [1] ∧ DependsOn chain (chain.idAt 0) 1 ∧
    chain.claims = [] ∧ chain.reports.length + 1 < 64 ∧ 64 ≤ ({ chain with reports := queued 40 64 0 } : State).reports.length :=
  ⟨chain_places, by decide +kernel, by decide, by decide +kernel, .direct 1 (by decide +kernel), by decide +kernel,
    by decide +kernel, by decide +kernel⟩

theorem witness_StepKeepsJobPlaces : PlacesOk chain ∧ ∃ t, step chain = .next t := ⟨chain_places, _, rfl⟩

theorem witness_StepKeepsPoolTotal :
    let s := withStatus ({ withJob (aJob .ended) with poolFree := 95 })
    PoolOk s ∧ ∃ t, step s = .next t :=
  ⟨⟨by decide +kernel, by decide +kernel⟩, _, rfl⟩

/-! ### Dispatch and transactions -/

/-- Segment B IDLE on a FREE bus. -/
def idleB (f : Segment → Segment) (s : State := State.reset) : State :=
  s.modSeg 1 fun sg => f { sg with sc := .idle, monitor := .free }

/-- A state for each level of Table 3-1, level 4 at fairness counts 3 and 4 and with an empty list, level 5 with an entry
whose probe is due and with none, and a segment whose job in BACKOFF lets nothing be taken. -/
theorem witness_ChoiceTakesFirstLevel :
    let resumed := (withJob (aJob .backoff)).modSeg 1 fun sg => { sg with current := some 0, backoffExpired := true }
    let noticed := idleB fun sg => { sg with notice := ⟨.watching, 0, none⟩, noticeLine := true }
    let enrols := idleB fun sg => { sg with engine := { Engine.reset with state := .pending, work := some .sweep } }
    let due := (oneEntry { fixedAt 1 0x48 with probeDue := true }).modSeg 1 fun sg => { sg with sc := .idle }
    let waits := (twoQueued 0).modSeg 1 fun sg => { sg with current := some 2 }
    (∀ s ∈ [resumed, noticed, enrols, twoQueued 3, twoQueued 4, due, idleB id, waits],
      (s.seg 1).sc = .idle ∧ (s.seg 1).handed = none) ∧
    ((resumed.seg 1).current = some 0 ∧ (resumed.seg 1).backoffExpired = true ∧ resumed.jobAt 0 = some (aJob .backoff)) ∧
    ((noticed.seg 1).current = none ∧ (noticed.seg 1).notice = ⟨.watching, 0, none⟩ ∧ (noticed.seg 1).noticeLine = true) ∧
    ((enrols.seg 1).engine.state = .pending ∧ (enrols.seg 1).engine.retryWait = none ∧ (enrols.seg 1).current = none ∧
      (enrols.seg 1).notice.state = .off) ∧
    (∀ n ∈ [3, 4], ((twoQueued n).seg 1).urgent = 0 :: [] ∧ ((twoQueued n).seg 1).routine = 1 :: [] ∧
      ((twoQueued n).seg 1).fairness = n ∧ ((twoQueued n).seg 1).current = none ∧
      ((twoQueued n).seg 1).engine.state = .none ∧ ((twoQueued n).seg 1).notice.state = .off) ∧
    (due.entryAt 5 = some { fixedAt 1 0x48 with probeDue := true } ∧ (∀ k : Handle, k < 5 → due.entryAt k = none) ∧
      (due.seg 1).current = none ∧ (due.seg 1).urgent = [] ∧ (due.seg 1).routine = []) ∧
    (∀ h, (idleB id).entryAt h = none) ∧ (waits.seg 1).current ≠ none ∧ (waits.seg 1).backoffExpired = false := by
  decide +kernel

/-- Segments that are due and not ready, and two that are due of which the first is ready. -/
theorem witness_NoChoiceWithoutReadySegment :
    let s : State := { handedJob .controlling (aJob .active) with choiceDue := [1, 0] }
    let ready : State := { chain with choiceDue := [1, 0] }
    (s.choiceDue.length ≤ choiceLimit ∧ ∀ g ∈ s.choiceDue, (s.seg g).sc ≠ .idle ∨ (s.seg g).handed ≠ none) ∧
    PlacesOk ready ∧ ready.choiceDue.Nodup ∧ ready.choiceDue = 1 :: [0] ∧ (ready.seg 1).sc = .idle ∧
      (ready.seg 1).handed = none :=
  ⟨by decide +kernel, ⟨chain_places.accepted, chain_places.jobs, chain_places.lists, chain_places.held, chain_places.heldFor,
    chain_places.chain, chain_places.current, chain_places.handed⟩, by decide +kernel⟩

/-- A raw target; and a handle target whose entry is gone, MISSING, on another segment, and in its place. -/
theorem witness_AttemptResolvedBeforeTheBus :
    let j : Job := { aJob .active with target := .handle 5 }
    let at5 (e : Entry) : State := (oneEntry e).putJob 0 (some j)
    (withJob (aJob .active)).jobAt 0 = some (aJob .active) ∧ (aJob .active).target = .raw 0x3A ∧
    (withJob j).jobAt 0 = some j ∧ j.target = .handle 5 ∧ (withJob j).entryAt 5 = none ∧ j.removalPending = false ∧
    (∀ e ∈ [enrolledAt 1 0x22 .missing, enrolledAt 2 0x22 .present, enrolledAt 1 0x22 .present],
      (at5 e).jobAt 0 = some j ∧ (at5 e).entryAt 5 = some e) := by decide +kernel

theorem witness_HandedActivityStartsWhenFree :
    ((idleB id).seg 1).monitor = .free ∧ ((idleB fun sg => { sg with monitor := .busy }).seg 1).monitor ≠ .free := by
  decide +kernel

theorem witness_SegmentTimersMakeChoicePoints :
    let s := idleB fun sg => { sg with backoffTimer := some 4, rollTimer := some 1, engine := { sg.engine with retryWait := some 4 } }
    s.rstLow = false ∧ (s.seg 1).backoffTimer.isSome ∧ (s.seg 1).rollTimer.isSome ∧ (s.seg 1).engine.retryWait.isSome := by
  decide +kernel

theorem witness_StepKeepsSegmentsConsistent :
    let s : State := { handedJob .controlling (aJob .active) with pending := [.jobAttemptEnd 1 [.nak] true] }
    SegmentsOk s ∧ ∃ t, step s = .next t := by
  refine ⟨fun g => ?_, _, rfl⟩
  constructor <;> revert g <;> decide +kernel

/-- Empty write parts, a read of one byte, and a counted read whose count is its largest, 254 bytes, or 0; a job at an
address with a step of each kind, a second WRITE among them; and the five enrolment commands. -/
theorem witness_WellAnsweredTransactionFinishes :
    (let j : Job := { aJob .active with resolved := some 0x3A, steps := [.write 1, .read 2, .countedRead 3, .write 1] }
     j.resolved = some 0x3A ∧ j.steps[0]? = some (.write 1) ∧ j.steps[1]? = some (.read 2) ∧
      j.steps[2]? = some (.countedRead 3) ∧ j.steps[3]? = some (.write 1)) ∧
    (∀ st ∈ [SweepState.calling, .identifying, .assigning, .parking, .forgetting],
      (engineIn st).state = st ∧ (engineIn st).current = some deviceQ ∧
        ({ engineIn st with chosen := some 0x77 } : Engine).chosen = some 0x77) ∧
    (∀ l ∈ [Leg.wrote []] ++ [.gave [0]], l.fits = true) ∧ (Leg.gave [0]).part.isRead = true ∧
    (∀ l ∈ [Leg.counted 254 (List.replicate 254 0)] ++ [.counted 0 []], l.fits = true) ∧
    (∀ l ∈ ([] : List Leg) ++ [.wrote [1, 2]], l.fits = true) ∧ (Leg.wrote [1, 2]).part.isRead = false := by decide +kernel

/-- A refusal in the first part's address byte, in a later one's, and in the last and the first of two write bytes; a loss
to a lower first address byte; read parts of the bytes that pass, to their last byte and before it; a count byte above max,
0 and within max; a last read part and a last write part with check on; a winner that is not lower; and a check byte of
its own that is 00h. -/
theorem witness_RefusedByteEndsTransaction :
    (∀ l ∈ ([] : List Leg), l.fits = true) ∧ (∀ l ∈ [Leg.wrote [1], .gave [2]], l.fits = true) ∧
      Part.write [1, 2] = .write ([1] ++ 2 :: []) ∧ Part.write [1, 2] = .write ([] ++ 1 :: [2]) ∧
      (0x74 : Byte).toNat < (addressByte 0x3A (Part.read 2).isRead).toNat ∧
      Part.write [0, 1] = .write ([] ++ 0 :: [1]) ∧ [(9 : Byte)].length < 2 ∧ [(9 : Byte)].length + 1 = 2 ∧
      ([] : List Byte).length + 1 ≠ 2 ∧ 3 < (4 : Byte).toNat ∧ (3 : Byte).toNat ≤ 3 ∧
      (2 : Byte).toNat ≤ 3 ∧ [(9 : Byte)].length < (2 : Byte).toNat ∧ [(9 : Byte)].length + 1 = (2 : Byte).toNat ∧
      [(9 : Byte), 9].length = (2 : Byte).toNat ∧ Part.read [(9 : Byte)].length = .read 1 ∧ ¬ (0x75 : Byte).toNat < (addressByte 0x3A (Part.read 2).isRead).toNat ∧
      crc8 (addressByte 0x3A false :: [crc8 [addressByte 0x3A false]]) = 0 ∧ crc8 [addressByte 0x3A false] ≠ 0 := by
  decide +kernel

/-- R48: a loss in the second address byte, and in the check byte the Broker sends, comes later; a check byte 00h is not
lost, and neither is the first address byte without a winner. -/
theorem test_loss_in_later_bytes :
    (runTx ⟨0x3A, [.write [], .read 1], false⟩ [.ack, .lost]).phase = .ended .lostLater ∧
    (runTx ⟨0x3A, [.write []], true⟩ [.ack, .lost]).phase = .ended .lostLater ∧
    (runTx ⟨0x3A, [.write [crc8 [0x74]]], true⟩ [.ack, .ack, .lost]).phase = .checkOut ∧
    (runTx ⟨0x3A, [.counted 3], false⟩ [.ack, .byte 2, .byte 5, .byteLost 6]).phase = .ended .lostLater ∧
    runTx ⟨0x3A, [.read 1], false⟩ [.lost] = runTx ⟨0x3A, [.read 1], false⟩ [] := by decide +kernel

/-- R48: an answer of loss to a write byte 00h, and to a read byte that the Broker acknowledges, changes nothing. -/
theorem test_loss_needs_a_released_bit :
    (∀ bus ∈ [[BusAnswer.ack], [.ack, .ack]], runTx ⟨0x3A, [.write [0, 0], .read 2], true⟩ (bus ++ [.lost]) =
      runTx ⟨0x3A, [.write [0, 0], .read 2], true⟩ bus) ∧
    (runTx ⟨0x3A, [.read 2], false⟩ [.ack, .byteLost 9]).phase = .recv 2 [] ∧
    (runTx ⟨0x3A, [.read 2], false⟩ [.ack, .byte 9, .byteLost 9]).phase = .ended .lostLater ∧
    (runTx ⟨0x3A, [.read 2], true⟩ [.ack, .byte 9, .byteLost 9]).phase = .recv 1 [] := by decide +kernel

/-- R64: a loss in the check byte reports none. -/
theorem test_lost_check_byte :
    let r := runTx ⟨0x3A, [.read 1], true⟩ [.ack, .byte 9, .byteLost 0]
    r.phase = .ended .lostLater ∧ r.checkByte = none ∧ r.counts.mismatch = false := by decide +kernel

/-- The course of the job's attempt under some answers. -/
def attempt (j : Job) (bus : List BusAnswer) : TxPhase := (runTx (jobDesc j) bus).phase

/-- A handed attempt that runs, and every way its bytes end: with check off; with the check byte matched and not matched;
a count byte of 2 above max 1; a refusal of the first and of a later address byte and of a byte; a loss in the first address
byte and later. The retry budget is 1, met at attempts made 1 and exceeded at 2; and each flag is set alone. -/
theorem witness_AttemptEndClassed :
    let checked : Job := { aJob .active with steps := [.read 1], check := true, writeTotal := 0, staged := 0, writeData := [] }
    let counted : Job := { checked with steps := [.countedRead 1] }
    let twoParts : Job := { aJob .active with steps := [.write 2, .read 1] }
    (∀ j ∈ [aJob .active, checked, counted, twoParts, { aJob .active with attempts := 2 },
        { aJob .active with cancelPending := true }, { aJob .active with removalPending := true },
        { aJob .active with overdue := true }],
      let s := handedJob .controlling j
      s.rstLow = false ∧ (s.seg 1).sc = .controlling ∧ (s.seg 1).handed = some (.job 0) ∧ (s.seg 1).stretch = none ∧
      s.jobAt 0 = some j) ∧
    attempt (aJob .active) [.ack, .ack, .nak] = .ended .finished ∧
    (runTx (jobDesc (aJob .active)) [.ack, .ack, .nak]).checkByte = none ∧
    (runTx (jobDesc checked) [.ack, .byte 9, .byte (crc8 [0x75, 9])]).matched = true ∧
    (runTx (jobDesc checked) [.ack, .byte 9, .byte 0]).checkByte ≠ none ∧
    (runTx (jobDesc checked) [.ack, .byte 9, .byte 0]).matched = false ∧
    attempt checked [.ack, .byte 9, .byte 0] = .ended .finished ∧
    attempt counted [.ack, .byte 2] = .ended .countAboveMax ∧ attempt (aJob .active) [.nak] = .ended .addressRefused ∧
    (runTx (jobDesc (aJob .active)) [.nak]).part = 0 ∧
    attempt twoParts [.ack, .ack, .ack, .nak] = .ended .addressRefused ∧
    (runTx (jobDesc twoParts) [.ack, .ack, .ack, .nak]).part ≠ 0 ∧
    attempt (aJob .active) [.ack, .nak] = .ended .dataRefused ∧ attempt (aJob .active) [.ack, .lost] = .ended .lostLater ∧
    attempt (aJob .active) [.lostTo 0x20] = .ended (.lostFirst 0x20) ∧
    (aJob .active).retryBudget < ({ aJob .active with attempts := 2 } : Job).attempts ∧
    (aJob .active).attempts ≤ (aJob .active).retryBudget := by decide +kernel

/-- Segment B drives the attempt of a handle job whose entry, handle 5, is UNCONFIRMED. -/
def unconfirmedTarget : State :=
  (handedJob .controlling { aJob .active with target := .handle 5 }).putEntry 5 (some { fixedAt 1 0x22 with state := .unconfirmed })

/-- An attempt that goes on before and after its first byte, and a segment with none. -/
theorem witness_AttemptEndClassed_goesOn :
    let s := unconfirmedTarget
    let j : Job := { aJob .active with target := .handle 5 }
    s.rstLow = false ∧ (s.seg 1).sc = .controlling ∧ (s.seg 1).handed = some (.job 0) ∧ (s.seg 1).stretch = none ∧
    s.jobAt 0 = some j ∧ (runTx (jobDesc j) [.ack]).phase = .data j.writeData [] ∧
    (runTx (jobDesc j) []).addressAcks = 0 ∧ (runTx (jobDesc j) [.ack]).addressAcks = 1 ∧
    (State.reset.seg 1).sc ≠ .controlling ∧ (State.reset.seg 1).handed = none := by decide +kernel

/-- R79, R103: the entry is PRESENT at its first acknowledged address byte, with its ROSTER_CHANGED report, while the
attempt is still on the bus, and a warm restart keeps it so. -/
theorem test_acknowledged_byte_before_warm_restart :
    let s := after (.jobAttemptEnd 1 [.ack] true) unconfirmedTarget
    let t := after .restartTaken { s with restart := some .warm, htx := some ⟨0x42, 1, [0]⟩ }
    (s.entryAt 5).map (·.state) = some .present ∧ s.reports.getLast?.map (·.owner) = some (.roster 5) ∧
    (s.seg 1).handed = some (.job 0) ∧ (t.entryAt 5).map (·.state) = some .present := by decide +kernel

/-- A handle job whose entry has miss count 1 and 2, is MISSING, stands on another segment, and is gone. -/
theorem witness_AttemptEndClassed_presence :
    let j : Job := { aJob .active with target := .handle 5 }
    let missed (n : Nat) : Entry := { enrolledAt 1 0x22 .present with misses := n }
    (∀ e ∈ [missed 1, missed 2, enrolledAt 1 0x22 .missing],
      j.target = .handle 5 ∧ (oneEntry e).entryAt 5 = some e ∧ j.removalPending = false ∧ e.segment = j.segment) ∧
    (oneEntry (enrolledAt 2 0x22 .present)).entryAt 5 = some (enrolledAt 2 0x22 .present) ∧
    (enrolledAt 2 0x22 .present).segment ≠ j.segment ∧ State.reset.entryAt 5 = none ∧
    (runTx (jobDesc j) [.nak]).addressAcks = 0 ∧ (runTx (jobDesc j) [.ack]).addressAcks ≠ 0 := by decide +kernel

/-- A cancel after the first of two write bytes, after an acknowledged read address, at a byte that ends the transaction, and
at a read byte and a count byte that are refused and lost; both ends of the second case. -/
theorem witness_CancelStopsAtByteBoundary :
    let w : Job := { aJob .active with cancelPending := true }
    let r : Job := { w with steps := [.read 2], writeTotal := 0, staged := 0, writeData := [] }
    (∀ j ∈ [w, r],
      let s := handedJob .controlling j
      s.rstLow = false ∧ (s.seg 1).sc = .controlling ∧ (s.seg 1).handed = some (.job 0) ∧ (s.seg 1).stretch = none ∧
      s.jobAt 0 = some j ∧ j.cancelPending = true) ∧
    (∀ how, (runTx (jobDesc w) [.ack, .ack]).phase ≠ .ended how) ∧
    (∀ how, (runTx (jobDesc r) [.ack]).phase ≠ .ended how) ∧
    readAddressTaken (runTx (jobDesc w) [.ack, .ack]) [.ack, .ack] = false ∧
    readAddressTaken (runTx (jobDesc r) [.ack]) [.ack] = true ∧
    (runTx (jobDesc w) [.ack, .nak]).phase = .ended .dataRefused ∧
    (runTx (jobDesc r) [.ack]).phase = .recv 2 [] ∧
    (runTx (jobDesc { r with steps := [.countedRead 2] }) [.ack]).phase = .count 2 [] ∧
    ((after (.cancelAtByteBoundary 1 [.ack] (some (.byte 9)) false) (handedJob .controlling r)).jobAt 0).map
      (fun j => j.outcome.map fun o => (o.status, o.read)) = some (some (.busFault, [9])) := by
  refine ⟨by decide +kernel, fun how h => ?_, fun how h => ?_, by decide +kernel, by decide +kernel, by decide +kernel,
    by decide +kernel, by decide +kernel, by decide +kernel⟩
  · have e : (runTx (jobDesc { aJob .active with cancelPending := true }) [.ack, .ack]).phase = .data [8] [] := by
      decide +kernel
    rw [e] at h
    cases h
  · have e : (runTx (jobDesc { aJob .active with
        cancelPending := true, steps := [.read 2], writeTotal := 0, staged := 0, writeData := [] }) [.ack]).phase =
        .recv 2 [] := by decide +kernel
    rw [e] at h
    cases h

/-- An attempt that runs without a stretch timeout and with one, one that waits, and each other activity in hand; a segment
with nothing in hand on a bus of each kind; one with a service; and the states in which the monitor alone changes. -/
theorem witness_StretchTimeoutAndStuckClockEndTheActivity :
    let run := handedJob .controlling (aJob .active)
    let stretched := run.modSeg 1 fun sg => { sg with stretch := some true }
    let handed (a : Activity) := idleB fun sg => { sg with
      sc := .controlling, monitor := .busy, handed := some a, engine := engineIn .calling, notice := ⟨.querying, 0, none⟩ }
    (∀ s ∈ [run, stretched], s.rstLow = false ∧ (s.seg 1).sc = .controlling ∧ (s.seg 1).monitor = .busy ∧
      (s.seg 1).service = .none ∧ (s.seg 1).handed = some (.job 0) ∧ s.jobAt 0 = some (aJob .active)) ∧
    ((run.seg 1).stretch = none ∧ (stretched.seg 1).stretch ≠ none ∧
      ((handedJob .contending (aJob .active)).seg 1).sc = .contending) ∧
    (∀ a ∈ [Activity.enrol, .probe none 0x22, .notice], ((handed a).seg 1).handed = some a ∧
      ((handed a).seg 1).sc = .controlling ∧ ((handed a).seg 1).engine.state = .calling ∧
      ((handed a).seg 1).notice.state = .querying ∧ ((handed a).seg 1).noticeLine = false ∧
      ((handed a).seg 1).notice.retries = 0) ∧
    (∀ m ∈ [MonitorState.off, .unknown, .free, .busy, .stuck],
      let s := idleB fun sg => { sg with monitor := m }
      (s.seg 1).monitor = m ∧ (s.seg 1).sc = .idle ∧ (s.seg 1).handed = none ∧ (s.seg 1).stretch = none) ∧
    (let s := receivingN 3
     (s.seg 0).sc = .serving ∧ (s.seg 0).monitor = .busy ∧ (s.seg 0).handed = none) ∧
    (∀ sc ∈ [ScState.recovering, .fault], ((idleB fun sg => { sg with sc := sc }).seg 1).sc = sc) := by decide +kernel

/-- Each monitor state with a stop seen; an attempt that waits; and each service on a BUSY bus. -/
theorem witness_MonitorFollowsTheLines :
    (∀ m ∈ [MonitorState.off, .unknown, .free, .busy, .stuck],
      let s := idleB fun sg => { sg with monitor := m, stopSeen := true }
      s.rstLow = false ∧ (s.seg 1).monitor = m ∧ (s.seg 1).stopSeen = true ∧ (s.seg 1).sc = .idle ∧
      (s.seg 1).service = .none) ∧
    ((handedJob .contending (aJob .active)).seg 1).sc = .contending ∧
    ((handedJob .contending (aJob .active)).seg 1).monitor = .busy ∧
    ((handedJob .contending (aJob .active)).seg 1).service = .none ∧
    (∀ sv ∈ [Service.receiving ⟨0, 0x28, [1], false, false, false⟩, .reading 0 ⟨[1, 2], false⟩ true, .passive, .awaiting,
        .holding 0 20],
      let s := stationA fun sg => { sg with sc := .serving, service := sv }
      s.rstLow = false ∧ (s.seg 0).sc = .serving ∧ (s.seg 0).monitor = .busy ∧ (s.seg 0).service = sv) ∧
    (∀ m ∈ [MonitorState.unknown, .stuck],
      let s := stationA fun sg => { sg with sc := .serving, monitor := m, service := .passive }
      (s.seg 0).sc = .serving ∧ (s.seg 0).monitor = m ∧ (s.seg 0).service = .passive) ∧
    (let s := handedJob .controlling (aJob .active)
     (s.seg 1).sc = .controlling ∧ (s.seg 1).monitor = .busy ∧ (s.seg 1).service = .none) := by decide +kernel

/-- Table 4-3: the stop and then the free time, and 1 ms of high lines, turn the monitor FREE in CONTROLLING too. -/
theorem test_monitor_free_in_controlling :
    let s := handedJob .controlling (aJob .active)
    let stopped := after (.freeTimeElapsed 1) (after (.busStopSeen 1 0) s)
    let rested := after (.linesHigh1ms 1 0) s
    (s.seg 1).monitor = .busy ∧ (stopped.seg 1).monitor = .free ∧ (rested.seg 1).monitor = .free ∧
    (stopped.seg 1).sc = .controlling ∧ (rested.seg 1).sc = .controlling := by decide +kernel

/-- A segment that recovers with each activity still handed; what the activity's end leaves exists. -/
theorem witness_RecoveryAndFaultExits_handed :
    (∀ s ∈ [(handedJob .recovering (aJob .active)).modSeg 1 fun sg => { sg with stretch := none }],
      s.rstLow = false ∧ (s.seg 1).sc = .recovering ∧ (s.seg 1).service = .none ∧ (s.seg 1).handed = some (.job 0)) ∧
    (∀ dropped, FaultTaken (handedJob .recovering (aJob .active)) 1 dropped (.job 0) (dropped.endJob 0 .busFault .nothing)) ∧
    (∀ low : Bool, ∀ n ∈ [0, 1], ∀ a ∈ [Activity.enrol, .probe (some 5) 0x22, .notice],
      let s := idleB fun sg => { sg with
        sc := .recovering, handed := some a, engine := engineIn .calling, notice := ⟨.querying, n, none⟩, noticeLine := low }
      (s.seg 1).handed = some a ∧ (s.seg 1).engine.state = .calling ∧ (s.seg 1).notice = ⟨.querying, n, none⟩ ∧
        (s.seg 1).noticeLine = low) :=
  ⟨by decide +kernel, fun _ => ⟨⟨aJob .active, by decide +kernel⟩, rfl⟩, by decide +kernel⟩

/-- Segment numbers 4 and 3; recoveries of eight low pulses and then a stop or a held clock, of nine low pulses, and of
eight, which has not ended; and a claim that waits. -/
theorem witness_RecoveryAndFaultExits :
    4 ≤ (4 : Byte).toNat ∧ (3 : Byte).toNat = (3 : Seg).val ∧
    (∀ p ∈ List.replicate 9 RecoveryPulse.dataLow, p = .dataLow ∨ p = .stopFailed) ∧
    (List.replicate 8 RecoveryPulse.stopFailed).length < 9 ∧ (List.replicate 9 RecoveryPulse.dataLow).length = 9 ∧
    recoveryResult 9 (List.replicate 8 .dataLow ++ [.stopMade]) = some .stopMade ∧
    recoveryResult 9 (List.replicate 9 .dataLow) = some .dataHeld ∧ recoveryResult 9 [.clockHeld] = some .clockHeld ∧
    (∀ b : Bool,
      let s := idleB fun sg => { sg with sc := .recovering, monitor := .stuck, recoverRequested := b }
      s.rstLow = false ∧ (s.seg 1).sc = .recovering ∧ (s.seg 1).service = .none ∧ (s.seg 1).recoverRequested = b ∧
      (s.seg 1).handed = none) ∧
    (∀ s ∈ [idleB fun sg => { sg with sc := .fault, monitor := .stuck, faultClaim := some ⟨false, some .clock, 255, 0⟩ }],
      s.rstLow = false ∧ (s.seg 1).sc = .fault ∧ (s.seg 1).service = .none ∧ (s.seg 1).monitor ≠ .off ∧
      (s.seg 1).monitor ≠ .free ∧ (s.seg 1).faultClaim = some ⟨false, some .clock, 255, 0⟩) ∧
    (let s := idleB fun sg => { sg with sc := .fault }
     s.rstLow = false ∧ (s.seg 1).sc = .fault ∧ (s.seg 1).service = .none ∧ (s.seg 1).monitor = .free) := by decide +kernel

/-! ### Stations -/

/-- Station 0 of segment A at 28h with lists of 3 and of 4 messages, with a reply posted, and with each read policy; the
broadcast address; an address that matches no station; each state that evaluates no address; and messages of 31, 32 and
128 bytes. -/
theorem witness_AddressMatchedAndBytesReceived :
    let m : Message := ⟨0, 0x28, [1], false, false, true⟩
    let posted := stationA (·.modStation 0 fun st => { st with posted := some ⟨[1], true⟩ })
    let refuses := stationA fun sg => { sg with config := { sg.config with station0 := ⟨0x28, true, .refuse⟩ } }
    let broadcast := stationA fun sg => { sg with config := { sg.config with broadcastAccept := true } }
    let awaiting := stationA fun sg => { sg with sc := .serving, service := .awaiting }
    (∀ s ∈ [stationA id, posted, refuses, broadcast], s.rstLow = false ∧ (s.seg 0).sc = .idle ∧
      ((s.seg 0).config.station 0).enable = true ∧ ((s.seg 0).config.station 0).address = addressOf 0x50 ∧
      (∀ k : StationIx, k < 0 → ((s.seg 0).config.station k).enable = false) ∧
      ∀ ix : StationIx, ((s.seg 0).config.station ix).enable = false ∨ ((s.seg 0).config.station ix).address ≠ addressOf 0) ∧
    (isRead 0x50 = false ∧ isRead 0x51 = true ∧ addressOf 0x51 = addressOf 0x50 ∧ addressOf 0 = 0 ∧ isRead 0 = false) ∧
    (∀ n ∈ [3, 4], ((stationA (·.modInbound 0 fun _ => List.replicate n m)).seg 0).inboundAt (recordOf 0) =
      List.replicate n m) ∧
    ((posted.seg 0).station 0).posted = some ⟨[1], true⟩ ∧ (((stationA id).seg 0).station 0).posted = none ∧
    (((stationA id).seg 0).config.station 0).policy = .hold ∧ ((refuses.seg 0).config.station 0).policy = .refuse ∧
    (broadcast.seg 0).config.broadcastAccept = true ∧ (refuses.seg 0).config.broadcastAccept = false ∧
    (awaiting.seg 0).sc = .serving ∧ (awaiting.seg 0).service = .awaiting ∧
    (∀ sc ∈ [ScState.controlling, .recovering, .fault, .disabled],
      ((stationA fun sg => { sg with sc := sc }).seg 0).sc = sc) ∧
    ((receivingN 32).seg 0).sc = .serving ∧ ((receivingN 32).seg 0).service ≠ .awaiting ∧
    (∀ n ∈ [31, 32, 127, 128], (receivingN n).rstLow = false ∧
      ((receivingN n).seg 0).service = .receiving ⟨0, 0x28, List.replicate n 0, false, false, false⟩) ∧
    (receivingN 32).poolFree = 96 ∧ ({ receivingN 32 with poolFree := 0 } : State).poolFree = 0 := by decide +kernel

/-- Each service while SERVING, with nothing handed and with an attempt that waits, on a bus that is BUSY and FREE; a
segment without a service, its monitor on and OFF; and a held read. -/
theorem witness_ServicesEndAtStopAndRepeatedStart :
    (∀ sv ∈ [Service.receiving ⟨0, 0x28, [1], false, false, false⟩, .receiving ⟨0, 0x28, [], false, false, false⟩,
        .reading 0 ⟨[1, 2], false⟩ true, .reading 0 ⟨[1, 2], false⟩ false, .passive, .awaiting],
      let s := stationA fun sg => { sg with sc := .serving, service := sv }
      s.rstLow = false ∧ (s.seg 0).sc = .serving ∧ (s.seg 0).service = sv ∧ (s.seg 0).monitor ≠ .off ∧
      (s.seg 0).handed = none) ∧
    (((stationA id).seg 0).sc ≠ .serving ∧ ((stationA id).seg 0).service = .none ∧
      ((stationA id).seg 0).monitor ≠ .off ∧ (State.reset.seg 0).sc ≠ .serving ∧ (State.reset.seg 0).service = .none ∧
      (State.reset.seg 0).monitor = .off) ∧
    ((stationA fun sg => { sg with sc := .serving, service := .holding 0 20 }).seg 0).service = .holding 0 20 ∧
    (∀ m ∈ [MonitorState.busy, .free],
      let s := (handedJob .serving (aJob .active)).modSeg 1 fun sg => { sg with service := .passive, monitor := m }
      (s.seg 1).handed ≠ none ∧ (s.seg 1).monitor = m) := by decide +kernel

/-- A held read; segment 4, index 2, mode 2, and replies of 0, 64 and 65 bytes; a disabled station; and the station free,
held and being read. -/
theorem witness_HeldReadEndsByPostOrExpiry :
    let held := stationA fun sg => { sg with sc := .serving, service := .holding 0 20 }
    let reads := stationA fun sg => { sg with sc := .serving, service := .reading 0 ⟨[1], true⟩ true }
    (Takes (stationA id) 1 ∧ Takes held 1 ∧ Takes reads 1) ∧
    (held.rstLow = false ∧ (held.seg 0).service = .holding 0 20 ∧ (reads.seg 0).service = .reading 0 ⟨[1], true⟩ true) ∧
    (4 ≤ (4 : Byte).toNat ∧ 2 ≤ (2 : Byte).toNat ∧ 64 < (List.replicate 65 (0 : Byte)).length ∧
      (List.replicate 64 (0 : Byte)).length ≤ 64 ∧ (1 : Byte).toNat < 2 ∧ (1 : Byte).toNat = (1 : StationIx).val) ∧
    ((((stationA id).seg 0).config.station 1).enable = false ∧ ((held.seg 0).config.station 0).enable = true ∧
      ((reads.seg 0).config.station 0).enable = true ∧ (((stationA id).seg 0).service = .none)) :=
  ⟨⟨takes_when_quiet rfl, takes_when_quiet rfl, takes_when_quiet rfl⟩, by decide +kernel⟩

theorem witness_WithdrawRemovesPostedReply :
    let reads := stationA fun sg => { sg with sc := .serving, service := .reading 0 ⟨[1], true⟩ true }
    (Takes (stationA id) 1 ∧ Takes reads 1) ∧
    (4 ≤ (4 : Byte).toNat ∧ 2 ≤ (2 : Byte).toNat ∧ (0 : Byte).toNat = (0 : Seg).val ∧ (1 : Byte).toNat = (1 : StationIx).val ∧
      (((stationA id).seg 0).config.station 1).enable = false ∧ ((reads.seg 0).config.station 0).enable = true ∧
      (((stationA id).seg 0).config.station 0).enable = true ∧
      (reads.seg 0).service = .reading 0 ⟨[1], true⟩ true ∧ ((stationA id).seg 0).service = .none) :=
  ⟨⟨takes_when_quiet rfl, takes_when_quiet rfl⟩, by decide +kernel⟩

/-! ### The Roster -/

/-- Handles 64 and 63, counts 0, 16 and 17; segment 4 and addresses 80h, 07h, 08h, 77h, 78h and the reserved 5Ch; a held
address, a chosen one, and a full roster; and for a removal force 2, a free handle, an entry that is PRESENT and one that is
not, with and without a job that names it. -/
theorem witness_RosterRequestsAnswered :
    let present := oneEntry (enrolledAt 1 0x22 .present)
    let missing := oneEntry (enrolledAt 1 0x22 .missing)
    let named : State := { missing.putJob 0 (some { aJob .held with target := .handle 5 }) with accepted := [0] }
    let chosen := sweeping { engineIn .assigning with chosen := some 0x22 }
    (Takes State.reset 1 ∧ Takes present 1 ∧ Takes missing 1 ∧ Takes named 1 ∧ Takes chosen 1 ∧ Takes fullRoster 1) ∧
    (64 ≤ (64 : Byte).toNat ∧ (63 : Byte).toNat < 64 ∧ 17 ≤ (17 : Byte).toNat ∧ (16 : Byte) ≠ 0 ∧ (16 : Byte).toNat ≤ 16) ∧
    (4 ≤ (4 : Byte).toNat ∧ 0x80 ≤ (0x80 : Byte).toNat ∧ (3 : Byte).toNat = (3 : Seg).val ∧
      (0x7F : Byte).toNat = (0x7F : Addr).toNat ∧ (0x07 : Addr).toNat < 0x08 ∧ 0x77 < (0x78 : Addr).toNat ∧
      (0x5C : Addr) ∈ (State.reset.seg 1).config.reserved ∧ 0x08 ≤ (0x08 : Addr).toNat ∧ (0x77 : Addr).toNat ≤ 0x77 ∧
      (∀ a ∈ [(0x08 : Addr), 0x77, 0x22], a ∉ (State.reset.seg 1).config.reserved)) ∧
    (present.entryAt 5 = some (enrolledAt 1 0x22 .present) ∧ (chosen.seg 1).engine.chosen = some 0x22 ∧
      (∀ h, fullRoster.entryAt h ≠ none) ∧ (fullRoster.seg 1).engine.chosen = none ∧ State.reset.entryAt 0 = none) ∧
    (2 ≤ (2 : Byte).toNat ∧ (63 : Byte).toNat = (63 : Handle).val ∧ present.entryAt 63 = none ∧
      (enrolledAt 1 0x22 .present).isEnrolled = true ∧ missing.entryAt 5 = some (enrolledAt 1 0x22 .missing) ∧
      missing.jobsNaming 5 = [] ∧ named.entryAt 5 = some (enrolledAt 1 0x22 .missing) ∧ named.jobsNaming 5 ≠ []) ∧
    (∀ h ∈ [some (5 : Handle), some 6, none],
      let s := idleB fun sg => { sg with sc := .controlling, monitor := .busy, handed := some (.probe h 0x22) }
      (s.seg 1).handed = some (.probe h 0x22)) ∧
    (∀ st ∈ [JobState.active, .queued, .ended], (withJob (aJob st)).jobAt 0 = some (aJob st) ∧ (aJob st).state = st) := by
  refine ⟨⟨takes_when_quiet rfl, takes_when_quiet rfl, takes_when_quiet rfl, takes_when_quiet rfl, takes_when_quiet rfl,
    takes_when_quiet rfl⟩, ?_⟩
  decide +kernel

/-- No entry of a full roster of segment C holds an address of segment B. -/
theorem witness_fullRoster_has_no_address_of_B : ∀ h e, fullRoster.entryAt h = some e → e.segment = 1 → e.address ≠ 0x22 :=
  all_entries (p := fun _ e => e.segment = 1 → e.address ≠ 0x22) (by decide +kernel)

/-- A probe that runs for an entry with miss count 1, with miss count 2, and MISSING; one whose entry has moved; one lost
to the address byte just below its own; and one after a stretch timeout. -/
theorem witness_ProbeResultSignalsItsEntry :
    let probing (e : Entry) : State := (oneEntry e).modSeg 1 fun sg =>
      { sg with sc := .controlling, monitor := .busy, handed := some (.probe (some 5) 0x22) }
    let missed (n : Nat) : Entry := { enrolledAt 1 0x22 .present with misses := n }
    (∀ e ∈ [missed 1, missed 2, enrolledAt 1 0x22 .missing],
      (probing e).rstLow = false ∧ ((probing e).seg 1).sc = .controlling ∧
      ((probing e).seg 1).handed = some (.probe (some 5) 0x22) ∧ ((probing e).seg 1).stretch = none ∧
      (probing e).entryAt 5 = some e ∧ e.segment = 1 ∧ e.address = 0x22) ∧
    (probing (enrolledAt 2 0x22 .present)).entryAt 5 = some (enrolledAt 2 0x22 .present) ∧
    (enrolledAt 2 0x22 .present).segment ≠ 1 ∧ (0x43 : Byte).toNat < (addressByte 0x22 false).toNat ∧
    (((probing (missed 1)).modSeg 1 fun sg => { sg with stretch := some false }).seg 1).stretch ≠ none := by decide +kernel

/-- Table 6-5: a probe lost in its address byte leaves probe due set, and the entry is probed again. -/
theorem test_probe_lost :
    let e := { enrolledAt 1 0x22 .present with probeDue := true }
    let s := (oneEntry e).modSeg 1 fun sg =>
      { sg with sc := .controlling, monitor := .busy, handed := some (.probe (some 5) 0x22) }
    let t := after (.probeEnd 1 [.lostTo 0x43] true) s
    t.entryAt 5 = some e ∧ (t.seg 1).sc = .contending := by decide +kernel

theorem witness_StepKeepsRosterLaws :
    let s := withStatus (oneEntry (enrolledAt 1 0x22 .present))
    RosterOk s ∧ ∃ t, step s = .next t := by
  let s := withStatus (oneEntry (enrolledAt 1 0x22 .present))
  have only : ∀ k d, s.entryAt k = some d → k = 5 ∧ d = enrolledAt 1 0x22 .present :=
    all_entries (p := fun k d => k = 5 ∧ d = enrolledAt 1 0x22 .present) (by decide +kernel)
  refine ⟨⟨?_, ?_, ?_, ?_, ?_, by decide +kernel⟩, _, rfl⟩
  · intro h e he
    rw [(only h e he).2]
    exact ⟨by decide, by decide, by decide, by decide⟩
  · intro h k e f he hf _ _
    rw [(only h e he).1, (only k f hf).1]
  · intro h k e f he hf _ _
    rw [(only h e he).1, (only k f hf).1]
  · intro h e he
    rw [(only h e he).2]
    decide +kernel
  · intro g a ha
    have : ∀ g : Seg, (s.seg g).engine.chosen = none := by decide +kernel
    rw [this g] at ha
    cases ha

/-! ### Enrolment -/

/-- Segments 4 and 3; a disabled segment, one at work, and one that is neither. -/
theorem witness_EnrolmentRequestsAnswered :
    (Takes State.reset 1 ∧ Takes (sweeping (engineIn .calling)) 1 ∧ Takes (idleB id) 1) ∧
    (4 ≤ (4 : Byte).toNat ∧ (3 : Byte).toNat = (3 : Seg).val ∧ (State.reset.seg 3).sc = .disabled ∧
      ((sweeping (engineIn .calling)).seg 1).sc ≠ .disabled ∧ ((sweeping (engineIn .calling)).seg 1).engine.state ≠ .none ∧
      ((idleB id).seg 1).sc ≠ .disabled ∧ ((idleB id).seg 1).engine.state = .none) :=
  ⟨⟨takes_when_quiet rfl, takes_when_quiet rfl, takes_when_quiet rfl⟩, by decide +kernel⟩

/-- The course of the command that a sweep state issues. -/
def command (e : Engine) (bus : List BusAnswer) : TxRun := runTx (enrolDesc SegConfig.default e) bus

/-- The answers of device Q to an IDENTIFY, with the check byte that matches. -/
def identifyQ : List BusAnswer :=
  let bytes := deviceQ.identity.toList ++ [deviceQ.cls]
  [.ack, .ack, .ack] ++ bytes.map .byte ++ [.byte (crc8 ([0xB8, 0xA2, 0xB9] ++ bytes))]

/-- A CALL whose check byte is acknowledged, refused, and whose address is refused; an IDENTIFY that matches, that does not
with 2 and with 3 re-issues behind it, and that no device answers. -/
theorem witness_CallAndIdentifyRead :
    (∀ e ∈ [engineIn .calling, { engineIn .identifying with identRetries := 2 },
        { engineIn .identifying with identRetries := 3 }],
      let s := sweeping e
      s.rstLow = false ∧ (s.seg 1).sc = .controlling ∧ (s.seg 1).handed = some .enrol ∧ (s.seg 1).stretch = none ∧
      (s.seg 1).engine = e ∧ (s.seg 1).config = SegConfig.default) ∧
    ((command (engineIn .calling) [.ack, .ack, .ack]).phase = .ended .finished ∧
      (command (engineIn .calling) [.ack, .ack, .ack]).checkAcked = true ∧
      (command (engineIn .calling) [.ack, .ack, .nak]).checkAcked = false ∧
      (command (engineIn .calling) [.nak]).phase = .ended .addressRefused) ∧
    ((command (engineIn .identifying) identifyQ).phase = .ended .finished ∧
      (command (engineIn .identifying) identifyQ).matched = true ∧
      (∀ k (h : k < 8), deviceQ.identity[k] = (command (engineIn .identifying) identifyQ).read.getD k 0) ∧
      deviceQ.cls = (command (engineIn .identifying) identifyQ).read.getD 8 0 ∧
      (command (engineIn .identifying) (identifyQ.set 12 (.byte 0))).matched = false ∧
      (command (engineIn .identifying) [.ack, .ack, .nak]).phase = .ended .addressRefused) := by decide +kernel

/-- Device Q known on the segment, MISSING on another, and PRESENT on another, without and with a claim that waits; unknown,
with a free handle and with none; the lowest address of the pool on offer, and no address on offer. -/
theorem witness_IdentityDecidedByTable :
    (∀ e ∈ [enrolledAt 1 0x22 .present, enrolledAt 2 0x22 .missing, enrolledAt 2 0x22 .present],
      (oneEntry e).entryAt 5 = some e ∧ e.identity = some deviceQ.identity ∧ (∀ k : Handle, k ≠ 5 → (oneEntry e).entryAt k = none)) ∧
    ((State.reset.seg 1).conflictClaim = none ∧
      ((segB fun sg => { sg with conflictClaim := some ⟨deviceQ, 5, 2, 255⟩ }).seg 1).conflictClaim = some ⟨deviceQ, 5, 2, 255⟩) ∧
    ((∀ h, State.reset.entryAt h = none) ∧ (∀ h, fullRoster.entryAt h ≠ none) ∧
      (∀ h, (fullRoster.entryAt h).all (fun e => decide (e.identity ≠ some deviceQ.identity)) = true)) ∧
    ((State.reset.seg 1).config.poolFirst = 0x20 ∧ (State.reset.seg 1).config.poolLast = 0x3F ∧
      (0x20 : Addr) ∉ (State.reset.seg 1).config.reserved) ∧
    (let c : SegConfig := { SegConfig.default with poolFirst := 0x5C, poolLast := 0x5C }
     ∀ a : Addr, ¬ (c.poolFirst.toNat ≤ a.toNat ∧ a.toNat ≤ c.poolLast.toNat ∧ a ∉ c.reserved)) := by decide +kernel

/-- ASSIGNs acknowledged and refused, at 30 and 31 counted, with 2 and 3 re-issues, for a known and an unknown device and a
full roster; PARKs and FORGETs. -/
theorem witness_AssignParkAndForgetRead :
    let assigning : Engine := { engineIn .assigning with chosen := some 0x22 }
    (∀ e ∈ [{ assigning with assigned := 30 }, { assigning with assigned := 31 }, { assigning with cmdRetries := 2 },
        { assigning with cmdRetries := 3 }, { engineIn .parking with cmdRetries := 3 }, engineIn .forgetting],
      ∀ s ∈ [sweeping e, sweeping e fullRoster, sweeping e (oneEntry (enrolledAt 1 0x22 .present)),
          sweeping e (oneEntry (enrolledAt 1 0x22 .missing)), sweeping e (oneEntry (enrolledAt 2 0x22 .missing))],
        s.rstLow = false ∧ (s.seg 1).sc = .controlling ∧ (s.seg 1).handed = some .enrol ∧ (s.seg 1).stretch = none ∧
        (s.seg 1).engine = e ∧ (s.seg 1).config = SegConfig.default) ∧
    ((command assigning (List.replicate 12 .ack)).phase = .ended .finished ∧
      (command assigning (List.replicate 12 .ack)).checkAcked = true ∧
      (command assigning (List.replicate 11 .ack ++ [.nak])).phase = .ended .finished ∧
      (command assigning (List.replicate 11 .ack ++ [.nak])).checkAcked = false ∧
      (command assigning [.nak]).phase = .ended .addressRefused ∧ (command assigning [.ack, .nak]).phase = .ended .dataRefused) ∧
    ((command (engineIn .parking) (List.replicate 11 .ack)).checkAcked = true ∧
      (command (engineIn .parking) (List.replicate 11 .ack)).phase = .ended .finished ∧
      (command (engineIn .forgetting) [.ack, .ack, .ack]).phase = .ended .finished ∧
      (command (engineIn .forgetting) [.ack, .ack, .nak]).checkSent = true ∧
      (command (engineIn .forgetting) [.ack, .ack]).phase = .checkOut ∧
      ((sweeping (engineIn .forgetting)).modSeg 1 fun sg => { sg with stretch := some true }).rstLow = false) ∧
    (assigning.current = some deviceQ ∧ assigning.chosen = some 0x22 ∧
      (∀ h, (sweeping assigning).entryAt h = none) ∧ (∀ h, (sweeping assigning fullRoster).entryAt h ≠ none)) := by
  decide +kernel

/-- A loss in the first address byte with 7 and with 8 losses behind it, a later loss, a refusal whose stop fails, and a
stretch timeout, for each command, none of which was taken or had reached the devices; and an end with and without a claim
that waits. -/
theorem witness_EnrolmentLossesAndEnd :
    (∀ st ∈ [SweepState.calling, .identifying, .assigning, .parking, .forgetting], ∀ n ∈ [7, 8],
      ∀ stretch ∈ [none, some false],
      let s := (sweeping { engineIn st with losses := n }).modSeg 1 fun sg => { sg with stretch := stretch }
      s.rstLow = false ∧ (s.seg 1).sc = .controlling ∧ (s.seg 1).handed = some .enrol ∧ (s.seg 1).stretch = stretch ∧
      (s.seg 1).engine.state = st ∧ (s.seg 1).engine.losses = n ∧
      (command (s.seg 1).engine [.nak]).phase = .ended .addressRefused ∧
      (command (s.seg 1).engine [.nak]).checkAcked = false ∧ (command (s.seg 1).engine [.nak]).checkSent = false ∧
      (command (s.seg 1).engine [.lostTo 0x50]).phase = .ended (.lostFirst 0x50) ∧
      (command (s.seg 1).engine [.ack, .lost]).phase = .ended .lostLater) ∧
    (State.reset.seg 1).sweepClaim = none ∧
    ((segB fun sg => { sg with sweepClaim := some ⟨.complete, 3, 255⟩ }).seg 1).sweepClaim = some ⟨.complete, 3, 255⟩ := by
  decide +kernel

/-! ### Notices and Segment Control -/

/-- A query that runs, after no stretch timeout and after one, with its line low and high, 0, 1 and 2 mismatches behind it,
and the service on or turned off: matched, refused, not matched, lost to a lower first address byte and lost in its check
byte; and each state of the service at the line's two changes. -/
theorem witness_NoticeQueriesAndLine :
    let query (bus : List BusAnswer) : TxRun := runTx (noticeDesc SegConfig.default) bus
    let bus : List BusAnswer := [.ack, .byte 0x22, .byte 7]
    (∀ low : Bool, ∀ x ∈ [(NoticeState.querying, 0), (.querying, 1), (.querying, 2), (.off, 0)],
      ∀ stretch ∈ [none, some false],
      let s := queryingB.modSeg 1 fun sg => { sg with noticeLine := low, notice := ⟨x.1, x.2, none⟩, stretch := stretch }
      s.rstLow = false ∧ (s.seg 1).sc = .controlling ∧ (s.seg 1).handed = some .notice ∧ (s.seg 1).stretch = stretch ∧
      (s.seg 1).notice.state = x.1 ∧ (s.seg 1).notice.retries = x.2 ∧ (s.seg 1).noticeLine = low ∧
      (s.seg 1).config = SegConfig.default) ∧
    ((query (bus ++ [.byte (crc8 [0x33, 0x22, 7])])).phase = .ended .finished ∧
      (query (bus ++ [.byte (crc8 [0x33, 0x22, 7])])).matched = true ∧
      (query (bus ++ [.byte (crc8 [0x33, 0x22, 7])])).read = [0x22, 7] ∧
      (query (bus ++ [.byte 0])).phase = .ended .finished ∧ (query (bus ++ [.byte 0])).matched = false ∧
      (query [.nak]).phase = .ended .addressRefused ∧ (query [.lostTo 0x32]).phase = .ended (.lostFirst 0x32) ∧
      (query (bus ++ [.byteLost 0])).phase = .ended .lostLater) ∧
    (∀ st ∈ [NoticeState.off, .watching, .querying, .paused], ∀ low : Bool, ∀ n ∈ [0, 1],
      let s := segB fun sg => { sg with noticeLine := low, notice := ⟨st, n, none⟩ }
      (s.seg 1).notice.state = st ∧ (s.seg 1).noticeLine = low ∧ (s.seg 1).notice.retries = n) := by decide +kernel

/-- Segments 4 and 3; a repeated item code, an item value out of range, and a pool range turned round; an item that may not
change while the segment is enabled and one that may; a notice address moved onto an entry; and a change that is taken. -/
theorem witness_ConfigureChangesAllOrNothing :
    (Takes State.reset 1 ∧ Takes (idleB id) 1 ∧ Takes (oneEntry (fixedAt 1 0x22)) 1) ∧
    (4 ≤ (4 : Byte).toNat ∧ (3 : Byte).toNat = (3 : Seg).val ∧ [(0x0C : Byte), 0x08].length = 2 * (1 : Byte).toNat ∧
      (State.reset.seg 1).config = SegConfig.default ∧ (State.reset.seg 1).sc = .disabled ∧ ((idleB id).seg 1).sc ≠ .disabled) ∧
    (¬ ([((0x0E : Byte), (1 : Byte)), (0x0E, 0)].map (·.1)).Nodup ∧ SegConfig.default.setItems [(0x0E, 2)] = none ∧
      (SegConfig.default.setItems [(0x0C, 0x40)]).isSome = true ∧
      (SegConfig.default.setItems [(0x0C, 0x40)]).all (fun c => decide (c.poolLast.toNat < c.poolFirst.toNat)) = true ∧
      (∃ p ∈ [((0x04 : Byte), (1 : Byte))], p.1 ≠ 0x0E ∧ p.1 ≠ 0x10) ∧
      ∀ p ∈ [((0x0E : Byte), (1 : Byte)), (0x10, 5)], p.1 = 0x0E ∨ p.1 = 0x10) ∧
    ((SegConfig.default.setItems [(0x0F, 0x22)]).all (fun c => decide (c.poolFirst.toNat ≤ c.poolLast.toNat ∧ (0x22 : Addr) ∈ c.reserved)) =
        true ∧ (oneEntry (fixedAt 1 0x22)).entryAt 5 = some (fixedAt 1 0x22) ∧
      (SegConfig.default.setItems [(0x04, 1)]).all (fun c => decide (c.poolFirst.toNat ≤ c.poolLast.toNat ∧ c.reserved.Nodup)) = true) := by
  refine ⟨⟨takes_when_quiet rfl, takes_when_quiet rfl, takes_when_quiet rfl⟩, by decide +kernel,
    ⟨by decide, by decide +kernel, by decide +kernel, by decide +kernel, ⟨(4, 1), by decide⟩, by simp⟩, by decide +kernel,
    by decide +kernel, by decide +kernel⟩

/-- The notice service and the roll interval taken in each direction; and item values at the ends of their ranges and just
outside them. -/
theorem witness_ConfigureChangesAllOrNothing_items :
    (∀ old new : Bool, ∀ n ∈ [(0 : Byte), 5],
      ({ SegConfig.default with noticeService := old } : SegConfig).setItems [(0x0E, boolCode new), (0x10, n)] =
        some { SegConfig.default with noticeService := new, rollInterval := n.toNat }) ∧
    let taken (item v : Byte) : Bool := (SegConfig.default.setItem item v).isSome
    (taken 1 1 ∧ taken 1 100 ∧ taken 9 200 ∧ taken 0x0F 0x77 ∧ taken 0x10 255) ∧
    (¬ taken 1 0 ∧ ¬ taken 1 101 ∧ ¬ taken 9 201 ∧ ¬ taken 0x0F 0x78 ∧ ¬ taken 0 3 ∧ ¬ taken 0x11 0) := by decide +kernel

/-- Segment B, enabled, with a QUEUED job and its HELD dependent, and 64 reports. -/
def chainFull : State := { chain with reports := queued 40 64 0, nextSeq := 104, attn := true }

theorem chainFull_places : PlacesOk chainFull :=
  ⟨chain_places.accepted, chain_places.jobs, chain_places.lists, chain_places.held, chain_places.heldFor, chain_places.chain,
    chain_places.current, chain_places.handed⟩

theorem chainFull_hostLink : HostLinkOk chainFull where
  replies := by decide +kernel
  cacheSize := by decide +kernel
  cacheTags := by decide +kernel
  cacheTagged := by decide +kernel
  reports := by decide +kernel
  sentFirst := by
    have waiting : ∀ r ∈ chainFull.reports, r.sent = false := by simp [chainFull, queued]
    have none : chainFull.reports.filter (·.sent) = [] := by simpa [List.filter_eq_nil_iff] using waiting
    have all : chainFull.reports.filter (!·.sent) = chainFull.reports := by simpa [List.filter_eq_self] using waiting
    rw [none, all, List.nil_append]
  window := by decide +kernel
  sequences := by decide +kernel
  claims := by decide +kernel
  attn := by decide +kernel
  held := by decide +kernel

theorem chain_hostLink : HostLinkOk chain where
  replies := by decide +kernel
  cacheSize := by decide +kernel
  cacheTags := by decide +kernel
  cacheTagged := by decide +kernel
  reports := by decide +kernel
  sentFirst := by decide +kernel
  window := by decide +kernel
  sequences := by decide +kernel
  claims := by decide +kernel
  attn := by decide +kernel
  held := by decide +kernel

/-- R159: the owners of the reports that a flush brings, in a queue with room. -/
theorem test_flush_reports :
    HostLinkOk chain ∧ PlacesOk chain ∧
    (after (.segmentDisable 1 [1, 1] ⟨[], 0⟩) chain).reports.map (·.owner) = [.hlc, .jobEnded 0, .jobEnded 1] :=
  ⟨chain_hostLink, chain_places, by decide +kernel⟩

/-- R120, R158: a sweep ends ABORTED with its report, a read being served is recorded and reported after it, and the
notice service is OFF. -/
theorem test_disable_reports :
    let s := (stationA fun sg => { sg with
      sc := .serving, engine := engineIn .pending, notice := ⟨.paused, 1, none⟩, service := .reading 0 ⟨[1, 2], true⟩ true })
    let t := after (.segmentDisable 1 [0, 0] ⟨[], 3⟩) s
    (t.reports.drop s.reports.length).map (fun r => (r.kind, r.owner)) =
      [(0x89, .sweepEnded 0), (0x84, .station 0 0 .served)] ∧
    (t.seg 0).notice = ⟨.off, 0, none⟩ ∧ ((t.seg 0).station 0).lastOverread = 1 := by decide +kernel

/-- Segments 4 and 3, modes 2, 1 and 0, a disabled segment and one that is not, with a QUEUED and a HELD job under a full
Report Queue; a job in each other state; a service and a sweep to abandon. -/
theorem witness_EnableAndDisableSegment :
    (Takes State.reset 1 ∧ Takes chainFull 1 ∧ PlacesOk chainFull ∧ HostLinkOk chainFull) ∧
    (4 ≤ (4 : Byte).toNat ∧ (3 : Byte).toNat = (3 : Seg).val ∧ (State.reset.seg 3).sc = .disabled ∧
      (State.reset.seg 3).notice.retries = 0 ∧ (chainFull.seg 1).sc ≠ .disabled ∧ 2 ≤ (2 : Byte).toNat ∧
      (1 : Byte).toNat < 2 ∧ (0 : Byte).toNat < 2) ∧
    (chainFull.reports.length = 64 ∧ chainFull.jobAt 0 = some (aJob .queued) ∧
      (chainFull.jobAt 1).map (·.state) = some .held) ∧
    (∀ st ∈ [JobState.staging, .active, .backoff, .ended], (withJob (aJob st)).jobAt 0 = some (aJob st)) ∧
    (((receivingN 33).seg 0).sc ≠ .disabled ∧
      ((receivingN 33).seg 0).service = .receiving ⟨0, 0x28, List.replicate 33 0, false, false, false⟩ ∧
      ((sweeping (engineIn .calling)).seg 1).engine.state ≠ .none) :=
  ⟨⟨takes_when_quiet rfl, takes_when_quiet rfl, chainFull_places, chainFull_hostLink⟩, by decide +kernel⟩

/-- R159: slot 0 ends first, and the HELD job that its end cascades at once after it; as a root of its own that job is then
passed over. -/
theorem test_flush_order : EndOrder chainFull [0, 1] [] [0, 1] := by
  have waits : ∀ k id, chainFull.waitsOn k id = true → k = 1 := by
    intro k id h
    have hall : ∀ k, (chainFull.jobAt k).all (fun j => decide (j.state = .held → k = 1)) = true := by decide +kernel
    have hk := hall k
    unfold State.waitsOn at h
    split at h
    · rename_i j hj
      simp only [hj, Option.all_some, decide_eq_true_eq] at hk
      simp only [Bool.and_eq_true, beq_iff_eq] at h
      exact hk h.1
    · cases h
  have deps : ∀ k, k ∈ [(1 : Slot)] ↔ DependsOn chainFull (chainFull.idAt 0) k ∧ k ∉ ([] : List Slot) := by
    intro k
    constructor
    · intro h
      obtain rfl : k = 1 := by simpa using h
      exact ⟨.direct 1 (by decide +kernel), by simp⟩
    · rintro ⟨h | h, -⟩ <;> simp [waits _ _ (by assumption)]
  exact .ends 0 [1] [] [1] [] (by simp) (by decide) deps (.passed 1 [] _ [] (by simp) (.none _))

/-- R84: the attempt that the disable cuts off ends with its bytes counted and no flag of a result. -/
theorem test_disable_cuts_attempt :
    let j : Job := { aJob .active with steps := [.write 2, .read 1], readReserve := 2, check := true }
    let t := after (.segmentDisable 1 [1, 0] ⟨[.ack, .ack, .ack, .ack, .byte 9, .byte 0], 0⟩) (handedJob .controlling j)
    (t.jobAt 0).map (·.outcome) = some (some ⟨.segmentDisabled, 2, [9], none, false, false, false, 1⟩) := by decide +kernel

end Sys2Proof.Tests
end

/-!
The job id that a request names (R2), and QUERY_JOB (R14).
-/

namespace Sys2Proof.Machine

/-! ### Job ids -/

/-- A slot byte names the slot of its value. -/
theorem slotOf_eq_some_iff {b : Byte} {i : Slot} : slotOf b = some i ↔ b.toNat = i.val := by
  unfold slotOf
  split
  next h => simp [Fin.ext_iff]
  next h => simpa using (fun e : b.toNat = i.val => h (e ▸ i.isLt))

/-- The byte of a number below 256 that another byte names is that byte. -/
theorem byteOf_eq_of_toNat_eq {b : Byte} {n : Nat} (h : b.toNat = n) : byteOf n = b := by
  simp [byteOf, ← h]

/-- A body that begins with a slot above 31 names no job (R2). -/
theorem jobIdOf_eq_none {slot : Byte} (h : 32 ≤ slot.toNat) (rest : List Byte) : jobIdOf (slot :: rest) = none := by
  simp [jobIdOf, byteAt, slotOf, Nat.not_lt.mpr h]

/-- A body that begins with a slot and a generation names that job id (R2). -/
theorem jobIdOf_eq_some {slot : Byte} {i : Slot} (h : slot.toNat = i.val) (gen : Byte) (rest : List Byte) :
    jobIdOf (slot :: gen :: rest) = some ⟨i, gen⟩ := by
  have hs : slotOf slot = some i := slotOf_eq_some_iff.mpr h
  simp [jobIdOf, byteAt, hs]

/-- A job id is stale when its slot is FREE or holds another generation (R2). -/
theorem State.staleId_iff (s : State) (id : JobId) :
    s.staleId id = true ↔ s.jobAt id.slot = none ∨ s.genAt id.slot ≠ id.gen := by
  simp [State.staleId]

/-- A job id with a job and its generation is not stale (R2). -/
theorem State.staleId_eq_false {s : State} {i : Slot} {gen : Byte} {j : Job} (hg : s.genAt i = gen)
    (hj : s.jobAt i = some j) : s.staleId ⟨i, gen⟩ = false := by
  simp [State.staleId, hj, hg]

/-! ### The answer to QUERY_JOB -/

/-- The flags byte of a QUERY_JOB reply holds the overdue flag alone (R14). -/
theorem queryFlags_eq (j : Job) : queryFlags j = boolCode j.overdue := by
  cases h : j.overdue <;> simp [queryFlags, flagsByte, boolCode, h]

/-- The position of a QUEUED job is the number of the jobs ahead of it in its list. -/
theorem State.position_of_queued {s : State} {i : Slot} {j : Job} {ahead behind : List Slot} (hq : j.state = .queued)
    (hl : (s.seg j.segment).classList j.cls = ahead ++ i :: behind) (hi : i ∉ ahead) :
    s.position i j = byteOf ahead.length := by
  simp [State.position, hq, hl, List.idxOf_append_of_notMem hi]

/-- A job that is not QUEUED has no position. -/
theorem State.position_of_not_queued (s : State) (i : Slot) {j : Job} (h : j.state ≠ .queued) :
    s.position i j = 0xFF := by
  simp [State.position, h]

/-- The end status of an ENDED job is that of its outcome. -/
theorem endStatusField_of_ended {j : Job} {o : JobOutcome} (h : j.state = .ended) (ho : j.outcome = some o) :
    endStatusField j = endStatusCode o.status := by
  simp [endStatusField, h, ho]

/-- A job that has not ended has no end status. -/
theorem endStatusField_of_not_ended {j : Job} (h : j.state ≠ .ended) : endStatusField j = 0xFF := by
  cases ho : j.outcome <;> simp [endStatusField, h, ho]

/-- QUERY_JOB changes nothing. -/
theorem runQuery_state (body : List Byte) (s : State) : (runQuery body s).1 = s := by
  unfold runQuery
  repeat' split
  all_goals rfl

/-- QUERY_JOB of a slot above 31. -/
theorem runQuery_badValue {slot : Byte} (h : 32 ≤ slot.toNat) (gen : Byte) (s : State) :
    (runQuery [slot, gen] s).2 = .refused .badValue := by
  simp [runQuery, jobIdOf_eq_none h]

/-- QUERY_JOB of a stale job id. -/
theorem runQuery_stale {slot : Byte} {i : Slot} (h : slot.toNat = i.val) {gen : Byte} {s : State}
    (hs : s.staleId ⟨i, gen⟩ = true) : (runQuery [slot, gen] s).2 = .refused .stale := by
  simp [runQuery, jobIdOf_eq_some h, hs]

/-- QUERY_JOB of a job, answered field by field. -/
theorem runQuery_ok {slot : Byte} {i : Slot} (h : slot.toNat = i.val) {gen : Byte} {s : State} {j : Job}
    (hg : s.genAt i = gen) (hj : s.jobAt i = some j) :
    (runQuery [slot, gen] s).2 = .ok [slot, gen, jobStateCode j.state, byteOf j.attempts, boolCode j.overdue,
      byteOf j.staged, byteOf (j.staged / 256), byteOf j.writeTotal, byteOf (j.writeTotal / 256),
      s.position i j, endStatusField j] := by
  simp [runQuery, jobIdOf_eq_some h, State.staleId_eq_false hg hj, hj, word16, queryFlags_eq, byteOf_eq_of_toNat_eq h]

/-- The outcome of a QUERY_JOB that is executed. -/
theorem exec_queryJob_answered {s : State} {tag : Byte} (h : Takes s tag) (slot gen : Byte) :
    Answered (exec (.queryJob tag [slot, gen]) s) 0x23 tag (runQuery [slot, gen] s.hunting).2 s.hunting := by
  have answered : Answered (exec (.queryJob tag [slot, gen]) s) 0x23 tag (runQuery [slot, gen] s.hunting).2
      (runQuery [slot, gen] s.hunting).1 := answered_of_takes h 0x23 _ (runQuery [slot, gen]) rfl
  rwa [runQuery_state] at answered

/-- Settles O26, from what QUERY_JOB answers in each case of R14. -/
theorem queryJobReadsTheRecord : Obligations.QueryJobReadsTheRecord := by
  unfold Obligations.QueryJobReadsTheRecord
  intro s tag slot gen takes
  have answered := exec_queryJob_answered takes slot gen
  refine ⟨fun hslot => ?badValue, fun i hslot => ⟨fun hstale => ?stale, fun j hgen hjob => ?record⟩⟩
  case badValue => rwa [runQuery_badValue hslot] at answered
  case stale =>
    have hs : s.hunting.staleId ⟨i, gen⟩ = true := (State.staleId_iff s _).mpr hstale
    rwa [runQuery_stale hslot hs] at answered
  case record =>
    rw [runQuery_ok (s := s.hunting) hslot hgen hjob] at answered
    exact ⟨s.hunting.position i j, endStatusField j, answered,
      fun _ _ => State.position_of_queued (s := s.hunting), State.position_of_not_queued _ i,
      fun _ => endStatusField_of_ended, endStatusField_of_not_ended⟩

end Sys2Proof.Machine

/-!
The fields of a SUBMIT: which bytes each field accepts and how it reads them (R5, 13.3, Table 13-4).
-/

namespace Sys2Proof.Machine

/-! ### Single fields -/

/-- A segment byte names the segment of its value. -/
theorem segOf_eq_some_iff {b : Byte} {g : Seg} : segOf b = some g ↔ b.toNat = g.val := by
  unfold segOf
  split
  next h => simp [Fin.ext_iff]
  next h => simpa using (fun e : b.toNat = g.val => h (e ▸ g.isLt))

/-- A byte is 0 or 1 unless it is at least 2. -/
theorem not_two_le_toNat_iff {b : Byte} : ¬ 2 ≤ b.toNat ↔ b = 0 ∨ b = 1 := by
  bv_omega

/-- The target form and the target of a SUBMIT. -/
theorem submitTargetOf_eq_some_iff {body : List Byte} {t : SubmitTarget} :
    submitTargetOf body = some t ↔
      (byteAt body 0 = 0 ∧ t = .handle (byteAt body 1)) ∨
      (byteAt body 0 = 1 ∧ ∃ g : Seg, (byteAt body 2).toNat = g.val ∧ t = .raw g (byteAt body 1)) := by
  by_cases h0 : byteAt body 0 = 0#8
  · simp [submitTargetOf, h0, eq_comm (a := t)]
  by_cases h1 : byteAt body 0 = 1#8
  · simp [submitTargetOf, h1, segOf_eq_some_iff, eq_comm (a := t)]
  · simp [submitTargetOf, h0, h1]

/-- A class byte is 0 or 1. -/
theorem classOf_eq_some_iff {b : Byte} {c : JobClass} :
    classOf b = some c ↔ ¬ 2 ≤ b.toNat ∧ c = if b = 0 then .urgent else .routine := by
  rw [not_two_le_toNat_iff]
  by_cases h0 : b = 0#8
  · simp [classOf, h0, eq_comm (a := c)]
  by_cases h1 : b = 1#8
  · simp [classOf, h1, eq_comm (a := c)]
  · simp [classOf, h0, h1]

/-- An off/on byte is 0 or 1. -/
theorem boolOf_eq_some_iff {b : Byte} {v : Bool} : boolOf b = some v ↔ ¬ 2 ≤ b.toNat ∧ v = decide (b = 1) := by
  rw [not_two_le_toNat_iff]
  by_cases h0 : b = 0#8
  · simp [boolOf, h0]
  by_cases h1 : b = 1#8
  · simp [boolOf, h1]
  · simp [boolOf, h0, h1]

/-- A retry budget is 0 to 7, or 0FFh for 3. -/
theorem retryBudgetOf_eq_some_iff {b : Byte} {n : Nat} :
    retryBudgetOf b = some n ↔ ¬ (7 < b.toNat ∧ b ≠ 0xFF) ∧ n = if b = 0xFF then 3 else b.toNat := by
  by_cases hff : b = 255#8
  · simp [retryBudgetOf, hff, Config.defaultRetryBudget, eq_comm (a := n)]
  by_cases h7 : b.toNat ≤ 7
  · simp [retryBudgetOf, hff, h7, eq_comm (a := n)]
  · simp [retryBudgetOf, hff, h7]

/-- A deadline is at most 60000 ms, and 0 is none. -/
theorem deadlineOf_eq_some_iff {n : Nat} {d : Option Nat} :
    deadlineOf n = some d ↔ ¬ 60000 < n ∧ d = if n = 0 then none else some n := by
  have hmax : Config.maxDeadline = 60000 := rfl
  by_cases h0 : n = 0
  · simp [deadlineOf, h0, eq_comm (a := d)]
  · rw [← hmax]
    simp [deadlineOf, h0, eq_comm (a := d)]

/-- The predecessor of a SUBMIT: absent, or a job id with a slot below 32. -/
theorem predecessorOf_eq_some_iff {body : List Byte} {p : Option JobId} :
    predecessorOf body = some p ↔
      (byteAt body 8 = 0 ∧ p = none) ∨
      (byteAt body 8 = 1 ∧ ∃ i : Slot, (byteAt body 9).toNat = i.val ∧ p = some ⟨i, byteAt body 10⟩) := by
  by_cases h0 : byteAt body 8 = 0#8
  · simp [predecessorOf, h0, eq_comm (a := p)]
  by_cases h1 : byteAt body 8 = 1#8
  · simp [predecessorOf, h1, slotOf_eq_some_iff, eq_comm (a := p)]
  · simp [predecessorOf, h0, h1]

/-- A field that carries no number under form 0 and one below `m` under form 1 is read where its form is 0 or 1, and the
number of form 1 below `m`. -/
theorem exists_eq_some_iff_of_form {α : Type} {m : Nat} {o : Option α} {form value : Byte} {plain : α}
    {carry : Fin m → α}
    (h : ∀ t, o = some t ↔
      (form = 0 ∧ t = plain) ∨ (form = 1 ∧ ∃ n : Fin m, value.toNat = n.val ∧ t = carry n)) :
    (∃ t, o = some t) ↔ ¬ 2 ≤ form.toNat ∧ ¬ (form = 1 ∧ m ≤ value.toNat) := by
  constructor
  · rintro ⟨t, ht⟩
    obtain ⟨h0, -⟩ | ⟨h1, n, hn, -⟩ := (h t).mp ht
    · simp [h0]
    · simp [h1, hn, n.isLt]
  · rintro ⟨hform, hvalue⟩
    obtain h0 | h1 := not_two_le_toNat_iff.mp hform
    · exact ⟨_, (h _).mpr (.inl ⟨h0, rfl⟩)⟩
    · exact ⟨_, (h _).mpr (.inr ⟨h1, ⟨_, Nat.not_le.mp fun hm => hvalue ⟨h1, hm⟩⟩, rfl, rfl⟩)⟩

/-- A target is read where its form is 0 or 1, and the segment of a raw address below 4. -/
theorem submitTargetOf_isSome_iff {body : List Byte} :
    (∃ t, submitTargetOf body = some t) ↔
      ¬ 2 ≤ (byteAt body 0).toNat ∧ ¬ (byteAt body 0 = 1 ∧ 4 ≤ (byteAt body 2).toNat) :=
  exists_eq_some_iff_of_form fun _ => submitTargetOf_eq_some_iff

/-- A predecessor is read where its present byte is 0 or 1, and the slot of one that is present below 32. -/
theorem predecessorOf_isSome_iff {body : List Byte} :
    (∃ p, predecessorOf body = some p) ↔
      ¬ 2 ≤ (byteAt body 8).toNat ∧ ¬ (byteAt body 8 = 1 ∧ 32 ≤ (byteAt body 9).toNat) :=
  exists_eq_some_iff_of_form fun _ => predecessorOf_eq_some_iff

/-! ### The step list -/

/-- The two bytes of step `k` (Table 13-4): its type, and n or max. -/
def stepBytes (body : List Byte) (k : Nat) : Byte × Byte := (byteAt body (12 + 2 * k), byteAt body (13 + 2 * k))

/-- A step that R5 refuses: a type that is none of the three, a READ of 0 bytes, a COUNTED_READ whose
max is 0 or 255. -/
def StepOutOfRange (p : Byte × Byte) : Prop :=
  3 ≤ p.1.toNat ∨ (p.1 = 1 ∧ p.2.toNat = 0) ∨ (p.1 = 2 ∧ (p.2.toNat = 0 ∨ p.2.toNat = 255))

/-- The step that two bytes in range spell: WRITE, READ or COUNTED_READ. -/
def stepSpelled (p : Byte × Byte) : JobStep :=
  if p.1 = 0 then .write p.2.toNat else if p.1 = 1 then .read p.2.toNat else .countedRead p.2.toNat

/-- The steps that a body with `n` steps spells. -/
def stepsSpelled (body : List Byte) (n : Nat) : List JobStep :=
  (List.range n).map fun k => stepSpelled (stepBytes body k)

/-- Two bytes are a step when they lie in range. -/
theorem stepOf_eq_some_iff {p : Byte × Byte} {x : JobStep} :
    stepOf p = some x ↔ ¬ StepOutOfRange p ∧ x = stepSpelled p := by
  obtain ⟨ty, n⟩ := p
  have h0 : n.toNat = 0 ↔ n = 0#8 := by bv_omega
  have h255 : n.toNat = 255 ↔ n = 255#8 := by bv_omega
  have hty : 3 ≤ ty.toNat ↔ ¬ (ty = 0#8 ∨ ty = 1#8 ∨ ty = 2#8) := by bv_omega
  simp only [stepOf, StepOutOfRange, stepSpelled, hty, h0, h255]
  by_cases t0 : ty = 0#8
  · simp [t0, eq_comm (a := x)]
  by_cases t1 : ty = 1#8
  · simp [t1, eq_comm (a := x)]
  by_cases t2 : ty = 2#8
  · simp [t2, eq_comm (a := x)]
  · simp [t0, t1, t2]

/-- The pairs of bytes from an offset on, read one by one. -/
theorem pairsOf_drop {body : List Byte} {n off : Nat} (h : off + 2 * n ≤ body.length) :
    pairsOf n (body.drop off) =
      (List.range n).map fun k => (byteAt body (off + 2 * k), byteAt body (off + 1 + 2 * k)) := by
  induction n generalizing off with
  | zero => rfl
  | succ n ih =>
    have hd : body.drop off = byteAt body off :: byteAt body (off + 1) :: body.drop (off + 2) := by
      rw [List.drop_eq_getElem_cons (by omega), List.drop_eq_getElem_cons (by omega)]
      simp [byteAt, List.getElem?_eq_getElem (show off < body.length by omega),
        List.getElem?_eq_getElem (show off + 1 < body.length by omega)]
    rw [hd, pairsOf, ih (by omega), List.range_succ_eq_map]
    simp only [List.map_cons, List.map_map, Function.comp_def]
    congr 1
    refine List.map_congr_left fun k _ => ?_
    congr 2 <;> omega

/-- All values of a mapped list are there when each of them is. -/
theorem allSome_map_eq_some_iff {α β : Type} {f : α → Option β} {g : α → β} {P : α → Prop}
    (hf : ∀ a b, f a = some b ↔ P a ∧ b = g a) (as : List α) (bs : List β) :
    allSome (as.map f) = some bs ↔ (∀ a ∈ as, P a) ∧ bs = as.map g := by
  induction as generalizing bs with
  | nil => simp [allSome, eq_comm]
  | cons a as ih =>
    cases ha : f a with
    | none =>
      have hP : ¬ P a := fun hp => by simpa [ha] using (hf a (g a)).mpr ⟨hp, rfl⟩
      simp [allSome, ha, hP]
    | some b =>
      obtain ⟨hp, rfl⟩ := (hf a b).mp ha
      simp only [List.map_cons, ha, allSome, Option.map_eq_some_iff, ih, List.forall_mem_cons, hp, true_and]
      exact ⟨fun ⟨_, ⟨hall, htail⟩, hcons⟩ => ⟨hall, by rw [← hcons, htail]⟩,
        fun ⟨hall, hbs⟩ => ⟨_, ⟨hall, rfl⟩, hbs.symm⟩⟩

/-- The steps that the size test counts are those of the count byte when it lies from 1 to 6. -/
theorem countedSteps_eq {body : List Byte} (h1 : ¬ (byteAt body 11).toNat < 1) (h6 : ¬ 6 < (byteAt body 11).toNat) :
    countedSteps body = (byteAt body 11).toNat := by
  simp [countedSteps, Nat.not_lt.mp h1, Nat.not_lt.mp h6]

/-- The size test counts no steps when the count byte does not lie from 1 to 6. -/
theorem countedSteps_eq_zero_iff {body : List Byte} :
    countedSteps body = 0 ↔ ¬ (¬ (byteAt body 11).toNat < 1 ∧ ¬ 6 < (byteAt body 11).toNat) := by
  simp only [countedSteps]
  split <;> omega

/-- The step list of a SUBMIT that passes the size test: 1 to 6 steps, each in range. -/
theorem stepsOf_eq_some_iff {body : List Byte} (size : submitSize body = true) {steps : List JobStep} :
    stepsOf body = some steps ↔
      ¬ (byteAt body 11).toNat < 1 ∧ ¬ 6 < (byteAt body 11).toNat ∧
      ¬ (∃ k, k < (byteAt body 11).toNat ∧ StepOutOfRange (stepBytes body k)) ∧
      steps = stepsSpelled body (byteAt body 11).toNat := by
  unfold stepsOf
  by_cases hcount : ¬ (byteAt body 11).toNat < 1 ∧ ¬ 6 < (byteAt body 11).toNat
  · have hlen : 12 + 2 * (byteAt body 11).toNat ≤ body.length := by
      simpa [submitSize, sizeAtLeast, countedSteps_eq hcount.1 hcount.2] using size
    have hpairs : pairsOf (byteAt body 11).toNat (body.drop 12) =
        (List.range (byteAt body 11).toNat).map (stepBytes body) :=
      pairsOf_drop hlen
    rw [if_neg (fun h0 => countedSteps_eq_zero_iff.mp h0 hcount), countedSteps_eq hcount.1 hcount.2, hpairs,
      allSome_map_eq_some_iff (fun _ _ => stepOf_eq_some_iff)]
    simp only [hcount.1, hcount.2, stepsSpelled, List.forall_mem_map, List.mem_range, List.map_map, Function.comp_def,
      not_exists, not_and, not_false_eq_true, true_and]
  · rw [if_pos (countedSteps_eq_zero_iff.mpr hcount)]
    exact ⟨fun h => (Option.some_ne_none _ h.symm).elim, fun ⟨h1, h6, _⟩ => (hcount ⟨h1, h6⟩).elim⟩

/-! ### Sums over the step list -/

/-- The write total is the sum of what the WRITE steps write (2.2). -/
theorem sum_map_eq_writeTotalOf {f : JobStep → Nat} (hw : ∀ n, f (.write n) = n) (hr : ∀ n, f (.read n) = 0)
    (hc : ∀ n, f (.countedRead n) = 0) (steps : List JobStep) : (steps.map f).sum = writeTotalOf steps := by
  induction steps with
  | nil => rfl
  | cons x steps ih => cases x <;> simp [writeTotalOf, ih, hw, hr, hc]

/-- The read space is the sum of what the READ and COUNTED_READ steps read, count bytes included (2.2). -/
theorem sum_map_eq_readSpaceOf {f : JobStep → Nat} (hw : ∀ n, f (.write n) = 0) (hr : ∀ n, f (.read n) = n)
    (hc : ∀ n, f (.countedRead n) = n + 1) (steps : List JobStep) : (steps.map f).sum = readSpaceOf steps := by
  induction steps with
  | nil => rfl
  | cons x steps ih => cases x <;> simp [readSpaceOf, ih, hw, hr, hc]

/-- A step reads when it is no WRITE. -/
theorem JobStep.isRead_iff (x : JobStep) : x.isRead = true ↔ ∀ n, x ≠ .write n := by
  cases x <;> simp [JobStep.isRead]

/-- A job reads from the broadcast address when its target is the raw byte 0 and one of its steps is no WRITE. -/
theorem broadcastRead_iff {body : List Byte} {t : SubmitTarget} (ht : submitTargetOf body = some t)
    (steps : List JobStep) :
    broadcastRead t steps = true ↔ byteAt body 0 = 1 ∧ byteAt body 1 = 0 ∧ ∃ x ∈ steps, ∀ n, x ≠ .write n := by
  obtain ⟨h0, rfl⟩ | ⟨h1, g, -, rfl⟩ := submitTargetOf_eq_some_iff.mp ht
  · simp [broadcastRead, h0]
  · simp [broadcastRead, h1, JobStep.isRead_iff]

/-! ### The whole request -/

/-- The fields of a SUBMIT are `r`: each is read from its bytes, and the limits of R5 over the step list hold. -/
theorem submitReqOf_eq_some_iff {body : List Byte} {r : SubmitReq} :
    submitReqOf body = some r ↔
      submitTargetOf body = some r.target ∧ classOf (byteAt body 3) = some r.cls ∧
      retryBudgetOf (byteAt body 4) = some r.retryBudget ∧ deadlineOf (wordAt body 5) = some r.deadline ∧
      boolOf (byteAt body 7) = some r.check ∧ predecessorOf body = some r.predecessor ∧
      stepsOf body = some r.steps ∧ r.data = body.drop (12 + 2 * countedSteps body) ∧
      ¬ 480 < writeTotalOf r.steps ∧ ¬ 224 < readReserveOf r.steps r.check ∧ ¬ broadcastRead r.target r.steps = true ∧
      ¬ writeTotalOf r.steps < r.data.length := by
  unfold submitReqOf
  simp only [Option.bind_eq_some_iff]
  constructor
  · rintro ⟨t, ht, c, hc, rb, hrb, dl, hdl, ck, hck, p, hp, st, hst, hr⟩
    split at hr
    · cases hr
    next limits =>
      obtain rfl := Option.some.inj hr
      simp only [not_or] at limits
      exact ⟨ht, hc, hrb, hdl, hck, hp, hst, rfl, limits⟩
  · rintro ⟨ht, hc, hrb, hdl, hck, hp, hst, hdata, limits⟩
    refine ⟨_, ht, _, hc, _, hrb, _, hdl, _, hck, _, hp, _, hst, ?_⟩
    have inLimits : ¬ (Config.maxWriteTotal < writeTotalOf r.steps ∨
        Config.maxReadReserve < readReserveOf r.steps r.check ∨ broadcastRead r.target r.steps = true ∨
        writeTotalOf r.steps < r.data.length) := by
      simp only [not_or]
      exact limits
    rw [← hdata, if_neg inLimits]

/-- The refusals of a SUBMIT by its fields (R5, 13.3), over the bytes of its body. -/
def SubmitOutOfRange (body : List Byte) : Prop :=
  let steps := stepsSpelled body (byteAt body 11).toNat
  2 ≤ (byteAt body 0).toNat ∨ (byteAt body 0 = 1 ∧ 4 ≤ (byteAt body 2).toNat) ∨ 2 ≤ (byteAt body 3).toNat ∨
  (7 < (byteAt body 4).toNat ∧ byteAt body 4 ≠ 0xFF) ∨ 60000 < wordAt body 5 ∨ 2 ≤ (byteAt body 7).toNat ∨
  2 ≤ (byteAt body 8).toNat ∨ (byteAt body 8 = 1 ∧ 32 ≤ (byteAt body 9).toNat) ∨
  (byteAt body 11).toNat < 1 ∨ 6 < (byteAt body 11).toNat ∨
  (∃ k, k < (byteAt body 11).toNat ∧ StepOutOfRange (stepBytes body k)) ∨
  480 < writeTotalOf steps ∨ 224 < readReserveOf steps (decide (byteAt body 7 = 1)) ∨
  (byteAt body 0 = 1 ∧ byteAt body 1 = 0 ∧ ∃ x ∈ steps, ∀ n, x ≠ .write n) ∨
  writeTotalOf steps < (body.drop (12 + 2 * (byteAt body 11).toNat)).length

/-- A SUBMIT is refused by its fields exactly when one of them lies out of range. -/
theorem submitReqOf_eq_none_iff {body : List Byte} (size : submitSize body = true) :
    submitReqOf body = none ↔ SubmitOutOfRange body := by
  rw [← not_iff_not, ← ne_eq, Option.ne_none_iff_exists']
  simp only [SubmitOutOfRange, not_or]
  constructor
  · rintro ⟨r, hr⟩
    obtain ⟨htarget, hcls, hbudget, hdeadline, hcheck, hpred, hsteps, hdata, hwrite, hread, hbroadcast, hlength⟩ :=
      submitReqOf_eq_some_iff.mp hr
    obtain ⟨hfew, hmany, hinRange, hsteps⟩ := (stepsOf_eq_some_iff size).mp hsteps
    obtain ⟨hform, hsegment⟩ := submitTargetOf_isSome_iff.mp ⟨_, htarget⟩
    obtain ⟨hpresent, hslot⟩ := predecessorOf_isSome_iff.mp ⟨_, hpred⟩
    obtain ⟨hcheck, hvalue⟩ := boolOf_eq_some_iff.mp hcheck
    rw [broadcastRead_iff htarget] at hbroadcast
    rw [hdata, countedSteps_eq hfew hmany] at hlength
    rw [hsteps] at hwrite hread hbroadcast hlength
    rw [hvalue] at hread
    exact ⟨hform, hsegment, (classOf_eq_some_iff.mp hcls).1, (retryBudgetOf_eq_some_iff.mp hbudget).1,
      (deadlineOf_eq_some_iff.mp hdeadline).1, hcheck, hpresent, hslot, hfew, hmany, hinRange, hwrite, hread, hbroadcast,
      hlength⟩
  · rintro ⟨hform, hsegment, hcls, hbudget, hdeadline, hcheck, hpresent, hslot, hfew, hmany, hinRange, hwrite, hread,
      hbroadcast, hlength⟩
    obtain ⟨t, ht⟩ := submitTargetOf_isSome_iff.mpr ⟨hform, hsegment⟩
    obtain ⟨p, hp⟩ := predecessorOf_isSome_iff.mpr ⟨hpresent, hslot⟩
    rw [← broadcastRead_iff ht] at hbroadcast
    have hlength : ¬ writeTotalOf (stepsSpelled body (byteAt body 11).toNat) <
        (body.drop (12 + 2 * countedSteps body)).length := by rwa [countedSteps_eq hfew hmany]
    exact ⟨_, submitReqOf_eq_some_iff (r := ⟨t, _, _, _, _, p, _, _⟩).mpr
      ⟨ht, classOf_eq_some_iff.mpr ⟨hcls, rfl⟩, retryBudgetOf_eq_some_iff.mpr ⟨hbudget, rfl⟩,
        deadlineOf_eq_some_iff.mpr ⟨hdeadline, rfl⟩, boolOf_eq_some_iff.mpr ⟨hcheck, rfl⟩, hp,
        (stepsOf_eq_some_iff size).mpr ⟨hfew, hmany, hinRange, rfl⟩, rfl, hwrite, hread, hbroadcast, hlength⟩⟩

/-- The outcome of a SUBMIT that is executed. -/
theorem exec_submit_answered {s : State} {tag : Byte} (h : Takes s tag) {body : List Byte}
    (size : submitSize body = true) :
    Answered (exec (.submit tag body) s) 0x20 tag (runSubmit body s.hunting).2 (runSubmit body s.hunting).1 :=
  answered_of_takes h 0x20 _ (runSubmit body) size

/-- A SUBMIT that its fields refuse is answered BAD_VALUE and changes nothing. -/
theorem runSubmit_of_none {body : List Byte} (h : submitReqOf body = none) (s : State) :
    runSubmit body s = (s, .refused .badValue) := by
  simp [runSubmit, h]

/-- Settles O20: the fields are read one by one, and refused together exactly when one is out of range. -/
theorem submitFieldsOutOfRange : Obligations.SubmitFieldsOutOfRange := by
  unfold Obligations.SubmitFieldsOutOfRange
  intro s tag body takes size writeTotal readReserve deadline count step steps outOfRange
  have writeTotal_eq : writeTotal = writeTotalOf :=
    funext (sum_map_eq_writeTotalOf (fun _ => rfl) (fun _ => rfl) (fun _ => rfl))
  have readReserve_eq : readReserve = readReserveOf := by
    funext steps check
    refine congrArg₂ (· + ·) (sum_map_eq_readSpaceOf (fun _ => rfl) (fun _ => rfl) (fun _ => rfl) steps) ?_
    cases steps.getLast? with
    | none => simp
    | some last => cases last <;> cases check <;> rfl
  have outOfRange_iff : outOfRange ↔ SubmitOutOfRange body := by
    simp only [outOfRange, writeTotal_eq, readReserve_eq]
    exact Iff.rfl
  rw [outOfRange_iff, ← submitReqOf_eq_none_iff size]
  refine ⟨fun hnone => ?_, fun hsome => ?_⟩
  · have answered := exec_submit_answered takes size
    rwa [runSubmit_of_none hnone] at answered
  · obtain ⟨r, hr⟩ := Option.ne_none_iff_exists'.mp hsome
    obtain ⟨htarget, hcls, hbudget, hdeadline, hcheck, hpred, hsteps, hdata, -⟩ := submitReqOf_eq_some_iff.mp hr
    obtain ⟨hfew, hmany, -, hsteps⟩ := (stepsOf_eq_some_iff size).mp hsteps
    rw [countedSteps_eq hfew hmany] at hdata
    refine ⟨r, hr, fun h0 => ?_, fun g h1 hg => ?_, (classOf_eq_some_iff.mp hcls).2,
      (retryBudgetOf_eq_some_iff.mp hbudget).2, (deadlineOf_eq_some_iff.mp hdeadline).2,
      (boolOf_eq_some_iff.mp hcheck).2, fun h0 => ?_, fun i h1 hi => ?_, hsteps, hdata⟩
    · exact Option.some.inj (htarget.symm.trans (submitTargetOf_eq_some_iff.mpr (.inl ⟨h0, rfl⟩)))
    · exact Option.some.inj (htarget.symm.trans (submitTargetOf_eq_some_iff.mpr (.inr ⟨h1, g, hg, rfl⟩)))
    · exact Option.some.inj (hpred.symm.trans (predecessorOf_eq_some_iff.mpr (.inl ⟨h0, rfl⟩)))
    · exact Option.some.inj (hpred.symm.trans (predecessorOf_eq_some_iff.mpr (.inr ⟨h1, i, hi, rfl⟩)))

end Sys2Proof.Machine

/-!
The station that a POST_REPLY or a WITHDRAW_REPLY points at (R133, R134), and WITHDRAW_REPLY (R134).
-/

namespace Sys2Proof.Machine

/-! ### The station of a request -/


/-- A station byte names the station of its value. -/
theorem stationOf_eq_some_iff {b : Byte} {ix : StationIx} : stationOf b = some ix ↔ b.toNat = ix.val := by
  unfold stationOf
  split
  next h => simp [Fin.ext_iff]
  next h => simpa using (fun e : b.toNat = ix.val => h (e ▸ ix.isLt))

/-- A segment above 3 or a station above 1 is refused BAD_VALUE (R133). -/
theorem State.checkStation_badValue (s : State) {body : List Byte}
    (h : 4 ≤ (byteAt body 0).toNat ∨ 2 ≤ (byteAt body 1).toNat) : s.checkStation body = .bad .badValue := by
  rcases h with hseg | hindex
  · simp [State.checkStation, segOf, Nat.not_lt.mpr hseg]
  · simp [State.checkStation, stationOf, Nat.not_lt.mpr hindex]

/-- A station whose enable is off is refused NOT_FOUND (R133). -/
theorem State.checkStation_notFound {s : State} {body : List Byte} {g : Seg} {ix : StationIx}
    (hg : (byteAt body 0).toNat = g.val) (hix : (byteAt body 1).toNat = ix.val)
    (off : ((s.seg g).config.station ix).enable = false) : s.checkStation body = .bad .notFound := by
  simp [State.checkStation, segOf_eq_some_iff.mpr hg, stationOf_eq_some_iff.mpr hix, off]

/-- A station whose enable is on is found (R133). -/
theorem State.checkStation_good {s : State} {body : List Byte} {g : Seg} {ix : StationIx}
    (hg : (byteAt body 0).toNat = g.val) (hix : (byteAt body 1).toNat = ix.val)
    (on : ((s.seg g).config.station ix).enable = true) : s.checkStation body = .good g ix := by
  simp [State.checkStation, segOf_eq_some_iff.mpr hg, stationOf_eq_some_iff.mpr hix, on]

/-! ### The service after a reply is posted or withdrawn -/

/-- A read of the station keeps its snapshot, which is no longer the posted reply (R134). -/
@[simp] theorem Service.outdated_reading (ix : StationIx) (q : PostedReply) (c : Bool) :
    (Service.reading ix q c).outdated ix = .reading ix q false := by
  simp [Service.outdated]

/-- Every service but a read of the station goes on as it is, a held read among them (R134). -/
theorem Service.outdated_of_not_reading {sv : Service} {ix : StationIx} (h : ∀ q c, sv ≠ .reading ix q c) :
    sv.outdated ix = sv := by
  cases sv with
  | reading k q c =>
    have hk : k ≠ ix := fun e => h q c (e ▸ rfl)
    simp [Service.outdated, hk]
  | none | awaiting | passive | receiving | holding => rfl

/-- What R134 says of the service, read of the station or not, makes it the outdated one. -/
theorem Service.eq_outdated {sv sv' : Service} {ix : StationIx}
    (reading : ∀ q c, sv = .reading ix q c → sv' = .reading ix q false)
    (other : (∀ q c, sv ≠ .reading ix q c) → sv' = sv) : sv' = sv.outdated ix := by
  by_cases h : ∃ q c, sv = .reading ix q c
  · obtain ⟨q, c, rfl⟩ := h
    rw [Service.outdated_reading]
    exact reading q c rfl
  · have notReading : ∀ q c, sv ≠ .reading ix q c := fun q c e => h ⟨q, c, e⟩
    rw [Service.outdated_of_not_reading notReading]
    exact other notReading

/-! ### The answer to WITHDRAW_REPLY -/

/-- WITHDRAW_REPLY of a station that is refused changes nothing. -/
theorem runWithdraw_bad {s : State} {body : List Byte} {st : Status} (h : s.checkStation body = .bad st) :
    runWithdraw body s = (s, .refused st) := by
  simp [runWithdraw, h]

/-- WITHDRAW_REPLY of a station that is found removes its posted reply and answers whether there was one. -/
theorem runWithdraw_good {s : State} {body : List Byte} {g : Seg} {ix : StationIx}
    (h : s.checkStation body = .good g ix) :
    runWithdraw body s = (s.modSeg g (·.withdraw ix), .ok [boolCode ((s.seg g).station ix).posted.isSome]) := by
  simp [runWithdraw, h]

/-- The outcome of a WITHDRAW_REPLY that is executed. -/
theorem exec_withdrawReply_answered {s : State} {tag : Byte} (h : Takes s tag) (seg index : Byte) :
    Answered (exec (.withdrawReply tag [seg, index]) s) 0x39 tag (runWithdraw [seg, index] s.hunting).2
      (runWithdraw [seg, index] s.hunting).1 :=
  answered_of_takes h 0x39 _ (runWithdraw [seg, index]) rfl

/-- Settles O48, by where the request points: no station, one whose enable is off, or one whose posted reply it
removes. -/
theorem withdrawRemovesPostedReply : Obligations.WithdrawRemovesPostedReply := by
  unfold Obligations.WithdrawRemovesPostedReply
  intro s tag seg index takes
  have answered := exec_withdrawReply_answered takes seg index
  refine ⟨fun outside => ?badValue, fun g ix hg hix => ⟨fun off => ?notFound, fun on sv reading other => ?removed⟩⟩
  case badValue =>
    rwa [runWithdraw_bad (s.hunting.checkStation_badValue (body := [seg, index]) outside)] at answered
  case notFound =>
    rwa [runWithdraw_bad (State.checkStation_notFound (s := s.hunting) (body := [seg, index]) hg hix off)] at answered
  case removed =>
    rw [runWithdraw_good (State.checkStation_good (s := s.hunting) (body := [seg, index]) hg hix on)] at answered
    have removal : s.hunting.modSeg g (·.withdraw ix) = s.hunting.modSeg g fun sg =>
        { sg.modStation ix (fun st => { st with posted := none }) with service := sv } := by
      refine State.modSeg_congr _ g ?_
      rw [Service.eq_outdated reading other]
      rfl
    rwa [removal] at answered

end Sys2Proof.Machine

/-!
The answer to STATUS (R177).
-/

namespace Sys2Proof.Machine

/-- The answer to STATUS is taken from the Broker: the receiver, which hunts once the request is received, has no part
in it (R166, R177). -/
theorem statusAnswer_hunting (s : State) : statusAnswer s.hunting = statusAnswer s := rfl

/-- The outcome of a STATUS that is executed: its answer, and nothing else changed. -/
theorem exec_status_answered {s : State} {tag : Byte} (h : Takes s tag) :
    Answered (exec (.status tag []) s) 0x01 tag (statusAnswer s) s.hunting := by
  rw [← statusAnswer_hunting]
  exact answered_of_takes h 0x01 _ (fun s => (s, statusAnswer s)) rfl

/-- Settles O12: the four code tables are read off, and what an executed STATUS answers is written out field by
field. -/
theorem statusReportsTheBroker : Obligations.StatusReportsTheBroker := by
  unfold Obligations.StatusReportsTheBroker
  refine ⟨?scCodes, ?monitorCodes, ?sweepCodes, ?noticeCodes, fun s tag takes => ?answer⟩
  case scCodes => rfl
  case monitorCodes => rfl
  case sweepCodes => rfl
  case noticeCodes => rfl
  case answer =>
    have answered := exec_status_answered takes
    simpa only [statusAnswer, State.freeSlots, State.sentCount, segmentStatus, allSegs] using answered

end Sys2Proof.Machine

/-!
The Report Queue and the claim list (R170 to R172, R176): the laws that hold of them, and what an entry of a report does
to these laws.
-/

namespace Sys2Proof.Machine

/-- The laws of a Report Queue `rs` with next sequence `q` and ATTN level `attn` (R170, R171, R176). -/
structure ReportsOk (rs : List Report) (q : BitVec 8) (attn : Bool) : Prop where
  size : rs.length ≤ 64
  sentFirst : rs = rs.filter (·.sent) ++ rs.filter (!·.sent)
  window : (rs.filter (·.sent)).length ≤ 16
  sequences : rs.map (·.seq) = sequencesBefore q rs.length
  attn : attn = !rs.isEmpty

/-- The laws of the Report Queue and the claim list of a state: a claim waits only while the queue is full (R172). -/
structure QueueOk (rs : List Report) (q : BitVec 8) (cs : List Claimant) (attn : Bool) : Prop where
  reports : ReportsOk rs q attn
  claims : cs ≠ [] → rs.length = 64

/-- The empty queue meets its laws, whatever the next sequence. -/
theorem ReportsOk.empty (q : BitVec 8) : ReportsOk [] q false := by
  constructor <;> simp [sequencesBefore]

/-- One more entry takes the next sequence (R171). -/
theorem sequencesBefore_succ (q : BitVec 8) (n : Nat) :
    sequencesBefore (q + 1) (n + 1) = sequencesBefore q n ++ [q] := by
  have back : ∀ m : Nat, q + 1 - BitVec.ofNat 8 (m + 1) = q - BitVec.ofNat 8 m := fun m => by
    rw [BitVec.ofNat_add]; bv_omega
  have shift : ∀ k ∈ List.range n, q + 1 - BitVec.ofNat 8 (n + 1 - k) = q - BitVec.ofNat 8 (n - k) := fun k hk => by
    rw [Nat.succ_sub (List.mem_range.mp hk).le, back]
  rw [sequencesBefore, List.range_succ, List.map_append, List.map_congr_left shift]
  simp [sequencesBefore]

/-- A report that enters the tail of the queue keeps its laws (R171, R176). -/
theorem ReportsOk.enqueue {rs : List Report} {q : BitVec 8} {attn : Bool} (h : ReportsOk rs q attn)
    (room : rs.length < 64) (kind : Byte) (body : List Byte) (owner : Claimant) :
    ReportsOk (rs ++ [⟨kind, q, body, owner, false⟩]) (q + 1) true where
  size := by simpa using room
  sentFirst := by
    have := h.sentFirst
    simp only [List.filter_append]
    simpa [← List.append_assoc] using this
  window := by simpa [List.filter_append] using h.window
  sequences := by rw [List.map_append, h.sequences, List.length_append]; exact (sequencesBefore_succ q rs.length).symm
  attn := by simp

/-- What a claimant gives up leaves the queue and the claim list as they are. -/
theorem clearClaim_queue (s : State) (c : Claimant) :
    (clearClaim s c).reports = s.reports ∧ (clearClaim s c).nextSeq = s.nextSeq ∧
      (clearClaim s c).claims = s.claims ∧ (clearClaim s c).attn = s.attn := by
  cases c with
  | notice g =>
    simp only [clearClaim, State.noticeChoice, State.markChoice]
    repeat' split
    all_goals exact ⟨rfl, rfl, rfl, rfl⟩
  | _ => exact ⟨rfl, rfl, rfl, rfl⟩

/-- Taking the oldest claim with room in the queue keeps the laws of the queue. -/
theorem takeOldestClaim_reportsOk {s : State} (h : ReportsOk s.reports s.nextSeq s.attn) (room : s.reports.length < 64) :
    ReportsOk (takeOldestClaim s).reports (takeOldestClaim s).nextSeq (takeOldestClaim s).attn := by
  unfold takeOldestClaim
  split
  · exact h
  · next c rest _ =>
    split
    · exact h
    · next r _ =>
      obtain ⟨hreports, hseq, -, -⟩ := clearClaim_queue { s with claims := rest } c
      simpa only [State.enqueueReport, hreports, hseq] using h.enqueue room r.1 r.2 c

/-- Taking the oldest claim leaves the later ones. -/
theorem takeOldestClaim_claims (s : State) : (takeOldestClaim s).claims = s.claims.tail := by
  unfold takeOldestClaim
  split
  · next h => rw [h]; rfl
  · next c rest h =>
    split
    · rw [h]; rfl
    · rw [h]
      exact (clearClaim_queue { s with claims := rest } c).2.2.1

/-- Taking claims keeps the laws of the queue. -/
theorem takeClaims_reportsOk (n : Nat) {s : State} (h : ReportsOk s.reports s.nextSeq s.attn) :
    ReportsOk (takeClaims n s).reports (takeClaims n s).nextSeq (takeClaims n s).attn := by
  induction n generalizing s with
  | zero => exact h
  | succ n ih =>
    unfold takeClaims
    split
    · next room => exact ih (takeOldestClaim_reportsOk h room.1)
    · exact h

/-- Claims are taken until the queue is full or none waits (R172). -/
theorem takeClaims_claims (n : Nat) {s : State} (enough : s.claims.length ≤ n) (h : ReportsOk s.reports s.nextSeq s.attn) :
    (takeClaims n s).claims ≠ [] → (takeClaims n s).reports.length = 64 := by
  induction n generalizing s with
  | zero =>
    intro waits
    exact absurd (List.eq_nil_of_length_eq_zero (Nat.le_zero.mp enough)) waits
  | succ n ih =>
    unfold takeClaims
    split
    · next room =>
      refine ih ?_ (takeOldestClaim_reportsOk h room.1)
      rw [takeOldestClaim_claims, List.length_tail]
      omega
    · next full =>
      intro waits
      have : ¬ s.reports.length < 64 := fun room => full ⟨room, waits⟩
      exact le_antisymm h.size (Nat.not_lt.mp this)

/-- Filling the queue from the claim list brings both to their laws (R172). -/
theorem State.fillQueue_queueOk {s : State} (h : ReportsOk s.reports s.nextSeq s.attn) :
    QueueOk s.fillQueue.reports s.fillQueue.nextSeq s.fillQueue.claims s.fillQueue.attn :=
  ⟨takeClaims_reportsOk _ h, takeClaims_claims _ le_rfl h⟩

/-- Placing a claim keeps the laws of the queue and the claim list. -/
theorem State.placeClaim_queueOk {s : State} (h : QueueOk s.reports s.nextSeq s.claims s.attn) (c : Claimant) :
    QueueOk (s.placeClaim c).reports (s.placeClaim c).nextSeq (s.placeClaim c).claims (s.placeClaim c).attn :=
  State.fillQueue_queueOk (s := { s with claims := s.claims ++ [c] }) h.reports

end Sys2Proof.Machine

/-!
Relations "`t` differs from `s` at most in ...", through which the invariants are kept. `Calm` is the narrowest: claims,
reports, the notice service, presence and the bookkeeping of a sweep. `CalmJobs` lets the Job Table and the class lists
change too, and `CalmEnrol` the Roster and the engines; `Steady` is what these two have in common, and `Still` lets the
Segment Controller, the bus monitor, the services and the jobs change. Each operation of the model is placed once in the
narrowest that holds of it.
-/

namespace Sys2Proof.Machine

/-! ### Roster entries and the engine -/

/-- Segment, address and kind of an entry, which no signal changes. -/
def Entry.place (e : Entry) : Seg × Addr × EntryKind := (e.segment, e.address, e.kind)

/-- A roster entry stands where another stood, and meets its laws if that one did. -/
structure EntryCalm (a b : Option Entry) : Prop where
  place : a.map Entry.place = b.map Entry.place
  ok : (∀ e, b = some e → EntryOk e) → ∀ e, a = some e → EntryOk e

@[refl] theorem EntryCalm.refl (a : Option Entry) : EntryCalm a a := ⟨rfl, id⟩

theorem EntryCalm.trans {a b c : Option Entry} (h : EntryCalm a b) (k : EntryCalm b c) : EntryCalm a c :=
  ⟨h.place.trans k.place, h.ok ∘ k.ok⟩

/-- An entry changed in place. -/
theorem EntryCalm.changed {a b : Entry} (place : a.place = b.place) (ok : EntryOk b → EntryOk a) :
    EntryCalm (some a) (some b) :=
  ⟨by simp [place], fun h e he => by cases he; exact ok (h b rfl)⟩

/-- The chosen address is given up, or stays with the ASSIGN in hand and its identity (R112). -/
def Engine.Calm (a b : Engine) : Prop :=
  a.chosen = none ∨
    (a.chosen = b.chosen ∧ (b.state = .assigning → a.state = .assigning ∧ a.current = b.current))

@[refl] theorem Engine.Calm.refl (a : Engine) : a.Calm a := .inr ⟨rfl, fun h => ⟨h, rfl⟩⟩

theorem Engine.Calm.trans {a b c : Engine} (h : a.Calm b) (k : b.Calm c) : a.Calm c := by
  rcases h with h | ⟨h, hs⟩
  · exact .inl h
  · rcases k with k | ⟨k, ks⟩
    · exact .inl (h.trans k)
    · exact .inr ⟨h.trans k, fun hc =>
        ⟨(hs (ks hc).1).1, (hs (ks hc).1).2.trans (ks hc).2⟩⟩

/-! ### Blocks of messages -/

/-- The blocks that some messages hold (R149). -/
def blocksOf (ms : List Message) : Nat := (ms.map fun m => (m.bytes.length + 31) / 32).sum

@[simp] theorem blocksOf_nil : blocksOf [] = 0 := rfl

@[simp] theorem blocksOf_cons (m : Message) (ms : List Message) :
    blocksOf (m :: ms) = (m.bytes.length + 31) / 32 + blocksOf ms := by
  simp [blocksOf]

@[simp] theorem blocksOf_append (xs ys : List Message) : blocksOf (xs ++ ys) = blocksOf xs + blocksOf ys := by
  simp [blocksOf]

/-- A mark takes no blocks. -/
@[simp] theorem blocksOf_markReported (ms : List Message) : blocksOf (markReported ms) = blocksOf ms := by
  induction ms with
  | nil => rfl
  | cons m ms ih => unfold markReported; split <;> simp [ih]

/-- What a change of one inbound list reads back. -/
theorem Segment.inboundAt_modInbound (sg : Segment) (r k : RecordIx) (f : List Message → List Message) :
    (sg.modInbound r f).inboundAt k = if k = r then f (sg.inboundAt k) else sg.inboundAt k := by
  by_cases h : k = r
  · subst h; simp [Segment.inboundAt, Segment.modInbound]
  · have : r.val ≠ k.val := fun e => h (Fin.ext e.symm)
    simp [Segment.inboundAt, Segment.modInbound, h, this]

/-! ### The relations -/

/-- The laws of the Host Link's queue hold of a state. -/
def State.QueueOk (s : State) : Prop := Machine.QueueOk s.reports s.nextSeq s.claims s.attn

/-- What the Roster looks at of one segment: its configuration, the ASSIGN in hand, and that it is enabled still. -/
structure Segment.Still (a b : Segment) : Prop where
  config : a.config = b.config
  enabled : b.enabled = true → a.enabled = true
  engine : a.engine.Calm b.engine

/-- What the Segment Controller, the Station Unit and the fairness law look at of one segment. -/
structure Segment.Steady (a b : Segment) : Prop where
  sc : a.sc = b.sc
  monitor : a.monitor = b.monitor
  stretch : a.stretch = b.stretch
  recoverRequested : a.recoverRequested = b.recoverRequested
  handed : a.handed = b.handed
  service : a.service = b.service
  inbound : ∀ r, blocksOf (a.inboundAt r) = blocksOf (b.inboundAt r)
  fairness : b.fairness ≤ 4 → a.fairness ≤ 4
  routine : (b.routine = [] → b.fairness = 0) → a.routine = [] → a.fairness = 0

/-- Both of these. -/
structure Segment.CalmJobs (a b : Segment) : Prop extends Segment.Still a b, Segment.Steady a b

/-- What Dispatch looks at of one segment besides: the class lists and the current job. -/
structure Segment.CalmEnrol (a b : Segment) : Prop extends Segment.Steady a b where
  urgentList : a.urgent = b.urgent
  routineList : a.routine = b.routine
  current : a.current = b.current

/-- All of these. -/
structure Segment.Calm (a b : Segment) : Prop extends Segment.CalmJobs a b, Segment.CalmEnrol a b

/-- The receiver and the frame being sent, with what is outside the Broker: the straps and the command queue. -/
def State.outside (s : State) := (s.rx, s.htx, s.rate1, s.rate0, s.pending)

/-- Two states that agree in what the laws of the Host Link Controller look at. -/
structure State.HostStill (t s : State) : Prop where
  replies : t.replies = s.replies
  cache : t.cache = s.cache
  rstLow : t.rstLow = s.rstLow
  restart : t.restart = s.restart
  outside : t.outside = s.outside
  queue : s.QueueOk → t.QueueOk

/-- Two states that agree in what the laws of the Host Link Controller and of the Roster look at. -/
structure State.Still (t s : State) : Prop extends State.HostStill t s where
  entry : ∀ h, EntryCalm (t.entryAt h) (s.entryAt h)
  stillSeg : ∀ g, (t.seg g).Still (s.seg g)

/-- Two states that differ at most in the Job Table, the class lists, the Roster, the engines, the notice services and
what claimants give up. -/
structure State.Steady (t s : State) : Prop extends State.HostStill t s where
  poolFree : t.poolFree = s.poolFree
  accepted : t.accepted = s.accepted
  blocks : ∀ i, (t.jobAt i).map (·.blocksHeld) = (s.jobAt i).map (·.blocksHeld)
  gen : ∀ i, t.genAt i = s.genAt i
  steadySeg : ∀ g, (t.seg g).Steady (s.seg g)

/-- Two states that differ at most in the Job Table, the class lists, the notice services, the bookkeeping of sweeps,
presence and what claimants give up. -/
structure State.CalmJobs (t s : State) : Prop extends State.Still t s, State.Steady t s

/-- Two states that differ at most in the Roster, the engines, the notice services and what claimants give up. -/
structure State.CalmEnrol (t s : State) : Prop extends State.Steady t s where
  slots : t.slots = s.slots
  heldSet : t.heldSet = s.heldSet
  enrolSeg : ∀ g, (t.seg g).CalmEnrol (s.seg g)

/-- Two states that differ at most in the notice services, the bookkeeping of sweeps, presence and what claimants give
up. -/
structure State.Calm (t s : State) : Prop extends State.CalmJobs t s, State.CalmEnrol t s

/-! ### Each is a preorder -/

@[refl] theorem Segment.Still.refl (a : Segment) : a.Still a := ⟨rfl, id, .refl _⟩

@[refl] theorem Segment.Steady.refl (a : Segment) : a.Steady a :=
  ⟨rfl, rfl, rfl, rfl, rfl, rfl, fun _ => rfl, id, id⟩

@[refl] theorem Segment.CalmEnrol.refl (a : Segment) : a.CalmEnrol a := ⟨.refl a, rfl, rfl, rfl⟩

@[refl] theorem State.HostStill.refl (s : State) : s.HostStill s := ⟨rfl, rfl, rfl, rfl, rfl, id⟩

@[refl] theorem State.Still.refl (s : State) : s.Still s := ⟨.refl s, fun _ => .refl _, fun _ => .refl _⟩

@[refl] theorem State.Steady.refl (s : State) : s.Steady s :=
  ⟨.refl s, rfl, rfl, fun _ => rfl, fun _ => rfl, fun _ => .refl _⟩

@[refl] theorem State.CalmEnrol.refl (s : State) : s.CalmEnrol s := ⟨.refl s, rfl, rfl, fun _ => .refl _⟩

/-- A state that is still and steady with another differs from it at most in jobs. -/
theorem State.CalmJobs.of {t s : State} (h : t.Still s) (k : t.Steady s) : t.CalmJobs s :=
  ⟨h, k.poolFree, k.accepted, k.blocks, k.gen, k.steadySeg⟩

/-- A state that is still with another, and differs from it at most in the Roster and the engines, is calm with it. -/
theorem State.Calm.of {t s : State} (h : t.Still s) (k : t.CalmEnrol s) : t.Calm s :=
  ⟨.of h k.toSteady, k.slots, k.heldSet, k.enrolSeg⟩

@[refl] theorem State.CalmJobs.refl (s : State) : s.CalmJobs s := .of (.refl s) (.refl s)

@[refl] theorem State.Calm.refl (s : State) : s.Calm s := .of (.refl s) (.refl s)

theorem Segment.Still.trans {a b c : Segment} (h : a.Still b) (k : b.Still c) : a.Still c :=
  ⟨h.config.trans k.config, h.enabled ∘ k.enabled, h.engine.trans k.engine⟩

theorem Segment.Steady.trans {a b c : Segment} (h : a.Steady b) (k : b.Steady c) : a.Steady c where
  sc := h.sc.trans k.sc
  monitor := h.monitor.trans k.monitor
  stretch := h.stretch.trans k.stretch
  recoverRequested := h.recoverRequested.trans k.recoverRequested
  handed := h.handed.trans k.handed
  service := h.service.trans k.service
  inbound r := (h.inbound r).trans (k.inbound r)
  fairness := h.fairness ∘ k.fairness
  routine := h.routine ∘ k.routine

theorem Segment.CalmEnrol.trans {a b c : Segment} (h : a.CalmEnrol b) (k : b.CalmEnrol c) : a.CalmEnrol c :=
  ⟨h.toSteady.trans k.toSteady, h.urgentList.trans k.urgentList, h.routineList.trans k.routineList,
    h.current.trans k.current⟩

theorem State.HostStill.trans {a b c : State} (h : a.HostStill b) (k : b.HostStill c) : a.HostStill c :=
  ⟨h.replies.trans k.replies, h.cache.trans k.cache, h.rstLow.trans k.rstLow, h.restart.trans k.restart,
    h.outside.trans k.outside, h.queue ∘ k.queue⟩

theorem State.HostStill.rx {t s : State} (h : t.HostStill s) : t.rx = s.rx := congrArg Prod.fst h.outside

theorem State.Still.trans {a b c : State} (h : a.Still b) (k : b.Still c) : a.Still c :=
  ⟨h.toHostStill.trans k.toHostStill, fun i => (h.entry i).trans (k.entry i),
    fun g => (h.stillSeg g).trans (k.stillSeg g)⟩

theorem State.Steady.trans {a b c : State} (h : a.Steady b) (k : b.Steady c) : a.Steady c where
  toHostStill := h.toHostStill.trans k.toHostStill
  poolFree := h.poolFree.trans k.poolFree
  accepted := h.accepted.trans k.accepted
  blocks i := (h.blocks i).trans (k.blocks i)
  gen i := (h.gen i).trans (k.gen i)
  steadySeg g := (h.steadySeg g).trans (k.steadySeg g)

theorem State.CalmJobs.trans {a b c : State} (h : a.CalmJobs b) (k : b.CalmJobs c) : a.CalmJobs c :=
  .of (h.toStill.trans k.toStill) (h.toSteady.trans k.toSteady)

theorem State.CalmEnrol.trans {a b c : State} (h : a.CalmEnrol b) (k : b.CalmEnrol c) : a.CalmEnrol c :=
  ⟨h.toSteady.trans k.toSteady, h.slots.trans k.slots, h.heldSet.trans k.heldSet,
    fun g => (h.enrolSeg g).trans (k.enrolSeg g)⟩

theorem State.Calm.trans {a b c : State} (h : a.Calm b) (k : b.Calm c) : a.Calm c :=
  .of (h.toStill.trans k.toStill) (h.toCalmEnrol.trans k.toCalmEnrol)

/-! ### Updates -/

/-- What the Segment Controller's and Dispatch's relations look at of a segment. -/
def Segment.core (sg : Segment) :=
  (sg.sc, sg.monitor, sg.stretch, sg.recoverRequested, sg.handed, sg.service, sg.inbound, sg.urgent, sg.routine,
    sg.current, sg.fairness)

/-- A change of what `CalmEnrol` does not look at. -/
theorem Segment.CalmEnrol.of_core {a b : Segment} (h : a.core = b.core) : a.CalmEnrol b := by
  simp only [Segment.core, Prod.mk.injEq] at h
  obtain ⟨sc, monitor, stretch, recover, handed, service, inbound, urgent, routine, current, count⟩ := h
  exact ⟨⟨sc, monitor, stretch, recover, handed, service, fun r => by rw [Segment.inboundAt, Segment.inboundAt, inbound],
    by rw [count]; exact id, by rw [count, routine]; exact id⟩, urgent, routine, current⟩

/-- A change of what no relation looks at. -/
theorem Segment.Calm.of_core {a b : Segment} (core : a.core = b.core) (config : a.config = b.config)
    (engine : a.engine.Calm b.engine) : a.Calm b :=
  have enrol := Segment.CalmEnrol.of_core core
  ⟨⟨⟨config, by rw [Segment.enabled, Segment.enabled, enrol.sc]; exact id, engine⟩, enrol.toSteady⟩, enrol.urgentList,
    enrol.routineList, enrol.current⟩

/-- A property of every segment after a change of one. -/
theorem State.forall_seg_modSeg {R : Segment → Segment → Prop} (refl : ∀ a, R a a) (s : State) (g : Seg)
    {f : Segment → Segment} (h : R (f (s.seg g)) (s.seg g)) (k : Seg) : R ((s.modSeg g f).seg k) (s.seg k) := by
  by_cases hk : k = g
  · subst hk; rwa [State.seg_modSeg_self]
  · rw [State.seg_modSeg_ne _ _ _ _ hk]; exact refl _

theorem State.HostStill.modSeg (s : State) (g : Seg) (f : Segment → Segment) : (s.modSeg g f).HostStill s :=
  ⟨rfl, rfl, rfl, rfl, rfl, id⟩

theorem State.Still.modSeg (s : State) (g : Seg) {f : Segment → Segment} (h : (f (s.seg g)).Still (s.seg g)) :
    (s.modSeg g f).Still s :=
  ⟨.modSeg s g f, fun _ => .refl _, State.forall_seg_modSeg .refl s g h⟩

theorem State.Steady.modSeg (s : State) (g : Seg) {f : Segment → Segment} (h : (f (s.seg g)).Steady (s.seg g)) :
    (s.modSeg g f).Steady s :=
  ⟨.modSeg s g f, rfl, rfl, fun _ => rfl, fun _ => rfl, State.forall_seg_modSeg .refl s g h⟩

theorem State.CalmJobs.modSeg (s : State) (g : Seg) {f : Segment → Segment} (h : (f (s.seg g)).CalmJobs (s.seg g)) :
    (s.modSeg g f).CalmJobs s :=
  .of (.modSeg s g h.toStill) (.modSeg s g h.toSteady)

theorem State.CalmEnrol.modSeg (s : State) (g : Seg) {f : Segment → Segment} (h : (f (s.seg g)).CalmEnrol (s.seg g)) :
    (s.modSeg g f).CalmEnrol s :=
  ⟨.modSeg s g h.toSteady, rfl, rfl, State.forall_seg_modSeg .refl s g h⟩

theorem State.Calm.modSeg (s : State) (g : Seg) {f : Segment → Segment} (h : (f (s.seg g)).Calm (s.seg g)) :
    (s.modSeg g f).Calm s :=
  .of (.modSeg s g h.toStill) (.modSeg s g h.toCalmEnrol)

/-- The Roster is not looked at by `CalmEnrol`. -/
theorem State.CalmEnrol.putEntry (s : State) (h : Handle) (e : Option Entry) : (s.putEntry h e).CalmEnrol s :=
  ⟨⟨⟨rfl, rfl, rfl, rfl, rfl, id⟩, rfl, rfl, fun _ => rfl, fun _ => rfl, fun _ => .refl _⟩, rfl, rfl, fun _ => .refl _⟩

/-- A roster entry changed in place. -/
theorem State.Calm.putEntry (s : State) (h : Handle) {e : Option Entry} (calm : EntryCalm e (s.entryAt h)) :
    (s.putEntry h e).Calm s := by
  refine .of ⟨⟨rfl, rfl, rfl, rfl, rfl, id⟩, fun k => ?_, fun _ => .refl _⟩ (.putEntry s h e)
  by_cases hk : k = h
  · subst hk; rwa [State.entryAt_putEntry_self]
  · rw [State.entryAt_putEntry_ne _ _ _ _ hk]

/-- The choice points that are due are looked at by none of these. -/
theorem State.Calm.withChoiceDue (s : State) (due : List Seg) : State.Calm { s with choiceDue := due } s :=
  .of ⟨⟨rfl, rfl, rfl, rfl, rfl, id⟩, fun _ => .refl _, fun _ => .refl _⟩
    ⟨⟨⟨rfl, rfl, rfl, rfl, rfl, id⟩, rfl, rfl, fun _ => rfl, fun _ => rfl, fun _ => .refl _⟩, rfl, rfl, fun _ => .refl _⟩

/-- A mark of a choice point. -/
theorem State.Calm.markChoice (s : State) (g : Seg) : (s.markChoice g).Calm s := by
  unfold State.markChoice
  split
  · rfl
  · exact .withChoiceDue s _

/-! ### Claims -/

/-- What a difference in claims must keep beyond `SameButClaims`: blocks of messages, and the laws of entries. -/
structure State.KeepsLaws (t s : State) : Prop where
  inbound : ∀ g r, blocksOf ((t.seg g).inboundAt r) = blocksOf ((s.seg g).inboundAt r)
  entries : ∀ h, (∀ e, s.entryAt h = some e → EntryOk e) → ∀ e, t.entryAt h = some e → EntryOk e

theorem State.KeepsLaws.refl (s : State) : s.KeepsLaws s := ⟨fun _ _ => rfl, fun _ => id⟩

theorem State.KeepsLaws.trans {a b c : State} (h : a.KeepsLaws b) (k : b.KeepsLaws c) : a.KeepsLaws c :=
  ⟨fun g r => (h.inbound g r).trans (k.inbound g r), fun i => h.entries i ∘ k.entries i⟩

/-- A change of one segment keeps the blocks of messages when its own messages keep theirs. -/
theorem State.KeepsLaws.modSeg (s : State) (g : Seg) {f : Segment → Segment}
    (h : ∀ r, blocksOf ((f (s.seg g)).inboundAt r) = blocksOf ((s.seg g).inboundAt r)) : (s.modSeg g f).KeepsLaws s :=
  ⟨State.forall_seg_modSeg (R := fun a b => ∀ r, blocksOf (a.inboundAt r) = blocksOf (b.inboundAt r))
    (fun _ _ => rfl) s g h, fun _ => id⟩

theorem clearClaim_keepsLaws (s : State) (c : Claimant) : (clearClaim s c).KeepsLaws s := by
  cases c with
  | inbound g r =>
    unfold clearClaim
    refine .modSeg s g fun k => ?_
    rw [Segment.inboundAt_modInbound]
    split <;> simp
  | notice g =>
    refine State.KeepsLaws.trans (b := s.modSeg g fun sg => { sg with notice := sg.notice.takeClaim }) ?_
      (.modSeg s g fun _ => rfl)
    simp only [clearClaim, State.noticeChoice, State.markChoice]
    repeat' split
    all_goals exact ⟨fun _ _ => rfl, fun _ => id⟩
  | roster h =>
    refine ⟨fun _ _ => rfl, fun k ok e he => ?_⟩
    by_cases hk : k = h
    · subst hk
      rw [clearClaim, State.entryAt_modEntry_self, Option.map_eq_some_iff] at he
      obtain ⟨old, hold, rfl⟩ := he
      have oldOk := ok old hold
      exact ⟨oldOk.misses, oldOk.missing, oldOk.enrolled, fun _ => ⟨rfl, rfl, rfl⟩⟩
    · rw [clearClaim, State.entryAt_modEntry_ne _ _ _ _ hk] at he
      exact ok e he
  | station g | sweepEnded g | conflict g | fault g =>
    unfold clearClaim
    exact .modSeg s g fun _ => rfl
  | jobEnded | hlc => exact .refl s

theorem takeClaims_keepsLaws (n : Nat) (s : State) : (takeClaims n s).KeepsLaws s := by
  induction n generalizing s with
  | zero => exact .refl s
  | succ n ih =>
    unfold takeClaims
    split
    · refine (ih _).trans ?_
      unfold takeOldestClaim
      split
      · exact .refl s
      · split
        · exact ⟨fun _ _ => rfl, fun _ => id⟩
        · next c rest _ _ _ _ =>
          have cleared := clearClaim_keepsLaws { s with claims := rest } c
          exact ⟨cleared.inbound, cleared.entries⟩
    · exact .refl s

/-- A difference in claims is calm when it keeps these laws and those of the queue. -/
theorem State.SameButClaims.calm {t s : State} (h : t.SameButClaims s) (k : t.KeepsLaws s)
    (queue : s.QueueOk → t.QueueOk) : t.Calm s := by
  have place (i : Handle) : (t.entryAt i).map Entry.place = (s.entryAt i).map Entry.place := by
    have := congrArg (Option.map fun x : Seg × Addr × EntryKind × EntryState × Nat × Bool =>
      (x.1, x.2.1, x.2.2.1)) (h.entry i)
    rw [Option.map_map, Option.map_map] at this
    exact this
  have still (g : Seg) : (t.seg g).Still (s.seg g) :=
    ⟨(h.seg g).config, by rw [Segment.enabled, Segment.enabled, (h.seg g).sc]; exact id, by rw [(h.seg g).engine]⟩
  have enrol (g : Seg) : (t.seg g).CalmEnrol (s.seg g) := by
    have hg := h.seg g
    exact ⟨⟨hg.sc, hg.monitor, hg.stretch, hg.recoverRequested, hg.handed, hg.service, k.inbound g,
      by rw [hg.fairness]; exact id, by rw [hg.fairness, hg.routine]; exact id⟩, hg.urgent, hg.routine, hg.current⟩
  have host : t.HostStill s := ⟨h.replies, h.cache, h.rstLow, h.restart,
    by simp only [State.outside, h.rx, h.htx, h.rate1, h.rate0, h.pending], queue⟩
  exact .of ⟨host, fun i => ⟨place i, k.entries i⟩, still⟩
    ⟨⟨host, h.poolFree, h.accepted, fun i => by rw [State.jobAt, State.jobAt, h.slots],
      fun i => by rw [State.genAt, State.genAt, h.slots], fun g => (enrol g).toSteady⟩, h.slots, h.heldSet, enrol⟩

/-- Placing a claim (R172). -/
theorem State.Calm.placeClaim (s : State) (c : Claimant) : (s.placeClaim c).Calm s :=
  have laws := takeClaims_keepsLaws (s.claims ++ [c]).length { s with claims := s.claims ++ [c] }
  (State.placeClaim_same s c).calm ⟨laws.inbound, laws.entries⟩ fun h => State.placeClaim_queueOk h c

/-- Placing a claim that may wait already (R135). -/
theorem State.Calm.placeClaimOnce (s : State) (c : Claimant) : (s.placeClaimOnce c).Calm s := by
  unfold State.placeClaimOnce
  split
  · rfl
  · exact .placeClaim s c

/-- A claim withdrawn (R172). -/
theorem State.Calm.withdrawClaim (s : State) (c : Claimant) : (s.withdrawClaim c).Calm s :=
  (State.withdrawClaim_same s c).calm ⟨fun _ _ => rfl, fun _ => id⟩ fun h =>
    ⟨h.reports, fun waits => h.claims fun none => waits (by simp [State.withdrawClaim, none])⟩

end Sys2Proof.Machine

/-!
The operations that are calm: the Roster's signals, the notice service, the bookkeeping of a sweep, the fault claim, and
the timers that record their expiry.
-/

namespace Sys2Proof.Machine

/-! ### The Roster -/

/-- A claim of a change leaves an entry in place and quiet laws to it (R91). -/
theorem Entry.noteChange_calm (e : Entry) (created moved : Bool) :
    EntryCalm (some (e.noteChange created moved)) (some e) := by
  unfold Entry.noteChange
  split
  · next waiting =>
    exact .changed rfl fun h => ⟨h.misses, h.missing, h.enrolled, fun off => absurd (waiting.symm.trans off) (by decide)⟩
  · exact .changed rfl fun h => ⟨h.misses, h.missing, h.enrolled, fun off => by cases off⟩

theorem State.Calm.rosterChange (s : State) (h : Handle) (created moved : Bool) :
    (s.rosterChange h created moved).Calm s := by
  unfold State.rosterChange
  split
  · rfl
  · next e he =>
    have noted : (s.putEntry h (some (e.noteChange created moved))).Calm s :=
      .putEntry s h (he ▸ e.noteChange_calm created moved)
    simp only
    split
    · exact noted
    · exact (State.Calm.placeClaim _ _).trans noted

theorem State.Calm.updateEntry (s : State) (h : Handle) (old : Entry) {new : Entry}
    (calm : EntryCalm (some new) (s.entryAt h)) : (s.updateEntry h old new).Calm s := by
  unfold State.updateEntry
  simp only
  split
  · exact .putEntry s h calm
  · exact (State.Calm.rosterChange _ _ _ _).trans (.putEntry s h calm)

/-- The acknowledged signal keeps the laws of an entry (R90). -/
theorem Entry.acknowledged_ok {e : Entry} (h : EntryOk e) : EntryOk e.acknowledged :=
  ⟨Nat.zero_le 2, fun _ => rfl, fun _ => by simp [Entry.acknowledged], h.quiet⟩

/-- The miss signal leaves an entry in place and keeps its laws (R90). -/
theorem Entry.missed_calm (e : Entry) : EntryCalm (some e.missed) (some e) := by
  unfold Entry.missed
  split
  · rfl
  · next present =>
    split
    · next few =>
      have : e.misses + 1 ≤ 2 := Nat.le_of_lt_succ few
      exact .changed rfl fun h => ⟨this, fun missing => absurd missing present, h.enrolled, h.quiet⟩
    · exact .changed rfl fun h => ⟨Nat.zero_le 2, fun _ => rfl, fun _ => by simp, h.quiet⟩

theorem State.Calm.ackSignal (s : State) (h : Handle) : (s.ackSignal h).Calm s := by
  unfold State.ackSignal
  split
  · rfl
  · next e he => exact .updateEntry s h e (he ▸ .changed rfl Entry.acknowledged_ok)

theorem State.Calm.missSignal (s : State) (h : Handle) : (s.missSignal h).Calm s := by
  unfold State.missSignal
  split
  · rfl
  · next e he => exact .updateEntry s h e (he ▸ e.missed_calm)

theorem State.Calm.presenceAck (s : State) (j : Job) (r : TxRun) : (s.presenceAck j r).Calm s := by
  unfold State.presenceAck
  repeat' split
  · rfl
  · exact .ackSignal s _
  · rfl

theorem State.Calm.presenceMiss (s : State) (j : Job) (st : EndStatus) : (s.presenceMiss j st).Calm s := by
  unfold State.presenceMiss
  repeat' split
  · exact .missSignal s _
  · rfl
  · rfl

/-- Probe due is no law of an entry. -/
theorem EntryCalm.probeDue (e : Entry) (due : Bool) : EntryCalm (some { e with probeDue := due }) (some e) :=
  .changed rfl fun h => ⟨h.misses, h.missing, h.enrolled, h.quiet⟩

/-- Probe due of one entry is written. -/
theorem State.Calm.modEntry_probeDue (s : State) (h : Handle) (due : Bool) :
    (s.modEntry h fun e => { e with probeDue := due }).Calm s := by
  refine .putEntry s h ?_
  cases s.entryAt h with
  | none => rfl
  | some e => exact .probeDue e due

/-- Probe due of the entries of a segment is written. -/
theorem State.Calm.mapEntries_probeDue (s : State) (g : Seg) (due : Bool) :
    (s.mapEntries g fun e => { e with probeDue := due }).Calm s := by
  have entry (h : Handle) : EntryCalm ((s.mapEntries g fun e => { e with probeDue := due }).entryAt h) (s.entryAt h) := by
    rw [State.entryAt_mapEntries]
    cases s.entryAt h with
    | none => rfl
    | some e =>
      rw [Option.map_some]
      split
      · exact .probeDue e due
      · rfl
  exact .of ⟨⟨rfl, rfl, rfl, rfl, rfl, id⟩, entry, fun _ => .refl _⟩
    ⟨⟨⟨rfl, rfl, rfl, rfl, rfl, id⟩, rfl, rfl, fun _ => rfl, fun _ => rfl, fun _ => .refl _⟩, rfl, rfl, fun _ => .refl _⟩

theorem State.Calm.probeOutcome (s : State) (g : Seg) (entry : Option Handle) (a : Addr) (w : TxWay) :
    (s.probeOutcome g entry a w).Calm s := by
  unfold State.probeOutcome
  split
  · rfl
  · split
    · exact (State.Calm.ackSignal _ _).trans (.modEntry_probeDue s _ _)
    · exact (State.Calm.missSignal _ _).trans (.modEntry_probeDue s _ _)
    · rfl

theorem State.Calm.forgetEntry (g : Seg) (s : State) (h : Handle) : (s.forgetEntry g h).Calm s := by
  unfold State.forgetEntry
  split
  · rfl
  · next e he =>
    split
    · exact .updateEntry s h e (he ▸ .changed rfl fun ok => ⟨Nat.zero_le 2, fun _ => rfl, fun _ => by simp, ok.quiet⟩)
    · rfl

/-! ### The notice service -/

theorem State.Calm.modNotice (s : State) (g : Seg) (f : Notice → Notice) : (s.modNotice g f).Calm s :=
  .modSeg s g (.of_core rfl rfl (.refl _))

theorem State.Calm.claimNotice (s : State) (g : Seg) (c : NoticeClaim) : (s.claimNotice g c).Calm s :=
  (State.Calm.placeClaimOnce _ _).trans (.modNotice s g _)

theorem State.Calm.watchReleased (s : State) (g : Seg) : (s.watchReleased g).Calm s := by
  unfold State.watchReleased
  split
  · exact .claimNotice s g _
  · rfl

theorem State.Calm.enterWatching (s : State) (g : Seg) : (s.enterWatching g).Calm s := by
  unfold State.enterWatching
  simp only
  split
  · exact (State.Calm.markChoice _ _).trans (.modNotice s g _)
  · exact (State.Calm.watchReleased _ _).trans (.modNotice s g _)

theorem State.Calm.noticeResume (s : State) (g : Seg) : (s.noticeResume g).Calm s := by
  unfold State.noticeResume
  split
  · exact .modNotice s g _
  · exact .enterWatching s g

theorem State.Calm.noticePause (s : State) (g : Seg) : (s.noticePause g).Calm s := by
  unfold State.noticePause
  repeat' split
  · exact .modNotice s g _
  · exact .modNotice s g _
  · exact .enterWatching s g

theorem State.Calm.noticeMismatch (s : State) (g : Seg) (stretched : Bool) : (s.noticeMismatch g stretched).Calm s := by
  unfold State.noticeMismatch
  split
  · exact (State.Calm.noticeResume _ g).trans (.modNotice s g _)
  · exact (State.Calm.noticePause _ g).trans (.claimNotice s g _)

theorem State.Calm.noticeOutcome (s : State) (g : Seg) (r : TxRun) (w : TxWay) : (s.noticeOutcome g r w).Calm s := by
  unfold State.noticeOutcome
  repeat' split
  · exact .claimNotice s g _
  · exact .noticeMismatch s g _
  · exact .claimNotice s g _
  · exact .noticeResume s g
  · exact (State.Calm.noticePause _ g).trans (.claimNotice s g _)
  · exact .noticeMismatch s g _
  · exact .noticeResume s g

theorem State.Calm.setNoticeLine (s : State) (g : Seg) (asserted : Bool) : (s.setNoticeLine g asserted).Calm s :=
  .modSeg s g (.of_core rfl rfl (.refl _))

theorem State.Calm.lineAsserted (s : State) (g : Seg) : (lineAsserted g s).Calm s := by
  unfold Machine.lineAsserted
  split
  · exact .markChoice s g
  · rfl

theorem State.Calm.lineReleased (s : State) (g : Seg) : (lineReleased g s).Calm s := by
  unfold Machine.lineReleased
  split
  · exact .enterWatching s g
  · exact .watchReleased s g
  · rfl
  · rfl

/-! ### The bookkeeping of a sweep -/

/-- A change of the engine alone. -/
theorem Segment.Calm.withEngine (sg : Segment) {e : Engine} (h : e.Calm sg.engine) : { sg with engine := e }.Calm sg :=
  .of_core rfl rfl h

theorem State.Calm.modEngine (s : State) (g : Seg) {f : Engine → Engine} (h : (f (s.seg g).engine).Calm (s.seg g).engine) :
    (s.modEngine g f).Calm s :=
  .modSeg s g (.withEngine _ h)

/-- An engine with the same chosen address that is not ASSIGNING, or goes on with the ASSIGN in hand. -/
theorem Engine.Calm.of_not_assigning {a b : Engine} (h : a.chosen = b.chosen) (not : b.state ≠ .assigning) : a.Calm b :=
  .inr ⟨h, fun is => absurd is not⟩

theorem State.Calm.endSweep (s : State) (g : Seg) (cause : SweepCause) : (s.endSweep g cause).Calm s := by
  have ended : (s.modSeg g fun sg =>
      { sg with engine := Engine.reset, sweepClaim := some (sweepClaimAfter sg.sweepClaim cause sg.engine.assigned) }).Calm
        s :=
    .modSeg s g (.of_core rfl rfl (.inl rfl))
  unfold State.endSweep
  simp only
  split
  · exact ended
  · exact (State.Calm.placeClaim _ _).trans ended

theorem State.Calm.claimConflict (s : State) (g : Seg) (f : Found) (h : Handle) (on : Seg) :
    (s.claimConflict g f h on).Calm s := by
  have claimed : (s.modSeg g fun sg =>
      { sg with conflictClaim := some (conflictClaimAfter sg.conflictClaim f h on) }).Calm s := .modSeg s g (.of_core rfl rfl (.refl _))
  unfold State.claimConflict
  simp only
  split
  · exact claimed
  · exact (State.Calm.placeClaim _ _).trans claimed

theorem State.Calm.enrolOther (s : State) (g : Seg) (w : TxWay) : (s.enrolOther g w).Calm s := by
  unfold State.enrolOther
  repeat' split
  · exact .modSeg s g (.withEngine _ (.inr ⟨rfl, fun h => ⟨h, rfl⟩⟩))
  · exact .endSweep s g _
  · exact .endSweep s g _

theorem State.Calm.enrolRefused (s : State) (g : Seg) : (s.enrolRefused g).Calm s := by
  unfold State.enrolRefused
  split
  · exact .modEngine s g (.inr ⟨rfl, fun h => ⟨h, rfl⟩⟩)
  · exact .endSweep s g _

theorem State.Calm.callOutcome {s : State} {g : Seg} (calling : (s.seg g).engine.state = .calling) (r : TxRun)
    (w : TxWay) : (s.callOutcome g r w).Calm s := by
  unfold State.callOutcome
  repeat' split
  · exact .modEngine s g (.of_not_assigning rfl (by simp [calling]))
  · exact .endSweep s g _
  · exact .enrolOther s g w

theorem State.Calm.parkOutcome {s : State} {g : Seg} (parking : (s.seg g).engine.state = .parking) (r : TxRun)
    (w : TxWay) : (s.parkOutcome g r w).Calm s := by
  unfold State.parkOutcome
  repeat' split
  · exact .modEngine s g (.of_not_assigning rfl (by simp [parking]))
  · exact .enrolRefused s g
  · exact .enrolOther s g w

/-- A pass each step of which is calm. -/
theorem State.Calm.foldl {α : Type} {f : State → α → State} (h : ∀ s a, (f s a).Calm s) (as : List α) (s : State) :
    (as.foldl f s).Calm s := by
  induction as generalizing s with
  | nil => rfl
  | cons a as ih => exact (ih _).trans (h s a)

theorem State.Calm.forgetOutcome (s : State) (g : Seg) (r : TxRun) (w : TxWay) (eighth : Bool) :
    (s.forgetOutcome g r w eighth).Calm s := by
  unfold State.forgetOutcome
  split
  · exact (State.Calm.endSweep _ g _).trans (.foldl (.forgetEntry g) _ s)
  · exact .enrolOther s g w

theorem State.Calm.afterAssign (s : State) (g : Seg) : (s.afterAssign g).Calm s := by
  have counted : (s.modEngine g (·.counted)).Calm s := .modEngine s g (.inl rfl)
  unfold State.afterAssign
  simp only
  split
  · refine (State.Calm.modEngine _ g (.inl ?_)).trans counted
    simp [State.modEngine, Engine.counted]
  · exact (State.Calm.endSweep _ g _).trans counted

theorem State.Calm.afterResult (s : State) (g : Seg) (w : TxWay) : (s.modEngine g (·.afterResult w)).Calm s := by
  refine .modEngine s g (.inr ?_)
  unfold Engine.afterResult
  split <;> exact ⟨rfl, fun h => ⟨h, rfl⟩⟩

theorem State.Calm.abortSweep (s : State) (g : Seg) : (s.abortSweep g).Calm s := by
  unfold State.abortSweep
  split
  · exact .endSweep s g _
  · rfl

/-! ### The fault claim and the timers -/

theorem State.Calm.claimFault (s : State) (g : Seg) (f : Option FaultClaim → FaultClaim) : (s.claimFault g f).Calm s := by
  have claimed : (s.modSeg g fun sg => { sg with faultClaim := some (f sg.faultClaim) }).Calm s := .modSeg s g (.of_core rfl rfl (.refl _))
  unfold State.claimFault
  simp only
  split
  · exact claimed
  · exact (State.Calm.placeClaim _ _).trans claimed

theorem State.Calm.backoffExpires (s : State) (g : Seg) : (backoffExpires g s).Calm s := by
  unfold Machine.backoffExpires
  split
  · exact (State.Calm.markChoice _ g).trans (.modSeg s g (.of_core rfl rfl (.refl _)))
  · rfl

theorem State.Calm.rollExpires (s : State) (g : Seg) : (rollExpires g s).Calm s := by
  unfold Machine.rollExpires
  split
  · exact (State.Calm.markChoice _ g).trans ((State.Calm.modSeg _ g (.of_core rfl rfl (.refl _))).trans (.mapEntries_probeDue s g true))
  · rfl

theorem State.Calm.retryWaitExpires (s : State) (g : Seg) : (retryWaitExpires g s).Calm s := by
  unfold Machine.retryWaitExpires
  split
  · exact (State.Calm.markChoice _ g).trans (.modEngine s g (.inr ⟨rfl, fun h => ⟨h, rfl⟩⟩))
  · rfl

theorem State.Calm.attemptGoesOn (s : State) (g : Seg) (i : Slot) (bus : List BusAnswer) :
    (s.attemptGoesOn g i bus).Calm s := by
  unfold State.attemptGoesOn
  repeat' split
  · exact .presenceAck s _ _
  · rfl
  · rfl

theorem State.Calm.cutPresence (s : State) (g : Seg) (cut : BusCut) : (s.cutPresence g cut).Calm s := by
  unfold State.cutPresence
  repeat' split
  · exact .presenceAck s _ _
  · rfl
  · rfl

end Sys2Proof.Machine

/-!
The Enrolment Engine changes the Roster and its own sweep state only, and the end of a job changes jobs and class lists
only: where each operation of the two stands among the relations.
-/

namespace Sys2Proof.Machine

/-! ### The Enrolment Engine -/

theorem State.CalmEnrol.modEngine (s : State) (g : Seg) (f : Engine → Engine) : (s.modEngine g f).CalmEnrol s :=
  .modSeg s g (.of_core rfl)

theorem State.CalmEnrol.chooseAddress (s : State) (g : Seg) : (s.chooseAddress g).CalmEnrol s := by
  unfold State.chooseAddress
  split
  · exact .modEngine s g _
  · exact (State.Calm.endSweep s g _).toCalmEnrol

theorem State.CalmEnrol.decideIdentity (s : State) (g : Seg) (f : Found) : (s.decideIdentity g f).CalmEnrol s := by
  unfold State.decideIdentity
  repeat' split
  · rfl
  · exact .modEngine s g _
  · exact .chooseAddress s g
  · exact (State.CalmEnrol.modEngine _ g _).trans (State.Calm.claimConflict s g _ _ _).toCalmEnrol
  · exact .chooseAddress s g
  · exact (State.Calm.endSweep s g _).toCalmEnrol

theorem State.CalmEnrol.identifyOutcome (s : State) (g : Seg) (r : TxRun) (w : TxWay) :
    (s.identifyOutcome g r w).CalmEnrol s := by
  unfold State.identifyOutcome
  repeat' split
  · exact (State.CalmEnrol.decideIdentity _ g _).trans (.modEngine s g _)
  · exact .modEngine s g _
  · exact (State.Calm.endSweep s g _).toCalmEnrol
  · exact (State.Calm.endSweep s g _).toCalmEnrol
  · exact (State.Calm.enrolOther s g w).toCalmEnrol

theorem State.CalmEnrol.rosterChange_putEntry (s : State) (h : Handle) (e : Option Entry) (created moved : Bool) :
    ((s.putEntry h e).rosterChange h created moved).CalmEnrol s :=
  (State.Calm.rosterChange _ h created moved).toCalmEnrol.trans (.putEntry s h e)

theorem State.CalmEnrol.updateEntry (s : State) (h : Handle) (old new : Entry) : (s.updateEntry h old new).CalmEnrol s := by
  unfold State.updateEntry
  simp only
  split
  · exact .putEntry s h _
  · exact .rosterChange_putEntry s h _ _ _

theorem State.CalmEnrol.recordAssign {s t : State} {g : Seg} {a : Addr} {f : Found} (h : s.recordAssign g a f = some t) :
    t.CalmEnrol s := by
  unfold State.recordAssign at h
  split at h
  · split at h
    · cases h
    · cases h
      split
      · exact .updateEntry s _ _ _
      · exact .rosterChange_putEntry s _ _ _ _
  · obtain ⟨k, -, rfl⟩ := Option.map_eq_some_iff.mp h
    exact .rosterChange_putEntry s _ _ _ _

theorem State.CalmEnrol.assignTaken (s : State) (g : Seg) : (s.assignTaken g).CalmEnrol s := by
  unfold State.assignTaken
  split
  · split
    · next h => exact (State.Calm.afterAssign _ g).toCalmEnrol.trans (.recordAssign h)
    · exact (State.Calm.endSweep _ g _).toCalmEnrol.trans (.modEngine s g _)
  · rfl

theorem State.CalmEnrol.assignOutcome (s : State) (g : Seg) (r : TxRun) (w : TxWay) :
    (s.assignOutcome g r w).CalmEnrol s := by
  unfold State.assignOutcome
  repeat' split
  · exact .assignTaken s g
  · exact (State.Calm.enrolRefused s g).toCalmEnrol
  · exact (State.Calm.enrolOther s g w).toCalmEnrol

theorem State.CalmEnrol.engineOutcome (s : State) (g : Seg) (r : TxRun) (w : TxWay) (eighth : Bool) :
    (s.engineOutcome g r w eighth).CalmEnrol s := by
  have read := (State.Calm.afterResult s g w).toCalmEnrol
  unfold State.engineOutcome
  simp only
  split
  · next h => exact (State.Calm.callOutcome h r w).toCalmEnrol.trans read
  · exact (State.CalmEnrol.identifyOutcome _ g r w).trans read
  · exact (State.CalmEnrol.assignOutcome _ g r w).trans read
  · next h => exact (State.Calm.parkOutcome h r w).toCalmEnrol.trans read
  · exact (State.Calm.forgetOutcome _ g r w eighth).toCalmEnrol.trans read
  · exact read
  · exact read

/-! ### Job records and class lists -/

/-- A change of class lists, the current job and Dispatch's backoff that keeps the fairness law. -/
theorem Segment.CalmJobs.of_lists {a b : Segment}
    (core : { a with
      urgent := b.urgent, routine := b.routine, current := b.current, fairness := b.fairness
      backoffTimer := b.backoffTimer, backoffExpired := b.backoffExpired } = b)
    (fairness : b.fairness ≤ 4 → a.fairness ≤ 4) (routine : (b.routine = [] → b.fairness = 0) → a.routine = [] → a.fairness = 0) :
    a.CalmJobs b := by
  rw [Segment.mk.injEq] at core
  obtain ⟨config, sc, monitor, -, stretch, recover, -, -, -, handed, -, -, -, engine, -, -, -, -, inbound, service, -⟩ :=
    core
  exact ⟨⟨config, by rw [Segment.enabled, Segment.enabled, sc]; exact id, by rw [engine]⟩,
    ⟨sc, monitor, stretch, recover, handed, service, fun r => by rw [Segment.inboundAt, Segment.inboundAt, inbound],
      fairness, routine⟩⟩

theorem State.CalmJobs.withHeld (s : State) (hs : List HeldEntry) : State.CalmJobs { s with heldSet := hs } s :=
  .of ⟨⟨rfl, rfl, rfl, rfl, rfl, id⟩, fun _ => .refl _, fun _ => .refl _⟩
    ⟨⟨rfl, rfl, rfl, rfl, rfl, id⟩, rfl, rfl, fun _ => rfl, fun _ => rfl, fun _ => .refl _⟩

/-- A job record written, with the blocks of the one before. -/
theorem State.CalmJobs.putJob (s : State) (i : Slot) {j : Option Job}
    (h : j.map (·.blocksHeld) = (s.jobAt i).map (·.blocksHeld)) : (s.putJob i j).CalmJobs s := by
  refine .of ⟨⟨rfl, rfl, rfl, rfl, rfl, id⟩, fun _ => .refl _, fun _ => .refl _⟩
    ⟨⟨rfl, rfl, rfl, rfl, rfl, id⟩, rfl, rfl, fun k => ?_, fun k => s.genAt_putJob i k j, fun _ => .refl _⟩
  by_cases hk : k = i
  · subst hk; rwa [State.jobAt_putJob_self]
  · rw [State.jobAt_putJob_ne _ _ _ _ hk]

/-- A job record changed but for its blocks. -/
theorem State.CalmJobs.modJob (s : State) (i : Slot) {f : Job → Job} (h : ∀ j, (f j).blocksHeld = j.blocksHeld) :
    (s.modJob i f).CalmJobs s :=
  .putJob s i (by simp [Option.map_map, Function.comp_def, h])

/-- A job leaves its class list (R21, R31). -/
theorem Segment.CalmJobs.dequeue (sg : Segment) (c : JobClass) (i : Slot) : (sg.dequeue c i).CalmJobs sg := by
  cases c with
  | urgent =>
    simp only [Segment.dequeue, Segment.fairnessAfter]
    split
    · exact .of_lists rfl (fun _ => Nat.zero_le 4) fun _ _ => rfl
    · exact .of_lists rfl id id
  | routine =>
    simp only [Segment.dequeue, Segment.fairnessAfter]
    split
    · exact .of_lists rfl (fun _ => Nat.zero_le 4) fun _ _ => rfl
    · next left => exact .of_lists rfl id fun _ none => absurd (List.isEmpty_iff.mpr none) left

/-- A job enters its class list (R21). -/
theorem Segment.CalmJobs.enqueue (sg : Segment) (c : JobClass) (i : Slot) : (sg.enqueue c i).CalmJobs sg := by
  cases c with
  | urgent => exact .of_lists rfl id id
  | routine => exact .of_lists rfl id fun _ none => absurd none (by simp [Segment.enqueue])

theorem Segment.CalmJobs.dropCurrent (sg : Segment) : sg.dropCurrent.CalmJobs sg := .of_lists rfl id id

/-! ### The end of a job -/

theorem State.CalmJobs.leavePlace (s : State) (i : Slot) (j : Job) : (s.leavePlace i j).CalmJobs s := by
  unfold State.leavePlace
  split
  · exact .modSeg s _ (.dequeue _ _ _)
  · exact .withHeld s _
  · exact .modSeg s _ (.dropCurrent _)
  · exact (State.Calm.markChoice _ _).toCalmJobs.trans (.modSeg s _ (.dropCurrent _))
  · rfl
  · rfl

/-- Leaving a place writes no job record. -/
@[simp] theorem State.leavePlace_jobAt (s : State) (i k : Slot) (j : Job) : (s.leavePlace i j).jobAt k = s.jobAt k := by
  unfold State.leavePlace
  split
  case h_4 => simp
  all_goals rfl

@[simp] theorem State.visitStaging_jobAt (s : State) (id : JobId) (ok : Bool) (k : Slot) :
    (s.visitStaging id ok).jobAt k = (s.jobAt k).map (·.visited id ok) := by
  simp [State.jobAt, State.visitStaging]

@[simp] theorem State.visitStaging_genAt (s : State) (id : JobId) (ok : Bool) (k : Slot) :
    (s.visitStaging id ok).genAt k = s.genAt k := by
  simp [State.genAt, State.visitStaging]

@[simp] theorem Job.visited_blocksHeld (j : Job) (id : JobId) (ok : Bool) : (j.visited id ok).blocksHeld = j.blocksHeld := by
  unfold Job.visited; split <;> rfl

theorem State.CalmJobs.visitStaging (s : State) (id : JobId) (ok : Bool) : (s.visitStaging id ok).CalmJobs s :=
  .of ⟨⟨rfl, rfl, rfl, rfl, rfl, fun h => h⟩, fun _ => .refl _, fun _ => .refl _⟩
    ⟨⟨rfl, rfl, rfl, rfl, rfl, fun h => h⟩, rfl, rfl, fun k => by simp [Option.map_map, Function.comp_def],
      fun k => by simp, fun _ => .refl _⟩

theorem State.CalmJobs.endOne (s : State) (i : Slot) (st : EndStatus) (c : EndCounts) : (s.endOne i st c).CalmJobs s := by
  unfold State.endOne
  split
  · rfl
  · next j hj =>
    split
    · rfl
    · exact (State.Calm.placeClaim _ _).toCalmJobs.trans ((State.CalmJobs.visitStaging _ _ _).trans
        ((State.CalmJobs.putJob _ i (by simp [hj, Job.ended])).trans (.leavePlace s i j)))

theorem State.CalmJobs.becomeQueued (s : State) (i : Slot) : (s.becomeQueued i).CalmJobs s := by
  unfold State.becomeQueued
  split
  · rfl
  · exact (State.Calm.markChoice _ _).toCalmJobs.trans
      ((State.CalmJobs.modSeg _ _ (.enqueue _ _ _)).trans (.modJob s i fun _ => rfl))

/-- A pass each step of which changes jobs only. -/
theorem State.CalmJobs.foldl {α : Type} {f : State → α → State} (h : ∀ s a, (f s a).CalmJobs s) (as : List α)
    (s : State) : (as.foldl f s).CalmJobs s := by
  induction as generalizing s with
  | nil => rfl
  | cons a as ih => exact (ih _).trans (h s a)

theorem State.CalmJobs.release (s : State) (i : Slot) : (s.release i).CalmJobs s :=
  (State.CalmJobs.becomeQueued _ i).trans (.withHeld s _)

theorem State.CalmJobs.releaseDependents (s : State) (id : JobId) : (s.releaseDependents id).CalmJobs s := by
  refine .foldl (fun s i => ?_) _ s
  split
  · exact .release s i
  · rfl

theorem State.CalmJobs.cascade (s : State) : s.cascade.CalmJobs s := by
  refine .foldl (fun s i => ?_) _ s
  split
  · exact .endOne s i _ _
  · rfl

theorem State.CalmJobs.endJob (s : State) (i : Slot) (st : EndStatus) (c : EndCounts) : (s.endJob i st c).CalmJobs s := by
  unfold State.endJob
  split
  · exact (State.CalmJobs.releaseDependents _ _).trans (.endOne s i st c)
  · exact (State.CalmJobs.cascade _).trans (.endOne s i st c)

theorem State.CalmJobs.placeJob (s : State) (i : Slot) : (s.placeJob i).CalmJobs s := by
  unfold State.placeJob
  split
  · rfl
  · have stopped : (s.modJob i fun j => { j with stagingTimer := none }).CalmJobs s := .modJob s i fun _ => rfl
    simp only
    split
    · exact (State.CalmJobs.becomeQueued _ i).trans stopped
    · exact ((State.CalmJobs.withHeld _ _).trans
        (.modJob _ i (f := fun j => { j with state := .held }) fun _ => rfl)).trans stopped
    · exact (State.CalmJobs.endJob _ i _ _).trans stopped

theorem State.CalmJobs.placeIfComplete (s : State) (i : Slot) : (s.placeIfComplete i).CalmJobs s := by
  unfold State.placeIfComplete
  repeat' split
  · rfl
  · exact .placeJob s i
  · exact .modJob s i fun _ => rfl

/-! ### Requests and attempts that change jobs -/

theorem State.CalmJobs.enterBackoff (s : State) (g : Seg) (i : Slot) (attempts : Nat) :
    (s.enterBackoff g i attempts).CalmJobs s :=
  (State.CalmJobs.modSeg _ g (.of_lists rfl id id)).trans (.modJob s i fun _ => rfl)

theorem State.CalmJobs.endAttempt (s : State) (i : Slot) (j : Job) (st : EndStatus) (c : EndCounts) :
    (s.endAttempt i j st c).CalmJobs s :=
  (State.Calm.presenceMiss _ j st).toCalmJobs.trans (.endJob s i st c)

theorem State.CalmJobs.jobOutcome (s : State) (g : Seg) (i : Slot) (r : TxRun) (w : TxWay) :
    (s.jobOutcome g i r w).CalmJobs s := by
  unfold State.jobOutcome
  split
  · rfl
  · next j _ =>
    have told := (State.Calm.presenceAck s j r).toCalmJobs
    simp only
    repeat' split
    · exact (State.CalmJobs.endAttempt _ i j _ _).trans told
    · exact (State.CalmJobs.endAttempt _ i j _ _).trans told
    · exact (State.CalmJobs.enterBackoff _ g i _).trans told

theorem State.CalmJobs.stagingExpires (s : State) (i : Slot) : (stagingExpires i s).CalmJobs s := by
  unfold Machine.stagingExpires
  repeat' split
  · rfl
  · exact .endJob s i _ _
  · rfl

theorem State.CalmJobs.removeReaches (s : State) (i : Slot) : (s.removeReaches i).CalmJobs s := by
  unfold State.removeReaches
  repeat' split
  · rfl
  · exact .modJob s i fun _ => rfl
  · exact .endJob s i _ _

theorem State.CalmJobs.endCurrent (s : State) (g : Seg) (c : EndCounts) : (s.endCurrent g c).CalmJobs s := by
  unfold State.endCurrent
  repeat' split
  · rfl
  · rfl
  · exact .endJob s _ _ _
  · exact .endJob s _ _ _

theorem State.CalmJobs.flush (s : State) (g : Seg) : (s.flush g).CalmJobs s := by
  refine .foldl (fun s i => ?_) _ s
  split
  · exact .endJob s i _ _
  · rfl

end Sys2Proof.Machine

/-!
What every operation leaves to the Host Link Controller and to the Roster, the Segment Controller's own among them:
`Still` of the rest of the model, but for the few operations that write reports, replies, the Roster or a configuration.
-/

namespace Sys2Proof.Machine

/-! ### Segments -/

/-- A change that keeps the configuration and the engine, and leaves the segment enabled. -/
theorem Segment.Still.of_enabled {a b : Segment} (config : a.config = b.config) (engine : a.engine = b.engine)
    (enabled : a.sc ≠ .disabled) : a.Still b :=
  ⟨config, fun _ => by simpa [Segment.enabled] using enabled, by rw [engine]⟩

/-- A change that keeps the configuration, the engine and the state of the Segment Controller. -/
theorem Segment.Still.of_sc {a b : Segment} (config : a.config = b.config) (engine : a.engine = b.engine)
    (sc : a.sc = b.sc) : a.Still b :=
  ⟨config, by rw [Segment.enabled, Segment.enabled, sc]; exact id, by rw [engine]⟩

theorem Segment.Still.driveStart (sg : Segment) : sg.driveStart.Still sg := by
  unfold Segment.driveStart
  split
  · exact .of_enabled rfl rfl (by simp)
  · rfl

theorem Segment.Still.hand (sg : Segment) (a : Activity) : (sg.hand a).Still sg :=
  (Segment.Still.driveStart _).trans (.of_enabled rfl rfl (by simp))

theorem Segment.Still.seeStop (sg : Segment) : sg.seeStop.Still sg := by
  unfold Segment.seeStop
  split
  · exact .of_sc rfl rfl rfl
  · rfl

theorem Segment.Still.startSeen (sg : Segment) : sg.startSeen.Still sg := by
  unfold Segment.startSeen
  split
  · rfl
  · exact .of_sc rfl rfl rfl

theorem Segment.Still.clockFall (sg : Segment) : sg.clockFall.Still sg := by
  unfold Segment.clockFall
  split
  · rfl
  · exact .startSeen sg

theorem Segment.Still.stretched (sg : Segment) (eighth : Bool) : (sg.stretched eighth).Still sg := by
  unfold Segment.stretched
  split
  · exact .of_sc rfl rfl rfl
  · rfl

theorem Segment.Still.recoveryWatched (sg : Segment) (pulses : List RecoveryPulse) (r : RecoveryResult) :
    (sg.recoveryWatched pulses r).Still sg := by
  cases r with
  | stopMade => exact (Segment.Still.seeStop _).trans (.clockFall sg)
  | dataHeld =>
    simp only [Segment.recoveryWatched]
    split
    · exact .clockFall sg
    · rfl
  | clockHeld => exact .of_sc rfl rfl rfl

theorem Segment.Still.afterWay (sg : Segment) (w : TxWay) : (sg.afterWay w).Still sg := by
  cases w with
  | lostFirst | lostLater | busFault => exact .of_enabled rfl rfl (by simp [Segment.afterWay])
  | _ =>
    have seen := (Segment.Still.seeStop { sg with handed := none, stretch := none })
    refine ⟨seen.config, fun _ => by simp [Segment.enabled, Segment.afterWay], seen.engine⟩

theorem Segment.Still.select (sg : Segment) (c : JobClass) (i : Slot) : (sg.select c i).Still sg := by
  cases c <;> exact .of_sc rfl rfl rfl

theorem Segment.Still.forgetProbe (sg : Segment) (h : Handle) : (sg.forgetProbe h).Still sg := by
  unfold Segment.forgetProbe
  repeat' split
  · exact .of_sc rfl rfl rfl
  · rfl
  · rfl

/-! ### Jobs that wait for the bus -/

/-- No job record is looked at. -/
theorem State.Still.modJob (s : State) (i : Slot) (f : Job → Job) : (s.modJob i f).Still s :=
  ⟨⟨rfl, rfl, rfl, rfl, rfl, id⟩, fun _ => .refl _, fun _ => .refl _⟩

theorem State.Still.abandonWait (s : State) (g : Seg) : (s.abandonWait g).Still s := by
  unfold State.abandonWait
  split
  · exact (State.Calm.markChoice _ g).toStill.trans (.modSeg s g (.of_enabled rfl rfl (by simp)))
  · exact .modSeg s g (.of_sc rfl rfl rfl)

theorem State.Still.endWaiting (s : State) (g : Seg) (i : Slot) (st : EndStatus) : (s.endWaiting g i st).Still s :=
  (State.CalmJobs.endJob _ i st _).toStill.trans (.abandonWait s g)

theorem State.Still.cancelJob (s : State) (i : Slot) (j : Job) : (s.cancelJob i j).Still s := by
  unfold State.cancelJob
  split
  · have marked : (s.modJob i fun j => { j with cancelPending := true }).Still s :=
      (.modJob s i _)
    simp only
    split
    · exact (State.Still.endWaiting _ _ i _).trans marked
    · exact marked
  · exact (State.CalmJobs.endJob s i _ _).toStill

theorem State.Still.deadlineExpires (s : State) (i : Slot) : (deadlineExpires i s).Still s := by
  unfold Machine.deadlineExpires
  split
  · rfl
  · split
    · unfold State.deadlineReaches
      repeat' split
      · exact .endWaiting s _ i _
      · exact (.modJob s i _)
      · exact (State.CalmJobs.endJob s i _ _).toStill
    · rfl

/-! ### Choices -/

theorem State.Still.handActivity (s : State) (g : Seg) (a : Activity) : (s.handActivity g a).Still s :=
  .modSeg s g (.hand _ a)

theorem State.Still.handAttempt (s : State) (g : Seg) (i : Slot) : (s.handAttempt g i).Still s := by
  unfold State.handAttempt
  split
  · rfl
  · split
    · exact (State.Calm.markChoice _ g).toStill.trans (State.CalmJobs.endJob s i _ _).toStill
    · exact (State.Still.handActivity _ g _).trans (.modJob s i _)

/-- A command handed gives up no ASSIGN in hand (R108). -/
theorem Engine.Calm.handed (e : Engine) : e.handed.Calm e := by
  unfold Engine.handed
  split
  · next h _ => exact .of_not_assigning rfl (by simp [h])
  · next h _ => exact .of_not_assigning rfl (by simp [h])
  · rfl

theorem State.Still.handWork (s : State) (g : Seg) (w : Work) : (s.handWork g w).Still s := by
  cases w with
  | resume i =>
    exact (State.Still.handAttempt _ g i).trans ((State.Still.modSeg _ g (.of_sc rfl rfl rfl)).trans
      (.modJob s i _))
  | query => exact (State.Still.handActivity _ g _).trans (State.Still.modSeg s g (.of_sc rfl rfl rfl))
  | enrol => exact (State.Still.handActivity _ g _).trans (State.Calm.modSeg s g (.withEngine _ (.handed _))).toStill
  | select c i =>
    exact (State.Still.handAttempt _ g i).trans ((State.Still.modJob _ i _).trans
      (.modSeg s g (.select _ c i)))
  | probe h =>
    simp only [State.handWork]
    split
    · exact .handActivity s g _
    · rfl
  | nothing => rfl

theorem State.Still.choicePoint (s : State) (g : Seg) : (s.choicePoint g).Still s := by
  unfold State.choicePoint
  split
  · exact .handWork s g _
  · rfl

theorem State.Still.settleChoices (n : Nat) (s : State) : (State.settleChoices n s).Still s := by
  induction n generalizing s with
  | zero => rfl
  | succ n ih =>
    unfold State.settleChoices
    split
    · rfl
    · exact (ih _).trans ((State.Still.choicePoint _ _).trans (State.Calm.withChoiceDue s _).toStill)

/-! ### Services -/

/-- A change of a service alone. -/
theorem State.Still.withService (s : State) (g : Seg) (sv : Service) :
    (s.modSeg g fun sg => { sg with service := sv }).Still s :=
  .modSeg s g (.of_sc rfl rfl rfl)

/-- The free count is looked at by neither. -/
theorem State.Still.withPoolFree (s : State) (n : Nat) : State.Still { s with poolFree := n } s :=
  ⟨⟨rfl, rfl, rfl, rfl, rfl, id⟩, fun _ => .refl _, fun _ => .refl _⟩

theorem State.Still.leaveServing (s : State) (g : Seg) : (s.leaveServing g).Still s := by
  unfold State.leaveServing
  split
  · exact .modSeg s g ((Segment.Still.driveStart _).trans (.of_enabled rfl rfl (by simp)))
  · exact (State.Calm.markChoice _ g).toStill.trans (.modSeg s g (.of_enabled rfl rfl (by simp)))

theorem State.Still.endRead (s : State) (g : Seg) (n : Nat) : (s.endRead g n).Still s := by
  unfold State.endRead
  split
  · exact (State.Calm.placeClaimOnce _ _).toStill.trans (.modSeg s g (.of_sc rfl rfl rfl))
  · rfl

theorem State.Still.completeMessage (s : State) (g : Seg) (byRestart : Bool) : (s.completeMessage g byRestart).Still s := by
  unfold State.completeMessage
  split
  · simp only
    split
    · exact .withService s g _
    · exact (State.Calm.placeClaim _ _).toStill.trans
        ((State.Still.modSeg _ g (.of_sc rfl rfl rfl)).trans (.withService s g _))
  · rfl

theorem State.Still.endTransaction (s : State) (g : Seg) (n : Nat) (byRestart : Bool) :
    (s.endTransaction g n byRestart).Still s :=
  (State.Still.endRead _ g n).trans (.completeMessage s g byRestart)

theorem State.Still.abandonService (s : State) (g : Seg) (n : Nat) : (s.abandonService g n).Still s := by
  unfold State.abandonService
  split
  · exact (State.Still.withPoolFree _ _).trans (.withService s g _)
  · exact (State.Still.withService _ g _).trans (.endRead s g n)
  · exact .withService s g _

theorem State.Still.serveDecision (s : State) (g : Seg) (d : Decision) : (s.serveDecision g d).Still s := by
  cases d with
  | receive r a | serve ix p | refuse =>
    simp only [State.serveDecision]
    exact .modSeg s g (.of_enabled rfl rfl (by simp))
  | hold ix =>
    simp only [State.serveDecision, State.startHold]
    exact (State.Calm.placeClaimOnce _ _).toStill.trans (.modSeg s g (.of_enabled rfl rfl (by simp)))
  | noMatch =>
    simp only [State.serveDecision]
    split
    · exact .leaveServing s g
    · rfl

theorem State.Still.addressSeen (s : State) (g : Seg) (b : Byte) : (addressSeen g b s).Still s := by
  unfold Machine.addressSeen
  split
  · exact .serveDecision s g _
  · rfl

theorem State.Still.byteArrives (s : State) (g : Seg) (b : Byte) : (byteArrives g b s).Still s := by
  unfold Machine.byteArrives
  split
  · simp only
    repeat' split
    · rfl
    · exact .withService s g _
    · exact .withService s g _
    · exact (State.Still.withService _ g _).trans (.withPoolFree s _)
    · exact .withService s g _
  · rfl

theorem State.Still.stopSeen (s : State) (g : Seg) (n : Nat) : (stopSeen g n s).Still s := by
  have seen : (s.modSeg g (·.seeStop)).Still s := .modSeg s g (.seeStop _)
  unfold Machine.stopSeen
  simp only
  repeat' split
  · rfl
  · exact (State.Still.leaveServing _ g).trans ((State.Still.endTransaction _ g n _).trans seen)
  · exact seen

theorem State.Still.repeatedStartSeen (s : State) (g : Seg) (n : Nat) : (repeatedStartSeen g n s).Still s := by
  have seen : (s.modSeg g (·.startSeen)).Still s := .modSeg s g (.startSeen _)
  unfold Machine.repeatedStartSeen
  simp only
  repeat' split
  · rfl
  · exact (State.Still.withService _ g _).trans ((State.Still.endTransaction _ g n _).trans seen)
  · exact seen

theorem State.Still.holdExpires (s : State) (g : Seg) : (holdExpires g s).Still s := by
  unfold Machine.holdExpires
  split
  · exact (State.Calm.placeClaimOnce _ _).toStill.trans (.modSeg s g (.of_sc rfl rfl rfl))
  · rfl

/-! ### The ends of activities -/

theorem State.Still.leaveBus (s : State) (g : Seg) (w : TxWay) : (s.leaveBus g w).Still s := by
  have left : (s.modSeg g (·.afterWay w)).Still s := .modSeg s g (.afterWay _ w)
  unfold State.leaveBus
  simp only
  split
  · exact (State.Calm.markChoice _ g).toStill.trans ((State.Still.addressSeen _ g _).trans left)
  · exact (State.Calm.markChoice _ g).toStill.trans left

theorem State.Still.attemptEnds (s : State) (g : Seg) (bus : List BusAnswer) (stopMade : Bool) :
    (attemptEnds g bus stopMade s).Still s := by
  unfold Machine.attemptEnds
  split
  · split
    · exact (State.CalmJobs.jobOutcome _ g _ _ _).toStill.trans (.leaveBus s g _)
    · exact (State.Calm.attemptGoesOn s g _ bus).toStill
  · rfl

theorem State.Still.cancelReaches (s : State) (g : Seg) (bus : List BusAnswer) (next : Option BusAnswer) (stopMade : Bool) :
    (cancelReaches g bus next stopMade s).Still s := by
  unfold Machine.cancelReaches
  repeat' split
  · exact (State.CalmJobs.jobOutcome _ g _ _ _).toStill.trans (.leaveBus s g _)
  · rfl
  · rfl
  · rfl

theorem State.Still.probeEnds (s : State) (g : Seg) (bus : List BusAnswer) (stopMade : Bool) :
    (probeEnds g bus stopMade s).Still s := by
  unfold Machine.probeEnds
  repeat' split
  · exact (State.Calm.probeOutcome _ g _ _ _).toStill.trans (.leaveBus s g _)
  · rfl
  · rfl

theorem State.Still.queryEnds (s : State) (g : Seg) (bus : List BusAnswer) (stopMade : Bool) :
    (queryEnds g bus stopMade s).Still s := by
  unfold Machine.queryEnds
  split
  · exact (State.Calm.noticeOutcome _ g _ _).toStill.trans (.leaveBus s g _)
  · rfl

/-! ### The bus monitor, recovery and FAULT -/

theorem State.Still.turnFree (s : State) (g : Seg) : (s.turnFree g).Still s :=
  (State.Calm.markChoice _ g).toStill.trans
    (.modSeg s g ((Segment.Still.driveStart _).trans (.of_sc rfl rfl rfl)))

theorem State.Still.freeTimeElapses (s : State) (g : Seg) : (freeTimeElapses g s).Still s := by
  unfold Machine.freeTimeElapses
  simp only
  split
  · exact .turnFree s g
  · rfl

theorem State.Still.leaveFault (s : State) (g : Seg) : (s.leaveFault g).Still s :=
  (State.Calm.markChoice _ g).toStill.trans ((State.Calm.claimFault _ g _).toStill.trans
    (.modSeg s g (.of_enabled rfl rfl (by simp))))

theorem State.Still.linesHigh (s : State) (g : Seg) (n : Nat) : (linesHigh g n s).Still s := by
  have free : (if (s.seg g).monitor = .free then s else s.turnFree g).Still s := by
    split
    · rfl
    · exact .turnFree s g
  unfold Machine.linesHigh
  simp only
  split
  · split
    · split
      · exact (State.Still.leaveServing _ g).trans ((State.Still.endTransaction _ g n _).trans free)
      · exact free
    · exact (State.Still.leaveFault _ g).trans free
    · exact free
  · rfl

theorem State.Still.passTo (s : State) (g : Seg) {sc : ScState} (on : sc ≠ .disabled) : (s.passTo g sc).Still s :=
  .modSeg s g (.of_enabled rfl rfl on)

theorem State.Still.recovered (s : State) (g : Seg) : (s.recovered g).Still s := by
  have passed : (s.passTo g (if (s.seg g).handed.isSome then .contending else .idle)).Still s :=
    .passTo s g (by split <;> simp)
  unfold State.recovered
  simp only
  refine (State.Calm.markChoice _ g).toStill.trans ?_
  split
  · exact (State.Calm.claimFault _ g _).toStill.trans passed
  · exact passed

theorem State.Still.post (s : State) (g : Seg) (ix : StationIx) (p : PostedReply) : (s.modSeg g (·.post ix p)).Still s :=
  .modSeg s g (.of_sc rfl rfl rfl)

theorem State.Still.withdraw (s : State) (g : Seg) (ix : StationIx) : (s.modSeg g (·.withdraw ix)).Still s :=
  .modSeg s g (.of_sc rfl rfl rfl)

theorem State.Still.enable (s : State) (g : Seg) : (s.enable g).Still s := by
  have enabled : ((s.modSeg g (·.enable)).markChoice g).Still s :=
    (State.Calm.markChoice _ g).toStill.trans (.modSeg s g (.of_enabled rfl rfl (by simp [Segment.enable])))
  unfold State.enable
  simp only
  split
  · exact (State.Calm.enterWatching _ g).toStill.trans enabled
  · exact enabled

end Sys2Proof.Machine

/-!
What a step can be, said once: a request that goes through Table 12-1 to its block, an event, a reset, or a change of a
notice line, with what closes an action. An invariant is shown for these, and `Keeps.step` shows it for every step.
-/

namespace Sys2Proof.Machine

/-! ### Requests and events -/

/-- The executions that requests have in their owning blocks (Table 13-4). -/
inductive RequestRun : (State → State × Answer) → Prop
  | status : RequestRun fun s => (s, statusAnswer s)
  | restart (body) : RequestRun (runRestart body)
  | sync : RequestRun runSync
  | ack (body) : RequestRun (runAck body)
  | resend (body) : RequestRun (runResend body)
  | configure (body) : RequestRun (runConfigure body)
  | enable (body) : RequestRun (runEnable body)
  | disable (body cut) : RequestRun (runDisable body cut)
  | recover (body) : RequestRun (runRecover body)
  | submit (body) : RequestRun (runSubmit body)
  | append (body) : RequestRun (runAppend body)
  | cancel (body) : RequestRun (runCancel body)
  | query (body) : RequestRun (runQuery body)
  | rosterRead (body) : RequestRun (runRosterRead body)
  | addFixed (body) : RequestRun (runAddFixed body)
  | remove (body) : RequestRun (runRemove body)
  | enrol (w body) : RequestRun (runEnrol w body)
  | post (body) : RequestRun (runPost body)
  | withdraw (body) : RequestRun (runWithdraw body)
  | unknown : RequestRun fun s => (s, .refused .unknownKind)

/-- The effects of the events that are neither requests nor resets. -/
inductive Event : (State → State) → Prop
  | nothing : Event id
  | stagingExpires (i) : Event (stagingExpires i)
  | deadlineExpires (i) : Event (deadlineExpires i)
  | backoffExpires (g) : Event (backoffExpires g)
  | rollExpires (g) : Event (rollExpires g)
  | holdExpires (g) : Event (holdExpires g)
  | retryWaitExpires (g) : Event (retryWaitExpires g)
  | attemptEnds (g bus stopMade) : Event (attemptEnds g bus stopMade)
  | cancelReaches (g bus next stopMade) : Event (cancelReaches g bus next stopMade)
  | probeEnds (g bus stopMade) : Event (probeEnds g bus stopMade)
  | enrolEnds (st g bus stopMade) : Event (·.enrolEnds st g bus stopMade)
  | queryEnds (g bus stopMade) : Event (queryEnds g bus stopMade)
  | lineAsserted (g) : Event (lineAsserted g)
  | lineReleased (g) : Event (lineReleased g)
  | startSeen (g) : Event fun s => s.modSeg g (·.startSeen)
  | clockFall (g) : Event fun s => s.modSeg g (·.clockFall)
  | stopSeen (g n) : Event (stopSeen g n)
  | repeatedStartSeen (g n) : Event (repeatedStartSeen g n)
  | freeTimeElapses (g) : Event (freeTimeElapses g)
  | linesHigh (g n) : Event (linesHigh g n)
  | stuckDetected (g line cut) : Event (stuckDetected g line cut)
  | stretched (g eighth) : Event fun s => s.modSeg g (·.stretched eighth)
  | recoveryEnds (g pulses) : Event (recoveryEnds g pulses)
  | addressSeen (g b) : Event (addressSeen g b)
  | byteArrives (g b) : Event (byteArrives g b)
  | endRead (g n) : Event fun s => s.endRead g n

/-- A frame taken whole is a request that goes to its block (R167). -/
theorem takeRequest_eq (f : Frame) (cut : BusCut) :
    ∃ kind sizeOk run, RequestRun run ∧ ∀ s, takeRequest f cut s = takeFrame kind f.tag sizeOk run s := by
  unfold takeRequest
  split
  case h_1 => exact ⟨_, _, _, .status, fun _ => rfl⟩
  case h_2 => exact ⟨_, _, _, .restart f.body, fun _ => rfl⟩
  case h_3 => exact ⟨_, _, _, .sync, fun _ => rfl⟩
  case h_4 => exact ⟨_, _, _, .ack f.body, fun _ => rfl⟩
  case h_5 => exact ⟨_, _, _, .resend f.body, fun _ => rfl⟩
  case h_6 => exact ⟨_, _, _, .configure f.body, fun _ => rfl⟩
  case h_7 => exact ⟨_, _, _, .enable f.body, fun _ => rfl⟩
  case h_8 => exact ⟨_, _, _, .disable f.body cut, fun _ => rfl⟩
  case h_9 => exact ⟨_, _, _, .recover f.body, fun _ => rfl⟩
  case h_10 => exact ⟨_, _, _, .submit f.body, fun _ => rfl⟩
  case h_11 => exact ⟨_, _, _, .append f.body, fun _ => rfl⟩
  case h_12 => exact ⟨_, _, _, .cancel f.body, fun _ => rfl⟩
  case h_13 => exact ⟨_, _, _, .query f.body, fun _ => rfl⟩
  case h_14 => exact ⟨_, _, _, .rosterRead f.body, fun _ => rfl⟩
  case h_15 => exact ⟨_, _, _, .addFixed f.body, fun _ => rfl⟩
  case h_16 => exact ⟨_, _, _, .remove f.body, fun _ => rfl⟩
  case h_17 => exact ⟨_, _, _, .enrol .sweep f.body, fun _ => rfl⟩
  case h_18 => exact ⟨_, _, _, .enrol .forget f.body, fun _ => rfl⟩
  case h_19 => exact ⟨_, _, _, .post f.body, fun _ => rfl⟩
  case h_20 => exact ⟨_, _, _, .withdraw f.body, fun _ => rfl⟩
  case h_21 => exact ⟨_, _, _, .unknown, fun _ => rfl⟩

/-! ### Events are still but for an ASSIGN -/

/-- A bus fault that is no failed stop ends an enrolment work, whatever its command (R115). -/
theorem State.Calm.engineOutcome_busFault (s : State) (g : Seg) (r : TxRun) (eighth : Bool) :
    (s.engineOutcome g r (.busFault false) eighth).Calm s := by
  have read := State.Calm.afterResult s g (.busFault false)
  unfold State.engineOutcome
  simp only
  split
  · next h => exact (State.Calm.callOutcome h r _).trans read
  · exact (State.Calm.enrolOther _ g (.busFault false)).trans read
  · have other : (s.modEngine g (·.afterResult (.busFault false))).assignOutcome g r (.busFault false) =
        (s.modEngine g (·.afterResult (.busFault false))).enrolOther g (.busFault false) := by
      simp [State.assignOutcome, taken, notTaken, TxWay.refused]
    rw [other]
    exact (State.Calm.enrolOther _ g _).trans read
  · next h => exact (State.Calm.parkOutcome h r _).trans read
  · exact (State.Calm.forgetOutcome _ g r _ eighth).trans read
  · exact read
  · exact read

/-- The owner of an activity that ends as bus fault changes jobs and its own bookkeeping only (R54, R62). -/
theorem State.CalmJobs.activityOutcome_busFault (s : State) (g : Seg) (a : Activity) (r : TxRun) :
    (s.activityOutcome g a r (.busFault false) false).CalmJobs s := by
  cases a with
  | job i => exact .jobOutcome s g i r (.busFault false)
  | notice => exact (State.Calm.noticeOutcome s g r (.busFault false)).toCalmJobs
  | enrol => exact (State.Calm.engineOutcome_busFault s g r false).toCalmJobs
  | probe entry a => exact (State.Calm.probeOutcome s g entry a (.busFault false)).toCalmJobs

theorem State.Still.faultActivity (s : State) (g : Seg) (cut : BusCut) : (s.faultActivity g cut).Still s := by
  unfold State.faultActivity
  split
  · rfl
  · exact (State.CalmJobs.activityOutcome_busFault _ g _ _).toStill.trans (.modSeg s g (.of_sc rfl rfl rfl))

theorem State.Still.enterFault (s : State) (g : Seg) (line : BusLine) (cut : BusCut) : (s.enterFault g line cut).Still s :=
  (State.Calm.claimFault _ g _).toStill.trans ((State.Still.abandonService _ g _).trans
    ((State.Still.passTo _ g (by simp)).trans (.faultActivity s g cut)))

theorem State.Still.enterRecovering (s : State) (g : Seg) (cut : BusCut) : (s.enterRecovering g cut).Still s := by
  unfold State.enterRecovering
  simp only
  refine (State.Still.abandonService _ g _).trans ((State.Still.passTo _ g (by simp)).trans ?_)
  split
  · exact .faultActivity s g cut
  · rfl

theorem State.Still.stuckDetected (s : State) (g : Seg) (line : BusLine) (cut : BusCut) :
    (stuckDetected g line cut s).Still s := by
  have stuck : (s.modSeg g fun sg => { sg with monitor := .stuck, stopSeen := false }).Still s :=
    .modSeg s g (.of_sc rfl rfl rfl)
  unfold Machine.stuckDetected
  simp only
  repeat' split
  · exact stuck
  · exact stuck
  · exact stuck
  · exact (State.Still.enterFault _ g _ cut).trans stuck
  · exact (State.Still.enterRecovering _ g cut).trans stuck
  · rfl

theorem State.Still.recoveryEnds (s : State) (g : Seg) (pulses : List RecoveryPulse) : (recoveryEnds g pulses s).Still s := by
  unfold Machine.recoveryEnds
  repeat' split
  · next r _ =>
    have watched : (s.modSeg g (·.recoveryWatched pulses r)).Still s := .modSeg s g (.recoveryWatched _ pulses r)
    refine State.Still.trans ?_ watched
    cases r with
    | stopMade => exact .recovered _ g
    | dataHeld | clockHeld => exact .enterFault _ g _ _
  · rfl
  · rfl

/-- An enrolment command's end changes no more than the bus, the Roster and the engine. -/
theorem State.HostStill.enrolEnds (s : State) (st : SweepState) (g : Seg) (bus : List BusAnswer) (stopMade : Bool) :
    (s.enrolEnds st g bus stopMade).HostStill s := by
  unfold State.enrolEnds
  repeat' split
  · exact (State.CalmEnrol.engineOutcome _ g _ _ _).toHostStill.trans (State.Still.leaveBus s g _).toHostStill
  · rfl
  · rfl

/-- An event is the end of an enrolment command, or leaves the Roster's places and the ASSIGN in hand. -/
theorem Event.enrolEnds_or_still {f : State → State} (h : Event f) :
    (∃ st g bus stopMade, f = (·.enrolEnds st g bus stopMade)) ∨ ∀ s, (f s).Still s := by
  cases h with
  | enrolEnds st g bus stopMade => exact .inl ⟨st, g, bus, stopMade, rfl⟩
  | nothing => exact .inr .refl
  | stagingExpires i => exact .inr fun s => (State.CalmJobs.stagingExpires s i).toStill
  | deadlineExpires i => exact .inr (.deadlineExpires · i)
  | backoffExpires g => exact .inr fun s => (State.Calm.backoffExpires s g).toStill
  | rollExpires g => exact .inr fun s => (State.Calm.rollExpires s g).toStill
  | holdExpires g => exact .inr (.holdExpires · g)
  | retryWaitExpires g => exact .inr fun s => (State.Calm.retryWaitExpires s g).toStill
  | attemptEnds g bus stopMade => exact .inr (.attemptEnds · g bus stopMade)
  | cancelReaches g bus next stopMade => exact .inr (.cancelReaches · g bus next stopMade)
  | probeEnds g bus stopMade => exact .inr (.probeEnds · g bus stopMade)
  | queryEnds g bus stopMade => exact .inr (.queryEnds · g bus stopMade)
  | lineAsserted g => exact .inr fun s => (State.Calm.lineAsserted s g).toStill
  | lineReleased g => exact .inr fun s => (State.Calm.lineReleased s g).toStill
  | startSeen g => exact .inr fun s => .modSeg s g (.startSeen _)
  | clockFall g => exact .inr fun s => .modSeg s g (.clockFall _)
  | stopSeen g n => exact .inr (.stopSeen · g n)
  | repeatedStartSeen g n => exact .inr (.repeatedStartSeen · g n)
  | freeTimeElapses g => exact .inr (.freeTimeElapses · g)
  | linesHigh g n => exact .inr (.linesHigh · g n)
  | stuckDetected g line cut => exact .inr (.stuckDetected · g line cut)
  | stretched g eighth => exact .inr fun s => .modSeg s g (.stretched _ eighth)
  | recoveryEnds g pulses => exact .inr (.recoveryEnds · g pulses)
  | addressSeen g b => exact .inr (.addressSeen · g b)
  | byteArrives g b => exact .inr (.byteArrives · g b)
  | endRead g n => exact .inr (.endRead · g n)

theorem Event.hostStill {f : State → State} (h : Event f) (s : State) : (f s).HostStill s := by
  obtain ⟨st, g, bus, stopMade, rfl⟩ | still := h.enrolEnds_or_still
  · exact .enrolEnds s st g bus stopMade
  · exact (still s).toHostStill

/-! ### What executions leave to the Host Link -/

/-- An execution leaves the reply queue and RST alone, keeps the laws of the Report Queue, and keeps the cache or
empties it (R167, R175). -/
structure State.HostKept (t s : State) : Prop where
  replies : t.replies = s.replies
  cache : t.cache = s.cache ∨ t.cache = []
  rstLow : t.rstLow = s.rstLow
  outside : t.outside = s.outside
  queue : s.QueueOk → t.QueueOk

theorem State.HostStill.kept {t s : State} (h : t.HostStill s) : t.HostKept s :=
  ⟨h.replies, .inl h.cache, h.rstLow, h.outside, h.queue⟩

/-! ### Invariants -/

/-- A property of states is kept by everything a step can be, RST high where the action needs it so. -/
structure Keeps (I : State → Prop) : Prop where
  pending : ∀ s q, I s → I (s.withPending q)
  rx : ∀ (s : State) (r : Option (List Byte)), I s → I { s with rx := r }
  line : ∀ s g asserted, I s → I (s.setNoticeLine g asserted)
  powerOn : ∀ s : State, I (({ s.cleared false with rstLow := false }.started .powerOn).transmit)
  rstAssert : ∀ s : State, I { s.cleared false with rstLow := true }
  rstRelease : ∀ s : State, s.rstLow = true → I s → I (({ s with rstLow := false }.started .rstPin).transmit)
  restarted : ∀ s m, s.rstLow = false → I s → I (s.restarted m)
  frameSent : ∀ s : State, s.rstLow = false → I s → I { s with htx := none }
  request : ∀ kind tag sizeOk run s, RequestRun run → s.rstLow = false → I s → I (takeFrame kind tag sizeOk run s)
  event : ∀ f s, Event f → s.rstLow = false → I s → I (f s)
  settle : ∀ s, s.rstLow = false → I s → I s.settle

/-- An action keeps what its effect and its closing keep. -/
theorem Keeps.act {I : State → Prop} (keeps : Keeps I) {f : State → State} {s t : State}
    (effect : s.rstLow = false → (f s).rstLow = false ∧ I (f s)) (h : I s) (ht : act f s = .next t) : I t := by
  rw [act_eq, Host.Outcome.next.injEq] at ht
  subst ht
  split
  · exact h
  · next high =>
    obtain ⟨high', h'⟩ := effect (Bool.eq_false_iff.mpr high)
    exact keeps.settle _ high' h'

end Sys2Proof.Machine

/-!
The Host Link Controller's own requests: what SYNC, ACK_REPORTS and RESEND_REPORTS make of the Report Queue (R173 to
R175), and that every execution leaves the Host Link as `HostKept` says.
-/

namespace Sys2Proof.Machine

/-! ### The order of the Report Queue -/

/-- A list stands with the members of `p` first exactly when no member of `p` stands after a non-member. -/
theorem eq_filter_append_filter_iff {α : Type} {p : α → Bool} {l : List α} :
    l = l.filter p ++ l.filter (!p ·) ↔ l.Pairwise fun a b => p b = true → p a = true := by
  constructor
  · intro h
    rw [h, List.pairwise_append]
    refine ⟨List.pairwise_of_forall_mem_list fun a ha _ _ _ => List.of_mem_filter ha,
      List.pairwise_of_forall_mem_list fun a _ b hb pb => ?_, fun a ha _ _ _ => List.of_mem_filter ha⟩
    have := List.of_mem_filter hb
    simp [pb] at this
  · intro h
    induction h with
    | nil => rfl
    | @cons a l first _ ih =>
      cases ha : p a with
      | true => rw [List.filter_cons_of_pos ha, List.filter_cons_of_neg (by simp [ha]), List.cons_append, ← ih]
      | false =>
        have none : ∀ b ∈ l, p b = false := fun b hb => Bool.eq_false_iff.mpr fun pb => by simp [first b hb pb] at ha
        rw [List.filter_cons_of_neg (by simp [ha]), List.filter_cons_of_pos (by simp [ha]),
          List.filter_eq_nil_iff.mpr (by simpa using none), List.filter_eq_self.mpr (by simpa using none)]
        rfl

/-- The end of a queue has the last of its sequences (R171). -/
theorem sequencesBefore_drop (q : BitVec 8) (m n : Nat) : (sequencesBefore q (m + n)).drop m = sequencesBefore q n := by
  refine List.ext_getElem (by simp [sequencesBefore]) fun k _ _ => ?_
  simp only [sequencesBefore, List.getElem_drop, List.getElem_map, List.getElem_range, Nat.add_sub_add_left]

/-- The end of a queue, with ATTN as it then stands, meets the laws. -/
theorem ReportsOk.suffix {old new : List Report} {q : BitVec 8} {attn : Bool} (h : ReportsOk (old ++ new) q attn) :
    ReportsOk new q (!new.isEmpty) where
  size := by have := h.size; rw [List.length_append] at this; omega
  sentFirst := eq_filter_append_filter_iff.mpr
    (List.pairwise_append.mp (eq_filter_append_filter_iff.mp h.sentFirst)).2.1
  window := by have := h.window; rw [List.filter_append, List.length_append] at this; omega
  sequences := by
    have := congrArg (List.drop old.length) h.sequences
    rw [List.length_append, sequencesBefore_drop, List.map_append, List.drop_left' (by simp)] at this
    exact this
  attn := rfl

/-- A queue whose later part is made WAITING meets the laws (R174, R175). -/
theorem ReportsOk.waiting {old new : List Report} {q : BitVec 8} {attn : Bool} (h : ReportsOk (old ++ new) q attn) :
    ReportsOk (old ++ allWaiting new) q attn where
  size := by simpa [allWaiting] using h.size
  sentFirst := by
    refine eq_filter_append_filter_iff.mpr ?_
    obtain ⟨hold, -, -⟩ := List.pairwise_append.mp (eq_filter_append_filter_iff.mp h.sentFirst)
    have unsent : ∀ r ∈ allWaiting new, r.sent = false := by simp [allWaiting]
    refine List.pairwise_append.mpr ⟨hold, List.pairwise_of_forall_mem_list fun _ _ b hb sent => ?_,
      fun _ _ b hb sent => ?_⟩
    · simp [unsent b hb] at sent
    · simp [unsent b hb] at sent
  window := by
    have := h.window
    have none : (allWaiting new).filter (·.sent) = [] := by simp [allWaiting, List.filter_map]
    rw [List.filter_append, List.length_append] at this
    rw [List.filter_append, none, List.append_nil]
    omega
  sequences := by simpa [allWaiting, Function.comp_def] using h.sequences
  attn := by cases old <;> simpa [allWaiting] using h.attn

/-- The entries up to a sequence, and those after it, are the whole queue. -/
theorem upTo_append_after (q : BitVec 8) (rs : List Report) : upTo q rs ++ after q rs = rs := by
  induction rs with
  | nil => rfl
  | cons r rs ih => unfold upTo after; split <;> simp [ih]

/-- RESEND_REPORTS makes the end of the queue WAITING. -/
theorem waitingFrom_eq (q : BitVec 8) (rs : List Report) :
    ∃ old new, rs = old ++ new ∧ waitingFrom q rs = old ++ allWaiting new := by
  induction rs with
  | nil => exact ⟨[], [], rfl, rfl⟩
  | cons r rs ih =>
    unfold waitingFrom
    split
    · exact ⟨[], r :: rs, rfl, rfl⟩
    · obtain ⟨old, new, hrs, hw⟩ := ih
      exact ⟨r :: old, new, by rw [hrs, List.cons_append], by rw [hw, List.cons_append]⟩

/-- The oldest WAITING entry becomes SENT. -/
theorem sendOldest_append {old new : List Report} {r : Report} (hold : ∀ x ∈ old, x.sent = true) (hr : r.sent = false) :
    sendOldest (old ++ r :: new) = old ++ { r with sent := true } :: new := by
  induction old with
  | nil => simp [sendOldest, hr]
  | cons x old ih =>
    obtain ⟨hx, hold⟩ := List.forall_mem_cons.mp hold
    simp [sendOldest, hx, ih hold]

/-- Within the window an entry that becomes SENT keeps the laws (R170, R171). -/
theorem ReportsOk.send {old new : List Report} {r : Report} {q : BitVec 8} {attn : Bool}
    (h : ReportsOk (old ++ r :: new) q attn) (hold : ∀ x ∈ old, x.sent = true) (hr : r.sent = false)
    (room : ((old ++ r :: new).filter (·.sent)).length < 16) : ReportsOk (old ++ { r with sent := true } :: new) q attn where
  size := by simpa using h.size
  sentFirst := by
    refine eq_filter_append_filter_iff.mpr ?_
    obtain ⟨hp, hnew, -⟩ := List.pairwise_append.mp (eq_filter_append_filter_iff.mp h.sentFirst)
    obtain ⟨hfirst, hnew⟩ := List.pairwise_cons.mp hnew
    exact List.pairwise_append.mpr ⟨hp, List.pairwise_cons.mpr ⟨fun _ _ _ => rfl, hnew⟩, fun a ha _ _ _ => hold a ha⟩
  window := by
    simp only [List.filter_append, List.filter_cons, hr, List.length_append] at room
    simp only [List.filter_append, List.filter_cons, List.length_append, if_true, List.length_cons]
    simp at room
    omega
  sequences := by simpa using h.sequences
  attn := by cases old <;> simpa using h.attn

/-! ### The transmitter -/

/-- The transmitter's choice: nothing, the oldest reply, or the oldest WAITING report within the window (R170). -/
theorem State.transmit_cases (s : State) :
    s.transmit = s ∨
    (∃ f rest, s.replies = f :: rest ∧ s.transmit = { s with htx := some f, replies := rest }) ∨
    ∃ old r new, s.reports = old ++ r :: new ∧ (∀ x ∈ old, x.sent = true) ∧ r.sent = false ∧
      (s.reports.filter (·.sent)).length < 16 ∧
      s.transmit = { s with htx := some r.frame, reports := old ++ { r with sent := true } :: new } := by
  unfold State.transmit
  split
  · exact .inl rfl
  · split
    · next f rest h => exact .inr (.inl ⟨f, rest, h, rfl⟩)
    · split
      · next r h =>
        split
        · next room =>
          obtain ⟨hr, old, new, hs, hold⟩ := List.find?_eq_some_iff_append.mp h
          have hr : r.sent = false := by simpa using hr
          have hold : ∀ x ∈ old, x.sent = true := by simpa using hold
          refine .inr (.inr ⟨old, r, new, hs, hold, hr, room, ?_⟩)
          rw [hs, sendOldest_append hold hr]
        · exact .inl rfl
      · exact .inl rfl

/-! ### Telling the owners -/

/-- The owner of a removed report changes nothing of the Host Link (R173). -/
theorem State.tellOwner_host (s : State) (r : Report) : ∃ slots accepted segs poolFree,
    s.tellOwner r = { s with slots := slots, accepted := accepted, segs := segs, poolFree := poolFree } := by
  unfold State.tellOwner State.freeSlot State.freeMessage
  repeat' split
  all_goals exact ⟨_, _, _, _, rfl⟩

theorem State.foldl_tellOwner_host (rs : List Report) (s : State) : ∃ slots accepted segs poolFree,
    rs.foldl State.tellOwner s =
      { s with slots := slots, accepted := accepted, segs := segs, poolFree := poolFree } := by
  induction rs generalizing s with
  | nil => exact ⟨_, _, _, _, rfl⟩
  | cons r rs ih =>
    obtain ⟨slots, accepted, segs, poolFree, h⟩ := s.tellOwner_host r
    obtain ⟨slots', accepted', segs', poolFree', h'⟩ := ih (s.tellOwner r)
    exact ⟨slots', accepted', segs', poolFree', by rw [List.foldl_cons, h', h]⟩

/-! ### Executions -/

theorem State.HostKept.runSync (s : State) : (runSync s).1.HostKept s where
  replies := rfl
  cache := .inr rfl
  rstLow := rfl
  outside := rfl
  queue h := ⟨ReportsOk.waiting (old := []) h.reports, fun waits => by simpa [Machine.runSync, allWaiting] using h.claims waits⟩

theorem State.HostKept.runAck (body : List Byte) (s : State) : (runAck body s).1.HostKept s := by
  unfold Machine.runAck
  simp only
  split
  · obtain ⟨slots, accepted, segs, poolFree, told⟩ := State.foldl_tellOwner_host (upTo (byteAt body 0) s.reports)
      { s with reports := after (byteAt body 0) s.reports, attn := !(after (byteAt body 0) s.reports).isEmpty }
    rw [told]
    have filled := State.fillQueue_same { s with
      slots := slots, accepted := accepted, segs := segs, poolFree := poolFree
      reports := after (byteAt body 0) s.reports, attn := !(after (byteAt body 0) s.reports).isEmpty }
    refine ⟨filled.replies, .inl filled.cache, filled.rstLow,
      by simp only [State.outside, filled.rx, filled.htx, filled.rate1, filled.rate0, filled.pending],
      fun h => State.fillQueue_queueOk ?_⟩
    have whole := h.reports
    rw [← upTo_append_after (byteAt body 0) s.reports] at whole
    exact whole.suffix
  · exact (State.HostStill.refl s).kept

theorem State.HostKept.runResend (body : List Byte) (s : State) : (runResend body s).1.HostKept s := by
  unfold Machine.runResend
  simp only
  split
  · obtain ⟨old, new, hrs, hw⟩ := waitingFrom_eq (byteAt body 0) s.reports
    rw [hw]
    refine ⟨rfl, .inl rfl, rfl, rfl, fun h => ⟨?_, fun waits => ?_⟩⟩
    · have := h.reports
      rw [hrs] at this
      exact this.waiting
    · have := h.claims waits
      rw [hrs] at this
      simpa [allWaiting] using this
  · exact (State.HostStill.refl s).kept

theorem State.HostKept.runRestart (body : List Byte) (s : State) : (runRestart body s).1.HostKept s := by
  unfold Machine.runRestart
  split <;> exact ⟨rfl, .inl rfl, rfl, rfl, id⟩

theorem State.HostStill.configure (s : State) (g : Seg) (new : SegConfig) : (s.configure g new).HostStill s := by
  unfold State.configure State.noticeItem
  simp only
  repeat' split
  · exact .modSeg s g _
  · exact (State.Calm.modNotice _ g _).toHostStill.trans (.modSeg s g _)
  · exact (State.Calm.enterWatching _ g).toHostStill.trans (.modSeg s g _)
  · exact (State.Calm.modNotice _ g _).toHostStill.trans (.modSeg s g _)

theorem State.HostStill.disable (s : State) (g : Seg) (flush : Bool) (cut : BusCut) : (s.disable g flush cut).HostStill s := by
  have current : (((s.cutPresence g cut).modSeg g (·.release)).endCurrent g (s.cutRun g cut)).HostStill s :=
    (State.CalmJobs.endCurrent _ g _).toHostStill.trans ((State.HostStill.modSeg _ g _).trans
      (State.Calm.cutPresence s g cut).toHostStill)
  unfold State.disable
  simp only
  refine (State.Calm.mapEntries_probeDue _ g false).toHostStill.trans ((State.HostStill.modSeg _ g _).trans
    ((State.Still.abandonService _ g _).toHostStill.trans ((State.Calm.abortSweep _ g).toHostStill.trans ?_)))
  split
  · exact (State.CalmJobs.flush _ g).toHostStill.trans current
  · exact current

/-- An entry dropped from the Roster with its claim (R94). -/
theorem State.HostStill.dropEntry (s : State) (h : Handle) : (s.dropEntry h).HostStill s := by
  have withdrawn := (State.Calm.withdrawClaim s (.roster h)).toHostStill
  exact ⟨withdrawn.replies, withdrawn.cache, withdrawn.rstLow, withdrawn.restart, rfl, withdrawn.queue⟩

/-! ### What each request can do -/

theorem runConfigure_cases (body : List Byte) (s : State) :
    (runConfigure body s).1 = s ∨ ∃ g c, newConfig (s.seg g).config (itemList body) = some c ∧
      ¬ ((s.seg g).enabled = true ∧ (itemList body).any (fun p => !liveItem p.1) = true) ∧
      ¬ s.configConflict g c = true ∧ (runConfigure body s).1 = s.configure g c := by
  unfold runConfigure
  repeat' split
  · exact .inl rfl
  · exact .inl rfl
  · exact .inl rfl
  · exact .inl rfl
  · exact .inr ⟨_, _, ‹_›, ‹_›, ‹_›, rfl⟩

theorem runEnable_cases (body : List Byte) (s : State) :
    (runEnable body s).1 = s ∨ ∃ g, ¬ (s.seg g).enabled = true ∧ (runEnable body s).1 = s.enable g := by
  unfold runEnable
  repeat' split
  · exact .inl rfl
  · exact .inl rfl
  · exact .inr ⟨_, ‹_›, rfl⟩

theorem runDisable_cases (body : List Byte) (cut : BusCut) (s : State) :
    (runDisable body cut s).1 = s ∨ ∃ g, ((runDisable body cut s).1 = s.flush g ∧ ¬ (s.seg g).enabled = true) ∨
      ∃ flush, (runDisable body cut s).1 = s.disable g flush cut ∧ (s.seg g).enabled = true := by
  unfold runDisable
  split
  · simp only
    repeat' split
    · exact .inr ⟨_, .inr ⟨_, rfl, ‹_›⟩⟩
    · exact .inr ⟨_, .inl ⟨rfl, ‹_›⟩⟩
    · exact .inl rfl
  · exact .inl rfl

theorem runRecover_cases (body : List Byte) (s : State) :
    (runRecover body s).1 = s ∨ ∃ g, (s.seg g).sc = .fault ∧
      (runRecover body s).1 = s.modSeg g fun sg => { sg with sc := .recovering, recoverRequested := true } := by
  unfold runRecover
  repeat' split
  · exact .inl rfl
  · exact .inl rfl
  · exact .inr ⟨_, ‹_›, rfl⟩
  · exact .inl rfl

theorem runSubmit_cases (body : List Byte) (s : State) :
    (runSubmit body s).1 = s ∨ ∃ r t g i, submitReqOf body = some r ∧ s.checkTarget r.target = .good t g ∧
      s.checkPredecessor r.predecessor = none ∧ s.freeSlotNumber = some i ∧
      ¬ s.poolFree < r.blocks + Config.inboundReserve ∧
      (runSubmit body s).1 =
        (s.takeSlot i (newJob r t g (s.recordedPredecessor r.predecessor))).placeIfComplete i := by
  unfold runSubmit acceptJob
  repeat' split
  · exact .inl rfl
  · exact .inl rfl
  · exact .inl rfl
  · exact .inl rfl
  · exact .inl rfl
  · exact .inr ⟨_, _, _, _, ‹_›, ‹_›, ‹_›, ‹_›, ‹_›, rfl⟩

theorem runAppend_cases (body : List Byte) (s : State) :
    (runAppend body s).1 = s ∨ ∃ i j data, s.jobAt i = some j ∧ j.state = .staging ∧
      j.staged + data.length ≤ j.writeTotal ∧
      (runAppend body s).1 = (s.modJob i (·.stage data)).placeIfComplete i := by
  unfold runAppend
  repeat' split
  · exact .inl rfl
  · exact .inl rfl
  · exact .inl rfl
  · exact .inl rfl
  · exact .inl rfl
  · next hj hs hw => exact .inr ⟨_, _, _, hj, not_not.mp hs, Nat.not_lt.mp hw, rfl⟩

theorem runCancel_cases (body : List Byte) (s : State) :
    (runCancel body s).1 = s ∨ ∃ i j, s.jobAt i = some j ∧ j.state ≠ .ended ∧
      (runCancel body s).1 = s.cancelJob i j := by
  unfold runCancel
  repeat' split
  · exact .inl rfl
  · exact .inl rfl
  · exact .inl rfl
  · exact .inl rfl
  · exact .inr ⟨_, _, ‹_›, ‹_›, rfl⟩
  · exact .inr ⟨_, _, ‹_›, ‹_›, rfl⟩

theorem runAddFixed_cases (body : List Byte) (s : State) :
    (runAddFixed body s).1 = s ∨ ∃ g a h, a.toNat ≤ 0x7F ∧ s.checkFixed g a = none ∧ s.freeHandle = some h ∧
      (runAddFixed body s).1 = s.putEntry h (some (fixedEntry g (a.setWidth 7))) := by
  unfold runAddFixed
  repeat' split
  · exact .inl rfl
  · exact .inl rfl
  · exact .inl rfl
  · exact .inl rfl
  · exact .inr ⟨_, byteAt body 1, _, Nat.not_lt.mp ‹_›, ‹_›, ‹_›, rfl⟩

theorem runRemove_cases (body : List Byte) (s : State) :
    (runRemove body s).1 = s ∨ ∃ h, (s.entryAt h).isSome ∧
      (runRemove body s).1 = ((s.jobsNaming h).foldl State.removeReaches s).dropEntry h := by
  unfold runRemove
  repeat' split
  · exact .inl rfl
  · exact .inl rfl
  · exact .inl rfl
  · next he _ _ => exact .inr ⟨_, by simp [he], rfl⟩
  · exact .inl rfl

theorem runEnrol_cases (w : WorkKind) (body : List Byte) (s : State) :
    (runEnrol w body s).1 = s ∨ ∃ g, (s.seg g).enabled ≠ false ∧ ¬ (s.seg g).engine.busy = true ∧
      (runEnrol w body s).1 = (s.modEngine g (·.accept w)).markChoice g := by
  unfold runEnrol
  repeat' split
  · exact .inl rfl
  · exact .inl rfl
  · exact .inl rfl
  · exact .inr ⟨_, ‹_›, ‹_›, rfl⟩

theorem runPost_cases (body : List Byte) (s : State) :
    (runPost body s).1 = s ∨ ∃ g ix p, (runPost body s).1 = s.modSeg g (·.post ix p) := by
  unfold runPost
  repeat' split
  · exact .inl rfl
  · exact .inl rfl
  · exact .inr ⟨_, _, _, rfl⟩

theorem runWithdraw_cases (body : List Byte) (s : State) :
    (runWithdraw body s).1 = s ∨ ∃ g ix, (runWithdraw body s).1 = s.modSeg g (·.withdraw ix) := by
  unfold runWithdraw
  split
  · exact .inl rfl
  · exact .inr ⟨_, _, rfl⟩

theorem runRosterRead_state (body : List Byte) (s : State) : (runRosterRead body s).1 = s := by
  unfold runRosterRead
  simp only
  split <;> rfl

/-- A request that the Broker answers without a change, or with one that leaves the Host Link still. -/
theorem State.HostKept.of_cases {t s : State} {P : Prop} (h : t = s ∨ P) (change : P → t.HostStill s) : t.HostKept s := by
  rcases h with rfl | h
  · exact (State.HostStill.refl t).kept
  · exact (change h).kept

/-- Every execution leaves the Host Link as `HostKept` says. -/
theorem RequestRun.hostKept {run : State → State × Answer} (h : RequestRun run) (s : State) : (run s).1.HostKept s := by
  cases h with
  | status | unknown => exact (State.HostStill.refl s).kept
  | restart body => exact .runRestart body s
  | sync => exact .runSync s
  | ack body => exact .runAck body s
  | resend body => exact .runResend body s
  | configure body =>
    refine .of_cases (runConfigure_cases body s) ?_
    rintro ⟨g, c, -, -, -, h⟩
    exact h ▸ .configure s g c
  | enable body =>
    refine .of_cases (runEnable_cases body s) ?_
    rintro ⟨g, -, h⟩
    exact h ▸ (State.Still.enable s g).toHostStill
  | disable body cut =>
    refine .of_cases (runDisable_cases body cut s) ?_
    rintro ⟨g, ⟨h, -⟩ | ⟨flush, h, -⟩⟩
    · exact h ▸ (State.CalmJobs.flush s g).toHostStill
    · exact h ▸ .disable s g flush cut
  | recover body =>
    refine .of_cases (runRecover_cases body s) ?_
    rintro ⟨g, -, h⟩
    exact h ▸ .modSeg s g _
  | submit body =>
    refine .of_cases (runSubmit_cases body s) ?_
    rintro ⟨r, t, g, i, -, -, -, -, -, h⟩
    exact h ▸ (State.CalmJobs.placeIfComplete _ i).toHostStill.trans ⟨rfl, rfl, rfl, rfl, rfl, id⟩
  | append body =>
    refine .of_cases (runAppend_cases body s) ?_
    rintro ⟨i, j, data, -, -, -, h⟩
    exact h ▸ (State.CalmJobs.placeIfComplete _ i).toHostStill.trans ⟨rfl, rfl, rfl, rfl, rfl, id⟩
  | cancel body =>
    refine .of_cases (runCancel_cases body s) ?_
    rintro ⟨i, j, -, -, h⟩
    exact h ▸ (State.Still.cancelJob s i j).toHostStill
  | query body =>
    rw [runQuery_state]
    exact (State.HostStill.refl s).kept
  | rosterRead body =>
    rw [runRosterRead_state]
    exact (State.HostStill.refl s).kept
  | addFixed body =>
    refine .of_cases (runAddFixed_cases body s) ?_
    rintro ⟨g, a, k, -, -, -, h⟩
    exact h ▸ ⟨rfl, rfl, rfl, rfl, rfl, id⟩
  | remove body =>
    refine .of_cases (runRemove_cases body s) ?_
    rintro ⟨k, -, h⟩
    exact h ▸ (State.HostStill.dropEntry _ k).trans (State.CalmJobs.foldl .removeReaches _ s).toHostStill
  | enrol w body =>
    refine .of_cases (runEnrol_cases w body s) ?_
    rintro ⟨g, -, -, h⟩
    exact h ▸ (State.Calm.markChoice _ g).toHostStill.trans (.modSeg s g _)
  | post body =>
    refine .of_cases (runPost_cases body s) ?_
    rintro ⟨g, ix, p, h⟩
    exact h ▸ .modSeg s g _
  | withdraw body =>
    refine .of_cases (runWithdraw_cases body s) ?_
    rintro ⟨g, ix, h⟩
    exact h ▸ .modSeg s g _

end Sys2Proof.Machine

/-!
Every step keeps an invariant that requests, events, resets and the closing of an action keep.
-/

namespace Sys2Proof.Machine

/-! ### RST stays high -/

theorem State.transmit_rstLow (s : State) : s.transmit.rstLow = s.rstLow := by
  obtain h | ⟨f, rest, -, h⟩ | ⟨old, r, new, -, -, -, -, h⟩ := s.transmit_cases <;> rw [h]

theorem State.settle_rstLow (s : State) : s.settle.rstLow = s.rstLow :=
  (State.transmit_rstLow _).trans (State.Still.settleChoices _ s).rstLow

theorem takeFrame_rstLow (kind tag : Byte) (sizeOk : Bool) {run : State → State × Answer} (h : RequestRun run)
    (s : State) : (takeFrame kind tag sizeOk run s).rstLow = s.rstLow := by
  unfold takeFrame
  simp only
  repeat' split
  case h_2.isFalse.isTrue => exact (h.hostKept _).rstLow
  all_goals rfl

/-! ### Bytes on the line -/

/-- The receiver keeps what requests and the closing of their actions keep (R166). -/
theorem Keeps.scan {I : State → Prop} (keeps : Keeps I) (broken : Bool) (cut : BusCut) (n : Nat) (bytes : List Byte)
    (s : State) (high : s.rstLow = false) (h : I s) :
    (scan broken cut n bytes s).rstLow = false ∧ I (scan broken cut n bytes s) := by
  induction n generalizing bytes s with
  | zero => exact ⟨high, h⟩
  | succ n ih =>
    cases bytes with
    | nil => exact ⟨high, keeps.rx s none h⟩
    | cons b rest =>
      unfold Machine.scan
      split
      · exact ⟨high, keeps.rx s none h⟩
      · split
        · split
          · split
            · exact ih _ s high h
            · exact ⟨high, keeps.rx s _ h⟩
          · exact ih _ s high h
          · next f more _ =>
            obtain ⟨kind, sizeOk, run, hrun, request⟩ := takeRequest_eq f cut
            rw [request]
            have high' : (takeFrame kind f.tag sizeOk run s).rstLow = false :=
              (takeFrame_rstLow _ _ _ hrun s).trans high
            exact ih _ _ ((State.settle_rstLow _).trans high')
              (keeps.settle _ high' (keeps.request kind f.tag sizeOk run s hrun high h))
        · exact ih _ s high h

/-! ### Commands -/

theorem Keeps.act_request {I : State → Prop} (keeps : Keeps I) {kind tag : Byte} {sizeOk : Bool}
    {run : State → State × Answer} (hrun : RequestRun run) {s t : State} (h : I s)
    (ht : Machine.act (takeFrame kind tag sizeOk run) s = .next t) : I t :=
  keeps.act (fun high => ⟨(takeFrame_rstLow _ _ _ hrun s).trans high, keeps.request kind tag sizeOk run s hrun high h⟩) h ht

theorem Keeps.act_event {I : State → Prop} (keeps : Keeps I) {f : State → State} (hf : Event f) {s t : State} (h : I s)
    (ht : Machine.act f s = .next t) : I t :=
  keeps.act (fun high => ⟨(hf.hostStill s).rstLow.trans high, keeps.event f s hf high h⟩) h ht

theorem Keeps.act_bytes {I : State → Prop} (keeps : Keeps I) {bytes : List Byte} {broken : Bool} {cut : BusCut} {s t : State}
    (h : I s) (ht : Machine.act (bytesArrive bytes broken cut) s = .next t) : I t :=
  keeps.act (fun high => keeps.scan broken cut _ _ s high h) h ht

/-- A restart is taken with RST high. -/
theorem Keeps.restartTaken {I : State → Prop} (keeps : Keeps I) {s t : State} (h : I s)
    (ht : execRestartTaken s = .next t) : I t := by
  unfold execRestartTaken at ht
  rw [Host.Outcome.next.injEq] at ht
  subst ht
  repeat' split
  · exact h
  · next high => exact keeps.restarted s _ (Bool.eq_false_iff.mpr high) h
  · exact h

/-- STARTED, and the transmitter's choice, leave RST as it is. -/
theorem State.restarted_rstLow (s : State) (m : RestartMode) : (s.restarted m).rstLow = s.rstLow := by
  cases m <;> exact State.transmit_rstLow _

theorem Keeps.frameEnds {I : State → Prop} (keeps : Keeps I) {s t : State} (h : I s)
    (ht : Machine.act Machine.frameSent s = .next t) : I t := by
  refine keeps.act (fun high => ?_) h ht
  unfold Machine.frameSent
  split
  · next m _ => exact ⟨(s.restarted_rstLow m).trans high, keeps.restarted s m high h⟩
  · exact ⟨high, keeps.frameSent s high h⟩

/-- Every command keeps the invariant. -/
theorem Keeps.exec {I : State → Prop} (keeps : Keeps I) {c : Instr} {s t : State} (h : I s) (ht : exec c s = .next t) :
    I t := by
  cases c with
  | powerOn => cases ht; exact keeps.powerOn s
  | rstAssert => cases ht; exact keeps.rstAssert s
  | rstRelease =>
    rw [Machine.exec, execRstRelease, Host.Outcome.next.injEq] at ht
    subst ht
    split
    · next low => exact keeps.rstRelease s low h
    · exact h
  | restartTaken => exact keeps.restartTaken h ht
  | frameDiscarded bytes lowStop cut => exact keeps.act_bytes h ht
  | hrxGapTimeout bytes cut => exact keeps.act_bytes h ht
  | unknownKindFrame kind tag body =>
    refine keeps.act (fun high => ?_) h ht
    unfold unknownArrives
    split
    · exact ⟨high, h⟩
    · exact ⟨(takeFrame_rstLow _ _ _ .unknown s).trans high, keeps.request kind tag true _ s .unknown high h⟩
  | htxFrameSent => exact keeps.frameEnds h ht
  | status tag body => exact keeps.act_request .status h ht
  | restart tag body => exact keeps.act_request (.restart body) h ht
  | sync tag body => exact keeps.act_request .sync h ht
  | ackReports tag body => exact keeps.act_request (.ack body) h ht
  | resendReports tag body => exact keeps.act_request (.resend body) h ht
  | segmentConfigure tag body => exact keeps.act_request (.configure body) h ht
  | segmentEnable tag body => exact keeps.act_request (.enable body) h ht
  | segmentDisable tag body cut => exact keeps.act_request (.disable body cut) h ht
  | segmentRecover tag body => exact keeps.act_request (.recover body) h ht
  | submit tag body => exact keeps.act_request (.submit body) h ht
  | append tag body => exact keeps.act_request (.append body) h ht
  | cancel tag body => exact keeps.act_request (.cancel body) h ht
  | queryJob tag body => exact keeps.act_request (.query body) h ht
  | rosterRead tag body => exact keeps.act_request (.rosterRead body) h ht
  | rosterAddFixed tag body => exact keeps.act_request (.addFixed body) h ht
  | rosterRemove tag body => exact keeps.act_request (.remove body) h ht
  | enrolSweep tag body => exact keeps.act_request (.enrol .sweep body) h ht
  | enrolForget tag body => exact keeps.act_request (.enrol .forget body) h ht
  | postReply tag body => exact keeps.act_request (.post body) h ht
  | withdrawReply tag body => exact keeps.act_request (.withdraw body) h ht
  | stagingTimerExpiry slot => exact keeps.act_event (.stagingExpires slot) h ht
  | deadlineExpiry slot => exact keeps.act_event (.deadlineExpires slot) h ht
  | backoffTimerExpiry g => exact keeps.act_event (.backoffExpires g) h ht
  | rollTimerExpiry g => exact keeps.act_event (.rollExpires g) h ht
  | holdTimerExpiry g => exact keeps.act_event (.holdExpires g) h ht
  | retryWaitExpiry g => exact keeps.act_event (.retryWaitExpires g) h ht
  | jobAttemptEnd g bus stopMade => exact keeps.act_event (.attemptEnds g bus stopMade) h ht
  | cancelAtByteBoundary g bus next stopMade => exact keeps.act_event (.cancelReaches g bus next stopMade) h ht
  | probeEnd g bus stopMade => exact keeps.act_event (.probeEnds g bus stopMade) h ht
  | callEnd g bus stopMade => exact keeps.act_event (.enrolEnds .calling g bus stopMade) h ht
  | identifyEnd g bus stopMade => exact keeps.act_event (.enrolEnds .identifying g bus stopMade) h ht
  | assignEnd g bus stopMade => exact keeps.act_event (.enrolEnds .assigning g bus stopMade) h ht
  | parkEnd g bus stopMade => exact keeps.act_event (.enrolEnds .parking g bus stopMade) h ht
  | forgetEnd g bus stopMade => exact keeps.act_event (.enrolEnds .forgetting g bus stopMade) h ht
  | noticeQueryEnd g bus stopMade => exact keeps.act_event (.queryEnds g bus stopMade) h ht
  | noticeLineAsserted g =>
    rw [Machine.exec, execNoticeLineAsserted] at ht
    split at ht
    · exact keeps.act_event .nothing h ht
    · exact keeps.act_event (.lineAsserted g) (keeps.line s g true h) ht
  | noticeLineReleased g =>
    rw [Machine.exec, execNoticeLineReleased] at ht
    split at ht
    · exact keeps.act_event (.lineReleased g) (keeps.line s g false h) ht
    · exact keeps.act_event .nothing h ht
  | busStartSeen g => exact keeps.act_event (.startSeen g) h ht
  | clockFallDataHigh g => exact keeps.act_event (.clockFall g) h ht
  | busStopSeen g sent => exact keeps.act_event (.stopSeen g sent) h ht
  | busRepeatedStartSeen g sent => exact keeps.act_event (.repeatedStartSeen g sent) h ht
  | freeTimeElapsed g => exact keeps.act_event (.freeTimeElapses g) h ht
  | linesHigh1ms g sent => exact keeps.act_event (.linesHigh g sent) h ht
  | stuckDetected g line cut => exact keeps.act_event (.stuckDetected g line cut) h ht
  | stretchTimeout g eighth => exact keeps.act_event (.stretched g eighth) h ht
  | recoveryEnd g pulses => exact keeps.act_event (.recoveryEnds g pulses) h ht
  | addressMatch g address => exact keeps.act_event (.addressSeen g address) h ht
  | inboundByte g b => exact keeps.act_event (.byteArrives g b) h ht
  | servedReadEnd g sent => exact keeps.act_event (.endRead g sent) h ht

/-- Every step keeps the invariant. -/
theorem Keeps.step {I : State → Prop} (keeps : Keeps I) {s t : State} (h : I s) (ht : step s = .next t) : I t := by
  unfold Machine.step at ht
  split at ht
  · cases ht; exact h
  · exact keeps.exec (keeps.pending s _ h) ht

/-! ### The Host Link -/

theorem HostLinkOk.queueOk {s : State} (h : HostLinkOk s) : s.QueueOk :=
  ⟨⟨h.reports, h.sentFirst, h.window, h.sequences, h.attn⟩, h.claims⟩

/-- The laws of the Host Link, by its parts. -/
theorem HostLinkOk.of_queue {s : State} (replies : s.replies.length ≤ 8) (size : s.cache.length ≤ 8)
    (tags : (s.cache.map (·.tag)).Nodup) (tagged : ∀ e ∈ s.cache, e.tag ≠ 0) (queue : s.QueueOk)
    (held : s.rstLow = true → s.reports = []) : HostLinkOk s :=
  ⟨replies, size, tags, tagged, queue.reports.size, queue.reports.sentFirst, queue.reports.window,
    queue.reports.sequences, queue.claims, queue.reports.attn, held⟩

/-- With RST high the reset value of the queue is not asked for. -/
theorem not_held {s : State} (high : s.rstLow = false) : s.rstLow = true → s.reports = [] :=
  fun low => absurd (high.symm.trans low) (by decide)

theorem HostLinkOk.still {t s : State} (h : HostLinkOk s) (high : s.rstLow = false) (still : t.HostStill s) :
    HostLinkOk t :=
  .of_queue (still.replies ▸ h.replies) (still.cache ▸ h.cacheSize) (still.cache ▸ h.cacheTags)
    (still.cache ▸ h.cacheTagged) (still.queue h.queueOk) (not_held (still.rstLow.trans high))

/-- The transmitter's choice keeps the laws (R170). -/
theorem HostLinkOk.transmit {s : State} (h : HostLinkOk s) (high : s.rstLow = false) : HostLinkOk s.transmit := by
  have held : s.transmit.rstLow = true → s.transmit.reports = [] := not_held ((State.transmit_rstLow s).trans high)
  obtain same | ⟨f, rest, hreplies, taken⟩ | ⟨old, r, new, hreports, hold, hr, room, sent⟩ := s.transmit_cases
  · rwa [same]
  · have short : rest.length ≤ 8 := by
      have := h.replies
      rw [hreplies, List.length_cons] at this
      omega
    rw [taken] at held ⊢
    exact .of_queue short h.cacheSize h.cacheTags h.cacheTagged h.queueOk held
  · have laws := h.queueOk.reports
    rw [hreports] at laws room
    rw [sent] at held ⊢
    refine .of_queue h.replies h.cacheSize h.cacheTags h.cacheTagged ⟨laws.send hold hr room, fun waits => ?_⟩ held
    have := h.claims waits
    rw [hreports] at this
    simpa using this

/-- The cold and the warm values of the Host Link, with STARTED in the queue (R178). -/
theorem HostLinkOk.started {s : State} (replies : s.replies = []) (cache : s.cache = []) (reports : s.reports = [])
    (claims : s.claims = []) (high : s.rstLow = false) (r : StartReason) : HostLinkOk (s.started r).transmit := by
  refine HostLinkOk.transmit (.of_queue ?_ ?_ ?_ ?_ ⟨?_, fun waits => absurd claims waits⟩ (not_held high)) high
  · simp [State.started, replies]
  · simp [State.started, cache]
  · simp [State.started, cache]
  · simp [State.started, cache]
  · simp only [State.started, State.enqueueReport, reports]
    exact (ReportsOk.empty s.nextSeq).enqueue (by simp) _ _ _

/-- A reply queued under a tag that the cache does not hold (R168, R169). -/
theorem HostLinkOk.reply {s : State} (h : HostLinkOk s) (high : s.rstLow = false) (room : s.replies.length < 8)
    {tag : Byte} (tagged : tag ≠ 0) (fresh : ∀ e ∈ s.cache, e.tag ≠ tag) (kind : Byte) (a : Answer) :
    HostLinkOk (s.reply kind tag a) := by
  have kept : ((if s.cache.length < Config.maxCache then s.cache else s.cache.drop 1)).Sublist s.cache := by
    split
    · exact .refl _
    · exact List.drop_sublist 1 s.cache
  have size : (if s.cache.length < Config.maxCache then s.cache else s.cache.drop 1).length < 8 := by
    split
    · assumption
    · have := h.cacheSize
      rw [List.length_drop]
      omega
  refine .of_queue ?_ ?_ ?_ ?_ h.queueOk (not_held high)
  · simpa [State.reply, State.queueReply] using room
  · simpa [State.reply, State.enterCache] using size
  · simp only [State.reply, State.enterCache, State.queueReply_cache, List.map_append, List.map_cons, List.map_nil]
    refine List.Nodup.append (h.cacheTags.sublist (kept.map _)) (List.nodup_singleton _) ?_
    rw [List.disjoint_singleton]
    rintro hmem
    obtain ⟨e, he, htag⟩ := List.mem_map.mp hmem
    exact fresh e (kept.subset he) htag
  · simp only [State.reply, State.enterCache, State.queueReply_cache]
    intro e he
    rcases List.mem_append.mp he with he | he
    · exact h.cacheTagged e (kept.subset he)
    · rw [List.mem_singleton.mp he]; exact tagged

/-- A tag that the cache does not hold. -/
theorem State.fresh_of_cached {s : State} {tag : Byte} (h : s.cached tag = none) : ∀ e ∈ s.cache, e.tag ≠ tag := by
  simpa [State.cached] using h

theorem HostLinkOk.queueReply {s : State} (h : HostLinkOk s) (high : s.rstLow = false) (room : s.replies.length < 8)
    (f : Frame) : HostLinkOk (s.queueReply f) :=
  .of_queue (by simpa [State.queueReply] using room) h.cacheSize h.cacheTags h.cacheTagged h.queueOk (not_held high)

/-- An execution keeps the laws (R167, R175). -/
theorem HostLinkOk.run {t s : State} (h : HostLinkOk s) (high : s.rstLow = false) (kept : t.HostKept s) : HostLinkOk t := by
  refine .of_queue (kept.replies ▸ h.replies) ?_ ?_ ?_ (kept.queue h.queueOk) (not_held (kept.rstLow.trans high))
  · rcases kept.cache with e | e <;> simp [e, h.cacheSize]
  · rcases kept.cache with e | e <;> simp [e, h.cacheTags]
  · rcases kept.cache with e | e <;> simp [e]
    exact h.cacheTagged

/-- Table 12-1 keeps the laws (R167 to R169). -/
theorem HostLinkOk.takeFrame {s : State} (h : HostLinkOk s) (high : s.rstLow = false) (kind tag : Byte) (sizeOk : Bool)
    {run : State → State × Answer} (hrun : RequestRun run) : HostLinkOk (takeFrame kind tag sizeOk run s) := by
  have hunting : HostLinkOk s.hunting :=
    ⟨h.replies, h.cacheSize, h.cacheTags, h.cacheTagged, h.reports, h.sentFirst, h.window, h.sequences, h.claims, h.attn, h.held⟩
  unfold Machine.takeFrame
  simp only
  split
  · exact h
  · split
    · exact hunting
    · next room =>
      have room : s.replies.length < 8 := Nat.not_le.mp room
      split
      · exact hunting.queueReply high room _
      · next uncached =>
        split
        · exact hunting.queueReply high room _
        · next tagged =>
          have fresh := State.fresh_of_cached uncached
          split
          · have kept := hrun.hostKept s.hunting
            refine (hunting.run high kept).reply (kept.rstLow.trans high) (kept.replies ▸ room) tagged ?_ kind _
            rcases kept.cache with e | e
            · rw [e]; exact fresh
            · rw [e]; exact fun _ he => absurd he List.not_mem_nil
          · exact hunting.reply high room tagged fresh kind _

theorem HostLinkOk.keeps : Keeps HostLinkOk where
  pending _ _ h := ⟨h.1, h.2, h.3, h.4, h.5, h.6, h.7, h.8, h.9, h.10, h.11⟩
  rx _ _ h := ⟨h.1, h.2, h.3, h.4, h.5, h.6, h.7, h.8, h.9, h.10, h.11⟩
  line _ _ _ h := ⟨h.1, h.2, h.3, h.4, h.5, h.6, h.7, h.8, h.9, h.10, h.11⟩
  powerOn s := .started (s := { s.cleared false with rstLow := false }) rfl rfl rfl rfl rfl _
  rstAssert s := .of_queue (Nat.zero_le 8) (Nat.zero_le 8) List.nodup_nil (fun _ he => absurd he List.not_mem_nil)
    ⟨.empty 0, fun waits => absurd rfl waits⟩ fun _ => rfl
  rstRelease s low h := by
    have reports := h.held low
    have claims : s.claims = [] := by
      by_contra waits
      have := h.claims waits
      rw [reports] at this
      exact absurd this (by decide)
    have laws := h.queueOk.reports
    rw [reports] at laws
    refine HostLinkOk.transmit (.of_queue h.replies h.cacheSize h.cacheTags h.cacheTagged
      ⟨?_, fun waits => absurd claims waits⟩ (not_held rfl)) rfl
    simp only [State.started, State.enqueueReport, reports]
    exact laws.enqueue (by simp) _ _ _
  restarted s m high _ := by
    cases m with
    | cold => exact .started (s := s.cleared false) rfl rfl rfl rfl high _
    | warm => exact .started (s := s.cleared true) rfl rfl rfl rfl high _
  frameSent _ _ h := ⟨h.1, h.2, h.3, h.4, h.5, h.6, h.7, h.8, h.9, h.10, h.11⟩
  request kind tag sizeOk _ _ hrun high h := h.takeFrame high kind tag sizeOk hrun
  event _ s hf high h := h.still high (hf.hostStill s)
  settle s high h :=
    have still := (State.Still.settleChoices choiceLimit s).toHostStill
    (h.still high still).transmit (still.rstLow.trans high)

/-- Settles O19: requests, events, resets and the closing of an action each keep the laws of the Host Link. -/
theorem stepKeepsHostLinkLaws : Obligations.StepKeepsHostLinkLaws := by
  unfold Obligations.StepKeepsHostLinkLaws
  exact fun _ _ h ht => HostLinkOk.keeps.step h ht

end Sys2Proof.Machine

/-!
The queue, the resets and the timers: what one step is, what the resets make of the Broker, and the expiries that only
record an event.
-/

namespace Sys2Proof.Machine

/-- Settles O1: the two cases of the command queue. -/
theorem stepRunsFrontCommand : Obligations.StepRunsFrontCommand := by
  unfold Obligations.StepRunsFrontCommand
  intro s
  refine ⟨fun c rest front => ?front, fun empty => ?empty⟩
  case front => simp only [step, front]; rfl
  case empty => simp only [step, empty]

/-- Settles O2: each arm of `exec` is an action, a reset, or one of the two changes of a notice line. -/
theorem everyCommandCompletes : Obligations.EveryCommandCompletes := by
  unfold Obligations.EveryCommandCompletes
  intro c s
  cases c
  case noticeLineAsserted g => cases h : (s.seg g).noticeLine <;> simp [exec, execNoticeLineAsserted, h, act_eq]
  case noticeLineReleased g => cases h : (s.seg g).noticeLine <;> simp [exec, execNoticeLineReleased, h, act_eq]
  all_goals exact ⟨_, rfl⟩

/-! ### The state after reset -/

/-- Every segment of the reset state is a segment after a reset with the default configuration. -/
@[simp] theorem State.reset_seg (g : Seg) : State.reset.seg g = Segment.after SegConfig.default false := by
  simp [State.seg, State.reset]

/-- Every slot of the reset state is FREE. -/
@[simp] theorem State.reset_jobAt (i : Slot) : State.reset.jobAt i = none := by
  simp [State.jobAt, State.reset]

/-- Every slot of the reset state has generation 0. -/
@[simp] theorem State.reset_genAt (i : Slot) : State.reset.genAt i = 0 := by
  simp [State.genAt, State.reset]

/-- Every handle of the reset state is free. -/
@[simp] theorem State.reset_entryAt (h : Handle) : State.reset.entryAt h = none := by
  simp [State.entryAt, State.reset]

/-- The station records after a reset. -/
@[simp] theorem Segment.after_station (c : SegConfig) (low : Bool) (ix : StationIx) :
    (Segment.after c low).station ix = Station.reset := by
  simp [Segment.after, Segment.station]

/-- The inbound lists after a reset. -/
@[simp] theorem Segment.after_inboundAt (c : SegConfig) (low : Bool) (r : RecordIx) :
    (Segment.after c low).inboundAt r = [] := by
  simp [Segment.after, Segment.inboundAt]

/-- Settles O3: each register of the reset state read off. -/
theorem resetStateHoldsColdValues : Obligations.ResetStateHoldsColdValues := by
  unfold Obligations.ResetStateHoldsColdValues
  refine ⟨fun g config low => ?segment, fun i => ⟨State.reset_jobAt i, State.reset_genAt i⟩, rfl, State.reset_entryAt, rfl,
    fun g => ?registers, rfl, rfl, rfl, rfl, rfl, rfl, rfl, rfl⟩
  case segment => rw [State.reset_seg]; rfl
  case registers =>
    rw [State.reset_seg]
    exact ⟨rfl, rfl, rfl, rfl, rfl, rfl, rfl, rfl, rfl, rfl, rfl, rfl, rfl, rfl, rfl, rfl, rfl, rfl, rfl,
      Segment.after_station _ _, Segment.after_inboundAt _ _, rfl⟩

/-! ### Resets and restarts -/

/-- A mapping of every element to one value leaves no trace of the elements. -/
theorem vector_map_const {α β : Type} {n : Nat} (v : Vector α n) (b : β) : (v.map fun _ => b) = Vector.replicate n b := by
  ext k hk; simp

/-- Every block at its cold values: the reset state with no report, but for the pins and the command queue. -/
theorem State.cleared_cold (s : State) : s.cleared false = { State.reset with
    segs := s.segs.map fun sg => Segment.after SegConfig.default sg.noticeLine
    reports := [], nextSeq := 0, attn := false, htx := none, rstLow := s.rstLow
    rate1 := s.rate1, rate0 := s.rate0, pending := s.pending } := by
  simp [State.cleared, State.reset, vector_map_const]

/-- What a warm restart keeps: the generations, the roster without its counts and claims, and the configuration. -/
theorem State.cleared_warm (s : State) : s.cleared true = { State.reset with
    slots := s.slots.map fun sl => ⟨sl.generation, none⟩
    segs := s.segs.map fun sg => Segment.after sg.config sg.noticeLine
    roster := s.roster.map fun o => o.map fun e =>
      { e with misses := 0, probeDue := false, claimWaiting := false, created := false, moved := false, changes := 0 }
    reports := [], nextSeq := 0, attn := false, htx := none, rstLow := s.rstLow
    rate1 := s.rate1, rate0 := s.rate0, pending := s.pending } := by
  simp [State.cleared, State.reset]

/-- STARTED enters an empty queue, and an idle transmitter with no reply takes it at once. -/
theorem State.transmit_started (s : State) (r : StartReason) (noReport : s.reports = []) (noReply : s.replies = [])
    (idle : s.htx = none) (first : s.nextSeq = 0) : (s.started r).transmit = { s with
      reports := [⟨0x80, 0, [reasonCode r, byteOf s.poolFree], .hlc, true⟩]
      nextSeq := 1, attn := true
      htx := some ⟨0x80, 0, [reasonCode r, byteOf s.poolFree]⟩ } := by
  simp [State.started, State.enqueueReport, State.transmit, noReport, noReply, idle, first, State.sentCount,
    sendOldest, Report.frame, Config.sentWindow]

/-- While RST is low an action leaves the Broker as it is. -/
theorem act_held (f : State → State) {s : State} (held : s.rstLow = true) : act f s = .next s := by
  simp [act_eq, held]

/-- The level of a notice line that is set already is no change. -/
theorem State.setNoticeLine_same {s : State} {g : Seg} {level : Bool} (h : (s.seg g).noticeLine = level) :
    s.setNoticeLine g level = s := by
  refine State.modSeg_id s g ?_
  rw [← h]

/-- While RST is low a change of a notice line sets the level of its pin alone. -/
theorem exec_noticeLine_held {s : State} (held : s.rstLow = true) (g : Seg) :
    exec (.noticeLineAsserted g) s = .next (s.setNoticeLine g true) ∧
      exec (.noticeLineReleased g) s = .next (s.setNoticeLine g false) := by
  have setHeld : ∀ level, (s.setNoticeLine g level).rstLow = true := fun _ => held
  cases h : (s.seg g).noticeLine <;>
    simp [exec, execNoticeLineAsserted, execNoticeLineReleased, h, act_held _ held, act_held _ (setHeld _),
      State.setNoticeLine_same h]

/-- While RST is low only the resets and the notice lines act. -/
theorem exec_held {s : State} (held : s.rstLow = true) (c : Instr) (power : c ≠ .powerOn) (assert : c ≠ .rstAssert)
    (release : c ≠ .rstRelease) (line : ∀ g, c ≠ .noticeLineAsserted g ∧ c ≠ .noticeLineReleased g) :
    exec c s = .next s := by
  cases c
  case powerOn => exact absurd rfl power
  case rstAssert => exact absurd rfl assert
  case rstRelease => exact absurd rfl release
  case noticeLineAsserted g => exact absurd rfl (line g).1
  case noticeLineReleased g => exact absurd rfl (line g).2
  case restartTaken => simp only [exec, execRestartTaken, held, if_true]; split <;> rfl
  all_goals
    unfold exec
    exact act_held _ held

/-- Settles O4: the three reset commands by their effect on the cold values, and what is held while RST is low. -/
theorem powerOnAndRstResetEverything : Obligations.PowerOnAndRstResetEverything := by
  unfold Obligations.PowerOnAndRstResetEverything
  intro s
  refine ⟨?power, ?assert, fun held noReply noReport idle first => ?release, fun high => ?high,
    fun held => ⟨exec_noticeLine_held held, exec_held held⟩⟩
  case power =>
    show Host.Outcome.next _ = _
    rw [State.transmit_started _ _ rfl rfl rfl rfl, State.cleared_cold]
    rfl
  case assert =>
    show Host.Outcome.next _ = _
    rw [State.cleared_cold]
  case release =>
    simp only [exec, execRstRelease, held, if_true]
    exact congrArg Host.Outcome.next
      (State.transmit_started { s with rstLow := false } .rstPin noReport noReply idle first)
  case high => simp [exec, execRstRelease, high]

/-! ### The restart -/

/-- The end of the RESTART reply's transmission brings the restart that was asked for. -/
theorem State.restartDue_of_reply {s : State} {f : Frame} {m : RestartMode} (sending : s.htx = some f)
    (reply : f.kind = 0x42) (asked : s.restart = some m) : s.restartDue = some m := by
  simp [State.restartDue, sending, asked, reply, restartReplyKind]

/-- A restart that is due is taken by either of its two commands (log entry 25): the transmitter is busy with STARTED, so
what closes the action changes nothing more. -/
theorem exec_restart_taken {s : State} {m : RestartMode} (running : s.rstLow = false) (due : s.restartDue = some m)
    {c : Instr} (either : c = .restartTaken ∨ c = .htxFrameSent) : exec c s = .next (s.restarted m) := by
  have settled : (s.restarted m).settle = s.restarted m := by
    cases m <;>
      rw [State.restarted, State.transmit_started _ _ rfl rfl rfl rfl] <;> rfl
  rcases either with rfl | rfl
  · simp [exec, execRestartTaken, due, running]
  · simp [exec, execHtxFrameSent, act_eq, running, frameSent, due, settled]

/-- Settles O5: a restart that is due is taken, and its mode says what is kept. -/
theorem restartTakenColdOrWarm : Obligations.RestartTakenColdOrWarm := by
  unfold Obligations.RestartTakenColdOrWarm
  intro s f c either running sending reply
  refine ⟨fun asked => ?cold, fun asked => ?warm⟩
  case cold =>
    rw [exec_restart_taken running (State.restartDue_of_reply sending reply asked) either, State.restarted,
      State.transmit_started _ _ rfl rfl rfl rfl, State.cleared_cold, running]
    rfl
  case warm =>
    rw [exec_restart_taken running (State.restartDue_of_reply sending reply asked) either, State.restarted,
      State.transmit_started _ _ rfl rfl rfl rfl, State.cleared_warm, running]
    rfl

/-! ### Timers of a segment -/

/-- Settles O36: each expiry is an action whose effect is the one stated. -/
theorem segmentTimersMakeChoicePoints : Obligations.SegmentTimersMakeChoicePoints := by
  unfold Obligations.SegmentTimersMakeChoicePoints
  intro s g running
  refine ⟨fun set => ?backoff, fun set => ?roll, fun set => ?retry⟩
  case backoff =>
    have ends := act_ends (backoffExpires g) running
    rwa [backoffExpires, if_pos set] at ends
  case roll =>
    have ends := act_ends (rollExpires g) running
    rwa [rollExpires, if_pos set] at ends
  case retry =>
    have ends := act_ends (retryWaitExpires g) running
    rwa [retryWaitExpires, if_pos set] at ends

/-! ### Handing -/

/-- An activity handed while the monitor is FREE drives its start at once. -/
theorem Segment.hand_free {sg : Segment} (free : sg.monitor = .free) (a : Activity) : sg.hand a =
    { sg with handed := some a, sc := .controlling, monitor := .busy, stopSeen := false, stretch := none } := by
  simp [Segment.hand, Segment.driveStart, Segment.seeStart, free]

/-- An activity handed while the monitor is not FREE waits in CONTENDING. -/
theorem Segment.hand_waits {sg : Segment} (waits : sg.monitor ≠ .free) (a : Activity) :
    sg.hand a = { sg with handed := some a, sc := .contending } := by
  simp [Segment.hand, Segment.driveStart, waits]

/-- Settles O35: handing changes one segment, by whether its monitor is FREE. -/
theorem handedActivityStartsWhenFree : Obligations.HandedActivityStartsWhenFree := by
  unfold Obligations.HandedActivityStartsWhenFree
  intro s g a
  refine ⟨fun free => ?starts, fun waits => ?waits, fun k other => State.seg_modSeg_ne s g k _ other, rfl⟩
  case starts => rw [State.handActivity, State.seg_modSeg_self, Segment.hand_free free]
  case waits => rw [State.handActivity, State.seg_modSeg_self, Segment.hand_waits waits]

end Sys2Proof.Machine

/-!
The host link: Table 12-1, the reply queue and the reply cache, the transmitter, and the requests that the Host Link
Controller executes itself.
-/

namespace Sys2Proof.Machine

/-! ### Table 12-1 -/

/-- A request is an action on the frame that carries it. -/
theorem exec_request {c : Instr} {kind tag : Byte} {sizeOk : Bool} (h : requestOf c = some (kind, tag, sizeOk)) :
    ∃ run, ∀ s, exec c s = act (takeFrame kind tag sizeOk run) s := by
  cases c
  case unknownKindFrame k t body =>
    simp only [requestOf] at h
    split at h
    · cases h
    · next unknown =>
      cases h
      refine ⟨fun s => (s, .refused .unknownKind), fun s => ?_⟩
      simp only [exec, execUnknownKindFrame, act_eq, unknownArrives, unknown]
      rfl
  all_goals
    cases h <;> exact ⟨_, fun _ => rfl⟩

section TakeFrame

variable {s : State} {kind tag : Byte} {sizeOk : Bool} {run : State → State × Answer}

/-- From a RESTART's OK reply to the restart no frame is taken (R178). -/
theorem takeFrame_restart (h : s.restart.isSome) : takeFrame kind tag sizeOk run s = s := by
  simp [takeFrame, h]

/-- A frame that finds the reply queue full is discarded (R167). -/
theorem takeFrame_full (quiet : s.restart = none) (full : 8 ≤ s.replies.length) :
    takeFrame kind tag sizeOk run s = s.hunting := by
  simp [takeFrame, quiet, Config.maxReplies, full, State.hunting]

/-- A cached tag replays its reply (R168). -/
theorem takeFrame_cached (quiet : s.restart = none) (room : s.replies.length < 8) {f : Frame}
    (cached : s.cached tag = some f) : takeFrame kind tag sizeOk run s = s.hunting.queueReply f := by
  have hs : s.restart.isSome = false := by rw [quiet]; rfl
  have hc : State.cached { s with rx := none } tag = some f := cached
  simp only [takeFrame, hs, Config.maxReplies, Nat.not_le.mpr room, hc, State.hunting, if_false, Bool.false_eq_true]

/-- Tag 0 is refused, and its reply not cached (R167). -/
theorem takeFrame_tagZero (quiet : s.restart = none) (room : s.replies.length < 8) (fresh : s.cached tag = none)
    (zero : tag = 0) :
    takeFrame kind tag sizeOk run s = s.hunting.queueReply (replyFrame kind 0 (.refused .malformed)) := by
  have hs : s.restart.isSome = false := by rw [quiet]; rfl
  have hc : State.cached { s with rx := none } tag = none := fresh
  simp only [takeFrame, hs, Bool.false_eq_true, if_false, Config.maxReplies, Nat.not_le.mpr room, hc, State.hunting]
  exact if_pos zero

/-- A wrong body size is refused (R167). -/
theorem takeFrame_badSize (quiet : s.restart = none) (room : s.replies.length < 8) (fresh : s.cached tag = none)
    (tagged : tag ≠ 0) : takeFrame kind tag false run s = s.hunting.reply kind tag (.refused .malformed) := by
  have hs : s.restart.isSome = false := by rw [quiet]; rfl
  have hc : State.cached { s with rx := none } tag = none := fresh
  simp only [takeFrame, hs, Bool.false_eq_true, if_false, Config.maxReplies, Nat.not_le.mpr room, hc, tagged, State.hunting]

end TakeFrame

/-- A frame of a kind that is no request kind is answered UNKNOWN_KIND (R167). -/
theorem exec_unknown_answered {s : State} {kind tag : Byte} (body : List Byte) (takes : Takes s tag)
    (unknown : kind ∉ requestKinds) :
    Answered (exec (.unknownKindFrame kind tag body) s) kind tag (.refused .unknownKind) s.hunting := by
  have arrives : exec (.unknownKindFrame kind tag body) s =
      act (takeFrame kind tag true fun s => (s, .refused .unknownKind)) s := by
    simp only [exec, execUnknownKindFrame, act_eq, unknownArrives, List.contains_iff_mem, unknown, if_false]
    rfl
  rw [arrives]
  exact answered_of_takes takes kind true (fun s => (s, .refused .unknownKind)) rfl

/-- Settles O6: the lines of Table 12-1 one by one, for the one form that every request has. -/
theorem requestsStoppedBeforeExecution : Obligations.RequestsStoppedBeforeExecution := by
  unfold Obligations.RequestsStoppedBeforeExecution
  refine ⟨fun c s kind tag sizeOk hc running => ?table,
    fun s kind tag body takes unknown => exec_unknown_answered body takes unknown, rfl, fun body => ⟨?submit, ?configure⟩⟩
  case table =>
    obtain ⟨run, request⟩ := exec_request hc
    have ends := act_ends (takeFrame kind tag sizeOk run) running
    rw [request]
    refine ⟨fun waits => ?waits, fun none => ⟨fun full => ?full, fun room => ⟨fun f cached => ?cached, fun fresh =>
      ⟨fun zero => ?zero, fun tagged _ size => ?size⟩⟩⟩⟩
    case waits => rwa [takeFrame_restart waits] at ends
    case full => rwa [takeFrame_full none full] at ends
    case cached => rwa [takeFrame_cached none room cached] at ends
    case zero => rwa [takeFrame_tagZero none room fresh zero] at ends
    case size =>
      subst size
      rwa [takeFrame_badSize none room fresh tagged] at ends
  case submit => simp [submitSize, sizeAtLeast, countedSteps, byteAt]
  case configure => simp [configureSize, sizeAtLeast, sizeIs, byteAt]

/-- Settles O7: the codes read off, and the two places a reply goes to. -/
theorem replyFormAndCache : Obligations.ReplyFormAndCache := by
  unfold Obligations.ReplyFormAndCache
  refine ⟨by decide, fun s tag => rfl, fun s kind tag a => ?_⟩
  have oldest : (if s.cache.length < Config.maxCache then s.cache else s.cache.drop 1) =
      if 8 ≤ s.cache.length then s.cache.drop 1 else s.cache := by
    simp only [Config.maxCache, ← Nat.not_le, ite_not]
  rw [← oldest]
  cases a <;> rfl

/-! ### The transmitter -/

/-- The first WAITING entry of a queue that holds one after its SENT entries. -/
theorem find_waiting {old new : List Report} {r : Report} (hold : ∀ x ∈ old, x.sent = true) (hr : r.sent = false) :
    (old ++ r :: new).find? (fun r => !r.sent) = some r := by
  rw [List.find?_append, List.find?_eq_none.mpr (by simpa using hold)]
  simp [hr]

/-- Settles O8: the frame that ends is no RESTART reply, and the transmitter's choice by its cases. -/
theorem transmitterTakesRepliesFirst : Obligations.TransmitterTakesRepliesFirst := by
  unfold Obligations.TransmitterTakesRepliesFirst
  refine ⟨fun s running other => ?sent, fun s f busy => ?busy, fun s f rest idle hreplies => ?reply,
    fun s old r new idle none hreports hold hr => ⟨fun room => ?report, fun full => ?window⟩,
    fun s idle none hall => ?nothing⟩
  case sent =>
    have notDue : s.restartDue = none := by
      rcases other with none | other
      · simp [State.restartDue, none]
      · unfold State.restartDue
        split
        · next f _ sending => exact if_neg (other f sending)
        · rfl
    have ends := act_ends frameSent running
    rwa [frameSent, notDue] at ends
  case busy => simp [State.transmit, busy]
  case reply => simp [State.transmit, idle, hreplies]
  case report =>
    have room' : s.sentCount < Config.sentWindow := room
    simp [State.transmit, idle, none, hreports, find_waiting hold hr, room', sendOldest_append hold hr, Report.frame]
  case window =>
    have full' : ¬ s.sentCount < Config.sentWindow := Nat.not_lt.mpr full
    simp [State.transmit, idle, none, hreports, find_waiting hold hr, full']
  case nothing =>
    have noWaiting : s.reports.find? (fun r => !r.sent) = .none := List.find?_eq_none.mpr (by simpa using hall)
    simp [State.transmit, idle, none, noWaiting]

/-! ### RESTART and SYNC -/

/-- A restart mode byte names a mode when it is 0 or 1. -/
theorem restartModeOf_of_two_le {b : Byte} (h : 2 ≤ b.toNat) : restartModeOf b = none := by
  have h0 : b ≠ 0 := by rintro rfl; simp at h
  have h1 : b ≠ 1 := by rintro rfl; simp at h
  rw [restartModeOf, if_neg h0, if_neg h1]

/-- Settles O13: the three values of the mode byte. -/
theorem restartWaitsForItsReply : Obligations.RestartWaitsForItsReply := by
  unfold Obligations.RestartWaitsForItsReply
  intro s tag mode takes
  have answered : Answered (exec (.restart tag [mode]) s) 0x02 tag (runRestart [mode] s.hunting).2
      (runRestart [mode] s.hunting).1 := answered_of_takes takes 0x02 _ (runRestart [mode]) rfl
  refine ⟨fun bad => ?bad, fun cold => ?cold, fun warm => ?warm⟩
  case bad => simpa [runRestart, byteAt, restartModeOf_of_two_le bad] using answered
  case cold => subst cold; exact answered
  case warm => subst warm; exact answered

/-- Settles O14: SYNC written out. -/
theorem syncMakesEveryReportWaiting : Obligations.SyncMakesEveryReportWaiting := by
  unfold Obligations.SyncMakesEveryReportWaiting
  intro s tag takes
  have answered : Answered (exec (.sync tag []) s) 0x03 tag (runSync s.hunting).2 (runSync s.hunting).1 :=
    answered_of_takes takes 0x03 _ runSync rfl
  exact answered

/-! ### ACK_REPORTS and RESEND_REPORTS -/

section NamedReport

variable {q : BitVec 8} {old new : List Report} {r : Report}

theorem upTo_named (hold : ∀ x ∈ old, x.seq ≠ q) (hr : r.seq = q) : upTo q (old ++ r :: new) = old ++ [r] := by
  induction old with
  | nil => simp [upTo, hr]
  | cons x old ih =>
    obtain ⟨hx, hold⟩ := List.forall_mem_cons.mp hold
    simp [upTo, hx, ih hold]

theorem after_named (hold : ∀ x ∈ old, x.seq ≠ q) (hr : r.seq = q) : after q (old ++ r :: new) = new := by
  induction old with
  | nil => simp [after, hr]
  | cons x old ih =>
    obtain ⟨hx, hold⟩ := List.forall_mem_cons.mp hold
    simp [after, hx, ih hold]

theorem waitingFrom_named (hold : ∀ x ∈ old, x.seq ≠ q) (hr : r.seq = q) :
    waitingFrom q (old ++ r :: new) = old ++ allWaiting (r :: new) := by
  induction old with
  | nil => simp [waitingFrom, hr]
  | cons x old ih =>
    obtain ⟨hx, hold⟩ := List.forall_mem_cons.mp hold
    simp [waitingFrom, hx, ih hold]

end NamedReport

/-- A sequence names a SENT entry of a queue that holds one with it. -/
theorem State.namesSent_of_mem {s : State} {r : Report} (mem : r ∈ s.reports) (sent : r.sent = true) :
    s.namesSent r.seq = true := by
  simp only [State.namesSent, List.any_eq_true]
  exact ⟨r, mem, by simp [sent]⟩

/-- A sequence that no SENT entry has names none. -/
theorem State.namesSent_eq_false {s : State} {q : BitVec 8} (h : ∀ r ∈ s.reports, r.seq = q → r.sent = false) :
    s.namesSent q = false := by
  simp only [State.namesSent, List.any_eq_false]
  intro r mem
  have := h r mem
  by_cases hq : r.seq = q <;> simp_all

/-- No entry of a queue made WAITING is SENT. -/
theorem filter_sent_allWaiting (rs : List Report) : (allWaiting rs).filter (·.sent) = [] := by
  simp [allWaiting]

/-- Settles O15: the queue is cut after the named entry, whose owners are told, or the request is refused. -/
theorem ackRemovesUpToTheNamedReport : Obligations.AckRemovesUpToTheNamedReport := by
  unfold Obligations.AckRemovesUpToTheNamedReport
  intro s tag q takes
  have answered : Answered (exec (.ackReports tag [q]) s) 0x04 tag (runAck [q] s.hunting).2 (runAck [q] s.hunting).1 :=
    answered_of_takes takes 0x04 _ (runAck [q]) rfl
  refine ⟨fun old r new hreports hold hr sent => ?removes, fun none => ?refused⟩
  case removes =>
    have names : s.hunting.namesSent q = true := hr ▸ State.namesSent_of_mem (s := s.hunting) (by simp [State.hunting, hreports]) sent
    have queue : s.hunting.reports = old ++ r :: new := hreports
    simpa [runAck, byteAt, names, queue, upTo_named hold hr, after_named hold hr] using answered
  case refused =>
    have names : s.hunting.namesSent q = false := State.namesSent_eq_false (s := s.hunting) none
    simpa [runAck, byteAt, names] using answered

/-- Settles O17: the end of the queue from the named entry on is made WAITING, or the request is refused. -/
theorem resendMakesLaterReportsWaiting : Obligations.ResendMakesLaterReportsWaiting := by
  unfold Obligations.ResendMakesLaterReportsWaiting
  intro s tag q takes
  have answered : Answered (exec (.resendReports tag [q]) s) 0x05 tag (runResend [q] s.hunting).2
      (runResend [q] s.hunting).1 := answered_of_takes takes 0x05 _ (runResend [q]) rfl
  refine ⟨fun old r new hreports hold hr sent => ?resends, fun none => ?refused⟩
  case resends =>
    have names : s.hunting.namesSent q = true := hr ▸ State.namesSent_of_mem (s := s.hunting) (by simp [State.hunting, hreports]) sent
    have queue : s.hunting.reports = old ++ r :: new := hreports
    have count : s.hunting.sentCount - ((waitingFrom q s.hunting.reports).filter (·.sent)).length =
        1 + (new.filter (·.sent)).length := by
      rw [State.sentCount, queue, waitingFrom_named hold hr, List.filter_append, List.filter_append, filter_sent_allWaiting,
        List.filter_cons_of_pos (by simpa using sent)]
      simp only [List.length_append, List.length_cons, List.length_nil]
      omega
    have run : runResend [q] s.hunting =
        ({ s.hunting with reports := old ++ allWaiting (r :: new) }, .ok [byteOf (1 + (new.filter (·.sent)).length)]) := by
      rw [← count, ← waitingFrom_named hold hr, ← queue]
      simp [runResend, byteAt, names]
    rw [run] at answered
    exact answered
  case refused =>
    have names : s.hunting.namesSent q = false := State.namesSent_eq_false (s := s.hunting) none
    simpa [runResend, byteAt, names] using answered

/-! ### What owners do at acknowledgement -/

@[simp] theorem Segment.inboundAt_modInbound_self (sg : Segment) (r : RecordIx) (f : List Message → List Message) :
    (sg.modInbound r f).inboundAt r = f (sg.inboundAt r) := by
  simp [Segment.modInbound, Segment.inboundAt]

theorem Segment.inboundAt_modInbound_ne (sg : Segment) {r k : RecordIx} (h : k ≠ r) (f : List Message → List Message) :
    (sg.modInbound r f).inboundAt k = sg.inboundAt k := by
  have h' : r.val ≠ k.val := fun e => h (Fin.ext e.symm)
  simp [Segment.modInbound, Segment.inboundAt, h']

/-- The acknowledgement of a JOB_ENDED report frees its slot. -/
theorem State.tellOwner_jobEnded {s : State} {r : Report} {i : Slot} {j : Job} (owner : r.owner = .jobEnded i)
    (job : s.jobAt i = some j) (ended : j.state = .ended) : s.tellOwner r =
      { s.putJob i none with poolFree := s.poolFree + j.blocksHeld, accepted := s.accepted.filter (· != i) } := by
  simp [State.tellOwner, owner, State.freeSlot, job, ended]

/-- The acknowledgement of an INBOUND report frees the message at the head of its list. -/
theorem State.tellOwner_inbound {s : State} {r : Report} {g : Seg} {k : RecordIx} {m : Message} {ms : List Message}
    (owner : r.owner = .inbound g k) (list : (s.seg g).inboundAt k = m :: ms) : s.tellOwner r =
      { s.modSeg g (·.modInbound k (·.drop 1)) with poolFree := s.poolFree + messageBlocks m } := by
  simp [State.tellOwner, owner, State.freeMessage, list]

/-- Settles O16, by the owner of the report. -/
theorem acknowledgementFreesSlotAndMessage : Obligations.AcknowledgementFreesSlotAndMessage := by
  unfold Obligations.AcknowledgementFreesSlotAndMessage
  intro s r
  refine ⟨fun i j owner job ended => ?job, fun g k m ms owner list => ?message, fun noJob noMessage => ?other⟩
  case job =>
    rw [State.tellOwner_jobEnded owner job ended]
    exact ⟨State.jobAt_putJob_self s i none, (State.genAt_putJob s i · none),
      fun k other => State.jobAt_putJob_ne s i k none other, rfl⟩
  case message =>
    rw [State.tellOwner_inbound owner list]
    have changed : ∀ p, State.seg { s.modSeg g (·.modInbound k (·.drop 1)) with poolFree := p } g =
        (s.seg g).modInbound k (·.drop 1) := fun _ => State.seg_modSeg_self s g (·.modInbound k (·.drop 1))
    refine ⟨?_, fun k' other => ?_, ?_, fun g' other => State.seg_modSeg_ne s g g' (·.modInbound k (·.drop 1)) other, rfl⟩
    · rw [changed, Segment.inboundAt_modInbound_self, list]
      rfl
    · rw [changed, Segment.inboundAt_modInbound_ne _ other]
    · rw [changed]
      rfl
  case other =>
    unfold State.tellOwner
    split
    · next i owner => exact absurd owner (noJob i)
    · next g k owner => exact absurd owner (noMessage g k)
    · rfl

end Sys2Proof.Machine

/-!
The receiver of HRX: frames as the line carries them (R165), the frame that bytes begin with, and the rescan of the bytes
of a discarded frame (R166).
-/

namespace Sys2Proof.Machine

/-! ### The check -/

/-- The low byte of a 16-bit check. -/
theorem setWidth_eq_byteOf (c : BitVec 16) : c.setWidth 8 = byteOf c.toNat := by
  apply BitVec.eq_of_toNat_eq
  simp

/-- The high byte of a 16-bit check. -/
theorem shift_setWidth_eq_byteOf (c : BitVec 16) : (c >>> 8).setWidth 8 = byteOf (c.toNat / 256) := by
  apply BitVec.eq_of_toNat_eq
  simp [Nat.shiftRight_eq_div_pow]

/-- The check of a frame, low byte first. -/
theorem checkBytes_eq (c : BitVec 16) : checkBytes c = [byteOf c.toNat, byteOf (c.toNat / 256)] := by
  rw [checkBytes, setWidth_eq_byteOf, shift_setWidth_eq_byteOf]

/-! ### The frame that bytes begin with -/

section FrameIn

variable {len : Byte} {more : List Byte}

/-- A length byte outside 2 to 242 is bad at once. -/
theorem frameIn_badLength (h : len.toNat < 2 ∨ 242 < len.toNat) : frameIn (len :: more) = .bad := by
  exact if_pos h

/-- A frame is in progress while its bytes have not all come. -/
theorem frameIn_incomplete (least : 2 ≤ len.toNat) (most : len.toNat ≤ 242) (short : more.length < len.toNat + 2) :
    frameIn (len :: more) = .incomplete := by
  have inRange : ¬ (len.toNat < 2 ∨ Config.maxBody + 2 < len.toNat) := by simp only [Config.maxBody]; omega
  simp only [frameIn, inRange, short, if_true, if_false]

/-- A frame whose bytes have all come is taken where its check agrees. -/
theorem frameIn_whole {kind tag c0 c1 : Byte} {body rest : List Byte} (counts : len.toNat = body.length + 2)
    (most : len.toNat ≤ 242) : frameIn (len :: (kind :: tag :: body ++ c0 :: c1 :: rest)) =
      if [c0, c1] = checkBytes (crc16 (len :: kind :: tag :: body)) then .good ⟨kind, tag, body⟩ rest else .bad := by
  have inRange : ¬ (len.toNat < 2 ∨ Config.maxBody + 2 < len.toNat) := by simp only [Config.maxBody]; omega
  have enough : ¬ (kind :: tag :: body ++ c0 :: c1 :: rest).length < len.toNat + 2 := by
    simp only [List.cons_append, List.length_cons, List.length_append]; omega
  have front : (kind :: tag :: body ++ c0 :: c1 :: rest).take len.toNat = kind :: tag :: body := by
    rw [List.take_append_of_le_length (by simp [counts]), List.take_of_length_le (by simp [counts])]
  have back : (kind :: tag :: body ++ c0 :: c1 :: rest).drop len.toNat = c0 :: c1 :: rest := by
    rw [List.drop_append_of_le_length (by simp [counts]), List.drop_eq_nil_of_le (by simp [counts]), List.nil_append]
  have after : (kind :: tag :: body ++ c0 :: c1 :: rest).drop (len.toNat + 2) = rest := by
    rw [← List.drop_drop, back]
    rfl
  simp only [frameIn, inRange, enough, if_false, front, back, after]
  rfl

end FrameIn

/-- Bytes that begin with a good frame are more than the bytes after it. -/
theorem length_of_frameIn_good {bytes : List Byte} {f : Frame} {rest : List Byte} (h : frameIn bytes = .good f rest) :
    rest.length < bytes.length := by
  cases bytes with
  | nil => simp [frameIn] at h
  | cons len more =>
    simp only [frameIn] at h
    split at h
    · cases h
    split at h
    · cases h
    split at h
    · simp only [FrameIn.good.injEq] at h
      rw [← h.2, List.length_drop, List.length_cons]
      omega
    · cases h

/-- The frame that its own bytes begin with. -/
theorem frameIn_bytes (f : Frame) (rest : List Byte) (fits : f.body.length ≤ 240) :
    frameIn (f.bytes.drop 1 ++ rest) = .good f rest := by
  have counts : (byteOf (f.body.length + 2)).toNat = f.body.length + 2 := by
    simp only [BitVec.toNat_ofNat]
    omega
  have whole := frameIn_whole (kind := f.kind) (tag := f.tag) (rest := rest) counts (by omega)
    (c0 := (crc16 f.covered).setWidth 8) (c1 := ((crc16 f.covered) >>> 8).setWidth 8)
  have line : f.bytes.drop 1 ++ rest = byteOf (f.body.length + 2) :: (f.kind :: f.tag :: f.body ++
      (crc16 f.covered).setWidth 8 :: ((crc16 f.covered) >>> 8).setWidth 8 :: rest) := by
    simp [Frame.bytes, Frame.covered, Frame.length, checkBytes]
  rw [line, whole]
  exact if_pos rfl

/-- Settles O9: what a frame is on the line, and what the receiver makes of the bytes after a lead. -/
theorem receiverReadsWhatFramesWrite : Obligations.ReceiverReadsWhatFramesWrite := by
  unfold Obligations.ReceiverReadsWhatFramesWrite
  intro shift check low high
  have same : crc16 = check := rfl
  refine ⟨fun f => ?line, frameIn_bytes, rfl, fun len more => ⟨frameIn_badLength, frameIn_incomplete, ?whole⟩⟩
  case line =>
    intro c
    simp only [Frame.bytes, Frame.covered, Frame.length, checkBytes_eq, same, Config.frameLead, List.cons_append,
      List.nil_append]
    rfl
  case whole =>
    rintro kind tag body c0 c1 rest rfl counts most c
    rw [frameIn_whole counts most, checkBytes_eq, same]
    simp [c, low, high]

/-! ### Requests on the line -/

/-- A request under no restart is taken whatever the receiver held before it. -/
theorem takeFrame_rx {s : State} (quiet : s.restart = none) (x : Option (List Byte)) (kind tag : Byte) (sizeOk : Bool)
    (run : State → State × Answer) :
    takeFrame kind tag sizeOk run { s with rx := x } = takeFrame kind tag sizeOk run s := by
  have hs : s.restart.isSome = false := by rw [quiet]; rfl
  simp only [takeFrame, hs, Bool.false_eq_true, if_false]

theorem takeRequest_rx {s : State} (quiet : s.restart = none) (x : Option (List Byte)) (f : Frame) (cut : BusCut) :
    takeRequest f cut { s with rx := x } = takeRequest f cut s := by
  obtain ⟨kind, sizeOk, run, -, request⟩ := takeRequest_eq f cut
  rw [request, request, takeFrame_rx quiet]

/-- A request that is taken leaves the receiver hunting (R166). -/
theorem takeRequest_hunts {s : State} (quiet : s.restart = none) (f : Frame) (cut : BusCut) :
    (takeRequest f cut s).rx = none := by
  obtain ⟨kind, sizeOk, run, hrun, request⟩ := takeRequest_eq f cut
  have hs : s.restart.isSome = false := by rw [quiet]; rfl
  rw [request]
  unfold takeFrame
  simp only [hs, Bool.false_eq_true, if_false]
  repeat' split
  case h_2.isFalse.isTrue => exact congrArg Prod.fst (hrun.hostKept { s with rx := none }).outside
  all_goals rfl

theorem State.transmit_rx (s : State) : s.transmit.rx = s.rx := by
  obtain h | ⟨f, rest, -, h⟩ | ⟨old, r, new, -, -, -, -, h⟩ := s.transmit_cases <;> rw [h]

theorem State.settle_rx (s : State) : s.settle.rx = s.rx :=
  (State.transmit_rx _).trans (State.Still.settleChoices _ s).rx

theorem takeRequest_rstLow (f : Frame) (cut : BusCut) (s : State) : (takeRequest f cut s).rstLow = s.rstLow := by
  obtain ⟨kind, sizeOk, run, hrun, request⟩ := takeRequest_eq f cut
  rw [request, takeFrame_rstLow _ _ _ hrun]

/-- The numbers by which a frame is told from an unknown one are those of the request kinds. -/
theorem toNat_not_known {k : Byte} (unknown : k ∉ requestKinds) : k.toNat ∉ requestKinds.map BitVec.toNat := by
  rintro known
  obtain ⟨kind, mem, same⟩ := List.mem_map.mp known
  exact unknown (BitVec.eq_of_toNat_eq same ▸ mem)

theorem commandOf_unknown (f : Frame) (cut : BusCut) (unknown : f.kind ∉ requestKinds) :
    commandOf f cut = .unknownKindFrame f.kind f.tag f.body := by
  have none := toNat_not_known unknown
  unfold commandOf
  split
  case h_21 => rfl
  all_goals next is => exact absurd (by rw [is]; decide) none

theorem takeRequest_unknown (f : Frame) (cut : BusCut) (s : State) (unknown : f.kind ∉ requestKinds) :
    takeRequest f cut s = requestUnknown f.kind f.tag s := by
  have none := toNat_not_known unknown
  unfold takeRequest
  split
  case h_21 => rfl
  all_goals next is => exact absurd (by rw [is]; decide) none

/-- The command that a frame is has the effect of the request that the frame carries. -/
theorem exec_commandOf (f : Frame) (cut : BusCut) (s : State) : exec (commandOf f cut) s = act (takeRequest f cut) s := by
  by_cases known : f.kind ∈ requestKinds
  · obtain ⟨kind, tag, body⟩ := f
    simp only [requestKinds, List.mem_cons, List.not_mem_nil, or_false] at known
    rcases known with rfl | rfl | rfl | rfl | rfl | rfl | rfl | rfl | rfl | rfl | rfl | rfl | rfl | rfl | rfl | rfl | rfl |
      rfl | rfl | rfl
    all_goals rfl
  · have unknown : requestKinds.contains f.kind = false := Bool.eq_false_iff.mpr fun h => known (List.contains_iff_mem.mp h)
    rw [commandOf_unknown f cut known, act_eq, takeRequest_unknown f cut s known]
    simp only [exec, execUnknownKindFrame, act_eq, unknownArrives, unknown, Bool.false_eq_true, if_false]

/-! ### The rescan -/

/-- The receiver goes through bytes from hunting, as far as they go. -/
def receive (broken : Bool) (cut : BusCut) (bytes : List Byte) (s : State) : State :=
  scan broken cut (bytes.length + 1) bytes s

/-- The scan of bytes does not depend on its bound, nor on the frame that was in progress before them. -/
theorem scan_eq_scan (broken : Bool) (cut : BusCut) (x : Option (List Byte)) {n m : Nat} {bytes : List Byte}
    (hn : bytes.length < n) (hm : bytes.length < m) (s : State) :
    scan broken cut n bytes { s with rx := x } = scan broken cut m bytes s := by
  induction n generalizing m bytes s x with
  | zero => omega
  | succ n ih =>
    obtain ⟨m, rfl⟩ : ∃ k, m = k + 1 := ⟨m - 1, by omega⟩
    cases bytes with
    | nil => rfl
    | cons b rest =>
      rw [List.length_cons] at hn hm
      have next {rest' : List Byte} (shorter : rest'.length ≤ rest.length) (t : State) (y : Option (List Byte)) :
          scan broken cut n rest' { t with rx := y } = scan broken cut m rest' t :=
        ih y (by omega) (by omega) t
      unfold scan
      by_cases waits : s.restart.isSome = true
      · rw [if_pos waits, if_pos waits]
      · rw [if_neg waits, if_neg waits]
        have quiet : s.restart = none := by simpa using waits
        by_cases lead : b = Config.frameLead
        · rw [if_pos lead, if_pos lead]
          cases found : frameIn rest with
          | incomplete =>
            cases broken
            · rfl
            · exact next le_rfl s x
          | bad => exact next le_rfl s x
          | good f more =>
            have shorter := length_of_frameIn_good found
            simp only [takeRequest_rx quiet]
            exact next shorter.le (takeRequest f cut s).settle (takeRequest f cut s).settle.rx
        · rw [if_neg lead, if_neg lead]
          exact next le_rfl s x

section Receive

variable {broken : Bool} {cut : BusCut} {s : State}

/-- Bytes are received whatever the receiver held before them. -/
theorem receive_rx (x : Option (List Byte)) (bytes : List Byte) :
    receive broken cut bytes { s with rx := x } = receive broken cut bytes s :=
  scan_eq_scan broken cut x (Nat.lt_succ_self _) (Nat.lt_succ_self _) s

theorem scan_eq_receive {n : Nat} {bytes : List Byte} (h : bytes.length < n) :
    scan broken cut n bytes s = receive broken cut bytes s :=
  scan_eq_scan broken cut s.rx h (Nat.lt_succ_self _) s

theorem receive_nil : receive broken cut [] s = { s with rx := none } := rfl

/-- Once a RESTART is answered OK the bytes that arrive are discarded (R178). -/
theorem receive_restart (waits : s.restart.isSome) (bytes : List Byte) :
    receive broken cut bytes s = { s with rx := none } := by
  cases bytes with
  | nil => rfl
  | cons b rest => exact if_pos waits

theorem not_waits (quiet : s.restart = none) : ¬ s.restart.isSome = true := by simp [quiet]

/-- While hunting a byte that is no lead is passed over. -/
theorem receive_other (quiet : s.restart = none) {b : Byte} (other : b ≠ Config.frameLead) (rest : List Byte) :
    receive broken cut (b :: rest) s = receive broken cut rest s := by
  rw [receive, scan, if_neg (not_waits quiet), if_neg other]
  exact scan_eq_receive (by simp)

/-- A frame in progress stays so while nothing breaks it off. -/
theorem receive_incomplete (quiet : s.restart = none) {rest : List Byte} (h : frameIn rest = .incomplete) :
    receive false cut (Config.frameLead :: rest) s = { s with rx := some rest } := by
  rw [receive, scan, if_neg (not_waits quiet), if_pos rfl, h]
  rfl

theorem receive_bad (quiet : s.restart = none) {rest : List Byte} (h : frameIn rest = .bad) :
    receive broken cut (Config.frameLead :: rest) s = receive broken cut rest s := by
  rw [receive, scan, if_neg (not_waits quiet), if_pos rfl, h]
  rfl

theorem receive_good (quiet : s.restart = none) {rest more : List Byte} {f : Frame} (h : frameIn rest = .good f more) :
    receive broken cut (Config.frameLead :: rest) s = receive broken cut more (takeRequest f cut s).settle := by
  have shorter := length_of_frameIn_good h
  rw [receive, scan, if_neg (not_waits quiet), if_pos rfl, h]
  exact scan_eq_receive (by rw [List.length_cons]; omega)

/-- A gap or a low stop bit discards every frame that is not good (R166). -/
theorem receive_broken (quiet : s.restart = none) {rest : List Byte} (h : ∀ f more, frameIn rest ≠ .good f more) :
    receive true cut (Config.frameLead :: rest) s = receive true cut rest s := by
  cases found : frameIn rest with
  | incomplete =>
    rw [receive, scan, if_neg (not_waits quiet), if_pos rfl, found]
    rfl
  | bad => exact receive_bad quiet found
  | good f more => exact absurd found (h f more)

/-- While hunting every byte before a lead is passed over. -/
theorem receive_skip (quiet : s.restart = none) {before : List Byte} (h : (0x5A : Byte) ∉ before) (rest : List Byte) :
    receive broken cut (before ++ rest) s = receive broken cut rest s := by
  induction before with
  | nil => rfl
  | cons b before ih =>
    rw [List.mem_cons, not_or] at h
    rw [List.cons_append, receive_other quiet (Ne.symm h.1), ih h.2]

/-- Bytes with no lead among them leave the receiver hunting. -/
theorem receive_noLead (quiet : s.restart = none) {bytes : List Byte} (h : (0x5A : Byte) ∉ bytes) :
    receive broken cut bytes s = { s with rx := none } := by
  rw [← List.append_nil bytes, receive_skip quiet h, receive_nil]

end Receive

/-- The outcome of bytes that arrive: a low stop bit follows them, or nothing does. -/
theorem exec_frameDiscarded {s : State} (high : s.rstLow = false) (bytes : List Byte) (lowStop : Bool) (cut : BusCut) :
    Ends (exec (.frameDiscarded bytes lowStop cut) s) (receive lowStop cut (s.received ++ bytes) s) :=
  act_ends (bytesArrive bytes lowStop cut) high

/-- The outcome of bytes that arrive before a gap: that of bytes before a low stop bit. -/
theorem exec_hrxGapTimeout (bytes : List Byte) (cut : BusCut) (s : State) :
    exec (.hrxGapTimeout bytes cut) s = exec (.frameDiscarded bytes true cut) s := rfl

/-- Two arrivals of bytes that are received alike have one outcome. -/
theorem exec_frameDiscarded_congr (s t : State) (hs : s.rstLow = false) (ht : t.rstLow = false) (xs ys : List Byte)
    {lowStop : Bool} {cut : BusCut}
    (h : receive lowStop cut (s.received ++ xs) s = receive lowStop cut (t.received ++ ys) t) :
    exec (.frameDiscarded xs lowStop cut) s = exec (.frameDiscarded ys lowStop cut) t := by
  rw [exec_frameDiscarded hs, exec_frameDiscarded ht, h]

/-- The command that a frame is, executed while RST is high. -/
theorem exec_commandOf_next {s : State} (high : s.rstLow = false) (f : Frame) (cut : BusCut) :
    exec (commandOf f cut) s = .next (takeRequest f cut s).settle :=
  (exec_commandOf f cut s).trans (act_ends (takeRequest f cut) high)

/-- Settles O10: the receiver finds the frame, runs its request, and hunts through no byte after it. -/
theorem goodFrameRunsItsCommand : Obligations.GoodFrameRunsItsCommand := by
  unfold Obligations.GoodFrameRunsItsCommand
  intro f cut lowStop s fits high quiet hunting
  have idle : s.received = [] := by rw [State.received, hunting]
  have found : frameIn (f.bytes.drop 1) = .good f [] := by simpa using frameIn_bytes f [] fits
  have received (broken : Bool) : receive broken cut (s.received ++ f.bytes) s =
      { (takeRequest f cut s).settle with rx := none } := by
    rw [idle]
    exact (receive_good quiet found).trans receive_nil
  refine ⟨_, exec_commandOf_next high f cut, ?plain, ?gap⟩
  case plain => simpa only [received] using exec_frameDiscarded high f.bytes lowStop cut
  case gap => simpa only [exec_hrxGapTimeout, received] using exec_frameDiscarded high f.bytes true cut

/-- Settles O11, by what the receiver holds: a restart is on its way, a frame is in progress, or it hunts. -/
theorem discardedFrameLeavesNoTrace : Obligations.DiscardedFrameLeavesNoTrace := by
  unfold Obligations.DiscardedFrameLeavesNoTrace
  intro s bytes cut high gap low plain hunts leads
  have arrives := fun lowStop bs => exec_frameDiscarded high bs lowStop cut
  have onLeads (after : List Byte) (broken : Bool) :
      receive broken cut (leads.received ++ after) leads = receive broken cut (0x5A :: after) s :=
    receive_rx (some []) _
  refine ⟨fun waits => ?restart, fun part quiet progress => ?progress, fun quiet hunting => ?hunting⟩
  case restart =>
    have discards : ∀ broken, receive broken cut (s.received ++ bytes) s = hunts := fun _ => receive_restart waits _
    exact ⟨discards true ▸ arrives true bytes, discards true ▸ arrives true bytes, discards false ▸ arrives false bytes⟩
  case progress =>
    intro taken
    have holds : s.received ++ bytes = Config.frameLead :: taken := by
      rw [State.received, progress]
      rfl
    refine ⟨fun notGood => ⟨fun noLead => ?noLead, fun before after split noLead => ?lead⟩, fun incomplete => ?incomplete,
      fun f rest good => ?good⟩
    case noLead =>
      have broken : receive true cut (s.received ++ bytes) s = hunts := by
        rw [holds, receive_broken quiet notGood, receive_noLead quiet noLead]
      refine ⟨broken ▸ arrives true bytes, broken ▸ arrives true bytes, fun bad => ?_⟩
      have discarded : receive false cut (s.received ++ bytes) s = hunts := by
        rw [holds, receive_bad quiet bad, receive_noLead quiet noLead]
      exact discarded ▸ arrives false bytes
    case lead =>
      have onward (broken : Bool) : receive broken cut taken s = receive broken cut (leads.received ++ after) leads := by
        rw [split, receive_skip quiet noLead, onLeads]
      have broken : exec (.frameDiscarded bytes true cut) s = exec (.frameDiscarded after true cut) leads :=
        exec_frameDiscarded_congr s leads high high bytes after (by rw [holds, receive_broken quiet notGood, onward])
      exact ⟨broken, broken, fun bad =>
        exec_frameDiscarded_congr s leads high high bytes after (by rw [holds, receive_bad quiet bad, onward])⟩
    case incomplete =>
      have stays : receive false cut (s.received ++ bytes) s = { s with rx := some taken } := by
        rw [holds, receive_incomplete quiet incomplete]
      exact stays ▸ arrives false bytes
    case good =>
      have request : takeRequest f cut hunts = takeRequest f cut s := takeRequest_rx quiet none f cut
      have idle : (takeRequest f cut hunts).settle.received = [] := by
        rw [State.received, State.settle_rx, takeRequest_hunts (s := hunts) quiet]
      have running : (takeRequest f cut hunts).settle.rstLow = false := by
        rw [State.settle_rstLow, takeRequest_rstLow]
        exact high
      have same (lowStop : Bool) : exec (.frameDiscarded bytes lowStop cut) s =
          exec (.frameDiscarded rest lowStop cut) (takeRequest f cut hunts).settle :=
        exec_frameDiscarded_congr s _ high running bytes rest (by rw [holds, receive_good quiet good, idle, request, List.nil_append])
      exact ⟨_, exec_commandOf_next (s := hunts) high f cut, same true, same true, same false⟩
  case hunting =>
    have idle : s.received = [] := by rw [State.received, hunting]
    have unchanged : hunts = s := by cases s; cases hunting; rfl
    refine ⟨fun noLead => ?_, fun before after split noLead => ?_⟩
    · have passed (broken : Bool) : receive broken cut (s.received ++ bytes) s = s := by
        rw [idle, List.nil_append, receive_noLead quiet noLead]
        exact unchanged
      have ends (broken : Bool) : Ends (exec (.frameDiscarded bytes broken cut) s) s := by
        simpa only [passed] using arrives broken bytes
      exact ⟨ends true, ends true, ends false⟩
    · have same (lowStop : Bool) : exec (.frameDiscarded bytes lowStop cut) s =
          exec (.frameDiscarded after lowStop cut) leads :=
        exec_frameDiscarded_congr s leads high high bytes after
          (by rw [onLeads, idle, List.nil_append, split, receive_skip quiet noLead])
      exact ⟨same true, same true, same false⟩

end Sys2Proof.Machine

/-!
Claims: their entry into the Report Queue (R172), the body of each report with what its claimant gives up (Table 13-6),
and the ROSTER_CHANGED claim (R91).
-/

namespace Sys2Proof.Machine

-- Declarations that wait for one another's equations each hold a thread, and its memory; here they are taken in order.
set_option Elab.async false

/-! ### Entry into the queue -/

/-- A report is formed from its claimant, not from the claims that wait. -/
theorem formReport_withClaims (s : State) (cs : List Claimant) (c : Claimant) :
    formReport { s with claims := cs } c = formReport s c := by
  cases c <;> rfl

/-- The oldest claim enters the queue (R172). -/
theorem takeOldestClaim_cons {s : State} {c : Claimant} {rest : List Claimant} {kind : Byte} {body : List Byte}
    (first : s.claims = c :: rest) (form : formReport s c = some (kind, body)) :
    takeOldestClaim s = { clearClaim { s with claims := rest } c with
      reports := s.reports ++ [⟨kind, s.nextSeq, body, c, false⟩], nextSeq := s.nextSeq + 1, attn := true } := by
  obtain ⟨reports, seq, -, -⟩ := clearClaim_queue { s with claims := rest } c
  unfold takeOldestClaim
  rw [first]
  simp only [form, State.enqueueReport, reports, seq]

/-- Nothing enters a full queue, and nothing from an empty list. -/
theorem State.fillQueue_idle {s : State} (h : 64 ≤ s.reports.length ∨ s.claims = []) : s.fillQueue = s := by
  unfold State.fillQueue
  cases count : s.claims.length with
  | zero => rfl
  | succ n =>
    have waits : s.claims ≠ [] := by
      intro none
      simp [none] at count
    exact if_neg fun room => (h.resolve_right waits).not_gt room.1

/-- While there is room the oldest claim enters, and then the next. -/
theorem State.fillQueue_cons {s : State} {c : Claimant} {rest : List Claimant} (room : s.reports.length < 64)
    (first : s.claims = c :: rest) : s.fillQueue = (takeOldestClaim s).fillQueue := by
  have left : (takeOldestClaim s).claims.length = rest.length := by rw [takeOldestClaim_claims, first]; rfl
  have waits : s.claims ≠ [] := by rw [first]; simp
  rw [State.fillQueue, State.fillQueue, left, first]
  exact if_pos ⟨room, waits⟩

/-- A claim placed while the queue is full waits. -/
theorem State.placeClaim_full {s : State} (full : 64 ≤ s.reports.length) (c : Claimant) :
    s.placeClaim c = { s with claims := s.claims ++ [c] } :=
  State.fillQueue_idle (s := { s with claims := s.claims ++ [c] }) (.inl full)

/-- The only claim that waits enters a queue with room. -/
theorem State.fillQueue_single {s : State} {c : Claimant} {kind : Byte} {body : List Byte} (room : s.reports.length < 64)
    (only : s.claims = [c]) (form : formReport s c = some (kind, body)) :
    s.fillQueue = { clearClaim { s with claims := [] } c with
      reports := s.reports ++ [⟨kind, s.nextSeq, body, c, false⟩], nextSeq := s.nextSeq + 1, attn := true } := by
  rw [State.fillQueue_cons room only, State.fillQueue_idle, takeOldestClaim_cons only form]
  exact .inr (by rw [takeOldestClaim_claims, only]; rfl)

/-- A claim placed while the queue has room and no claim waits enters at once. -/
theorem State.placeClaim_room {s : State} {c : Claimant} {kind : Byte} {body : List Byte} (none : s.claims = [])
    (room : s.reports.length < 64) (form : formReport s c = some (kind, body)) :
    s.placeClaim c = { clearClaim s c with
      reports := s.reports ++ [⟨kind, s.nextSeq, body, c, false⟩], nextSeq := s.nextSeq + 1, attn := true } := by
  have same : ({ s with claims := [] } : State) = s := by rw [← none]
  have entered := State.fillQueue_single (s := { s with claims := s.claims ++ [c] }) room (by simp [none])
    ((formReport_withClaims s _ c).trans form)
  rw [State.placeClaim, entered]
  simp only [same]

theorem State.placeClaimOnce_of_mem {s : State} {c : Claimant} (h : c ∈ s.claims) : s.placeClaimOnce c = s := if_pos h

theorem State.placeClaimOnce_of_not_mem {s : State} {c : Claimant} (h : c ∉ s.claims) :
    s.placeClaimOnce c = s.placeClaim c := if_neg h

/-! ### The bytes of a body -/

/-- A station address as a byte. -/
theorem addrCode_eq (a : Addr) : addrCode a = byteOf a.toNat := by
  apply BitVec.eq_of_toNat_eq
  simp [addrCode]

/-- A flags byte as a sum of its bits. -/
theorem flagsByte_eq (b0 b1 b2 b3 b4 b5 : Bool) : flagsByte b0 b1 b2 b3 b4 b5 = boolCode b0 + 2 * boolCode b1 +
    4 * boolCode b2 + 8 * boolCode b3 + 16 * boolCode b4 + 32 * boolCode b5 := by
  revert b0 b1 b2 b3 b4 b5
  decide

@[simp] theorem boolCode_false : boolCode false = 0 := rfl

/-- The body of a JOB_ENDED report (R86). -/
theorem jobEndedBody_eq (i : Slot) (gen : BitVec 8) (j : Job) (o : JobOutcome) {target : Byte × Byte} {used flags : Byte}
    (ht : targetBytes j.target = [target.1, target.2]) (hu : resolvedCode j.resolved = used)
    (hf : outcomeFlags o = flags) : jobEndedBody i gen j o =
      [byteOf i.val, gen, byteOf j.segment.val, target.1, target.2, used, endStatusCode o.status, flags,
        byteOf o.attempts, byteOf o.written, byteOf (o.written / 256), byteOf o.read.length, o.checkByte.getD 0] ++
        o.read := by
  simp [jobEndedBody, ht, hu, hf, segCode, word16]

/-! ### What claimants give up -/

/-- The mark of the oldest unreported message of a list. -/
theorem markReported_append {old new : List Message} {m : Message} (hold : ∀ x ∈ old, x.reported = true)
    (hm : m.reported = false) : markReported (old ++ m :: new) = old ++ { m with reported := true } :: new := by
  induction old with
  | nil => simp [markReported, hm]
  | cons x old ih =>
    obtain ⟨hx, hold⟩ := List.forall_mem_cons.mp hold
    simp [markReported, hx, ih hold]

theorem firstUnreported_append {old new : List Message} {m : Message} (hold : ∀ x ∈ old, x.reported = true)
    (hm : m.reported = false) : firstUnreported (old ++ m :: new) = some m := by
  rw [firstUnreported, List.find?_append, List.find?_eq_none.mpr (by simpa using hold)]
  simp [hm]

/-- The message whose claim waits, and its mark (R128). -/
theorem inbound_claim {s : State} {g : Seg} {k : RecordIx} {old new : List Message} {m : Message}
    (list : (s.seg g).inboundAt k = old ++ m :: new) (hold : ∀ x ∈ old, x.reported = true) (hm : m.reported = false) :
    formReport s (.inbound g k) = some (0x82,
        [byteOf g.val, byteOf m.record.val, byteOf m.address.toNat, boolCode m.truncated + 2 * boolCode m.endedByRestart,
          byteOf m.bytes.length] ++ m.bytes) ∧
      clearClaim s (.inbound g k) =
        s.modSeg g (·.modInbound k fun _ => old ++ { m with reported := true } :: new) := by
  refine ⟨?_, ?_⟩
  · simp [formReport, list, firstUnreported_append hold hm, inboundBody, segCode, addrCode_eq, messageFlags, flagsByte_eq]
  · simp only [clearClaim]
    refine State.modSeg_congr s g ?_
    simp only [Segment.modInbound, list, markReported_append hold hm]

/-- A held read of the station as the WAITING report shows it (R135). -/
theorem holdsReadOf_code (sg : Segment) (ix : StationIx) {held : Byte}
    (hh : ∀ k t, sg.service = .holding k t → held = if k = ix then 1 else 0)
    (ho : (∀ k t, sg.service ≠ .holding k t) → held = 0) : boolCode (sg.holdsReadOf ix) = held := by
  unfold Segment.holdsReadOf
  split
  · next k t h =>
    rw [hh k t h]
    by_cases same : k = ix <;> simp [same, boolCode]
  · next other =>
    rw [ho fun k t h => other k t h]
    rfl

section NoticeClaim

variable {s : State} {g : Seg}

/-- A claim taken of a segment whose notice is then `n`. -/
theorem clearClaim_notice {n : Notice} (taken : (s.seg g).notice.takeClaim = n) : clearClaim s (.notice g) =
    if n.state = .watching ∧ (s.seg g).noticeLine = true then
      (s.modSeg g fun sg => { sg with notice := n }).markChoice g
    else s.modSeg g fun sg => { sg with notice := n } := by
  have same : (s.modSeg g fun sg => { sg with notice := sg.notice.takeClaim }) =
      s.modSeg g fun sg => { sg with notice := n } := State.modSeg_congr s g (by rw [taken])
  simp only [clearClaim, same, State.noticeChoice, State.seg_modSeg_self]

/-- A NOTICE claim: its report, and the service that it lets go on (R141, R145). -/
theorem notice_claim {a : Addr} {cause : Byte} {h : Option Handle} {n : Nat} {handle : Byte}
    (claim : (s.seg g).notice.claim = some (.notice a cause h n)) (hh : handleCode h = handle) :
    formReport s (.notice g) = some (0x86, [byteOf g.val, byteOf a.toNat, cause, handle, byteOf n]) ∧
      ((s.seg g).notice.state = .querying ∨ (s.seg g).notice.state = .watching → clearClaim s (.notice g) =
        if (s.seg g).noticeLine = true then
          (s.modSeg g fun sg => { sg with notice := { sg.notice with claim := none, state := .watching } }).markChoice g
        else s.modSeg g fun sg => { sg with notice := { sg.notice with claim := none, state := .watching } }) ∧
      ((s.seg g).notice.state = .off ∨ (s.seg g).notice.state = .paused → clearClaim s (.notice g) =
        s.modSeg g fun sg => { sg with notice := { sg.notice with claim := none } }) := by
  have watches : (s.modSeg g fun sg => { sg with notice := { sg.notice with claim := none, state := .watching } }) =
      s.modSeg g fun sg => { sg with notice := { (s.seg g).notice with claim := none, state := .watching } } :=
    State.modSeg_congr s g rfl
  have stays : (s.modSeg g fun sg => { sg with notice := { sg.notice with claim := none } }) =
      s.modSeg g fun sg => { sg with notice := { (s.seg g).notice with claim := none } } := State.modSeg_congr s g rfl
  refine ⟨?report, fun goesOn => ?goesOn, fun rests => ?rests⟩
  case report => simp [formReport, claim, noticeReport, segCode, addrCode_eq, hh]
  case goesOn =>
    rw [clearClaim_notice (n := { (s.seg g).notice with claim := none, state := .watching }), watches]
    · simp
    · rcases goesOn with h | h <;> simp [Notice.takeClaim, claim, h]
  case rests =>
    rw [clearClaim_notice (n := { (s.seg g).notice with claim := none }), stays]
    · rcases rests with h | h <;> simp [h]
    · rcases rests with h | h <;> simp [Notice.takeClaim, claim, h]

/-- A NOTICE_UNCLAIMED claim: its report, and the choice point of a line that is still asserted (R142). -/
theorem unclaimed_claim {corrupt stretched : Bool} (claim : (s.seg g).notice.claim = some (.unclaimed corrupt stretched)) :
    formReport s (.notice g) = some (0x87, [byteOf g.val, boolCode corrupt + 2 * boolCode stretched]) ∧
      clearClaim s (.notice g) =
        if (s.seg g).notice.state = .watching ∧ (s.seg g).noticeLine = true then
          (s.modSeg g fun sg => { sg with notice := { sg.notice with claim := none } }).markChoice g
        else s.modSeg g fun sg => { sg with notice := { sg.notice with claim := none } } := by
  have stays : (s.modSeg g fun sg => { sg with notice := { sg.notice with claim := none } }) =
      s.modSeg g fun sg => { sg with notice := { (s.seg g).notice with claim := none } } := State.modSeg_congr s g rfl
  refine ⟨by simp [formReport, claim, noticeReport, segCode, unclaimedFlags, flagsByte_eq], ?_⟩
  rw [clearClaim_notice (n := { (s.seg g).notice with claim := none }), stays]
  simp [Notice.takeClaim, claim]

end NoticeClaim

/-- A ROSTER_CHANGED report and what its entry gives up (R91). -/
theorem roster_claim {s : State} {h : Handle} {e : Entry} (entry : s.entryAt h = some e) {flags : Byte}
    (hf : entryChangeFlags e = flags) :
    formReport s (.roster h) = some (0x88,
        [byteOf h.val, byteOf e.segment.val, byteOf e.address.toNat, flags, byteOf e.changes] ++ kindBytes e.kind) ∧
      clearClaim s (.roster h) = s.putEntry h (some
        { e with claimWaiting := false, created := false, moved := false, changes := 0 }) := by
  refine ⟨?_, ?_⟩
  · simp [formReport, entry, rosterChangedBody, segCode, addrCode_eq, hf]
  · simp only [clearClaim, State.modEntry, entry, Option.map_some]

/-! ### Changes of a roster entry -/

theorem State.rosterChange_none {s : State} {h : Handle} (free : s.entryAt h = none) (created moved : Bool) :
    s.rosterChange h created moved = s := by
  simp [State.rosterChange, free]

/-- A change counts in the claim that waits (R91). -/
theorem State.rosterChange_waiting {s : State} {h : Handle} {e : Entry} (entry : s.entryAt h = some e)
    (waits : e.claimWaiting = true) (created moved : Bool) : s.rosterChange h created moved = s.putEntry h (some
      { e with changes := min (e.changes + 1) 255, created := e.created || created, moved := e.moved || moved }) := by
  simp [State.rosterChange, entry, waits, Entry.noteChange, bump, Config.countLimit]

/-- A change without a waiting claim places one (R91). -/
theorem State.rosterChange_places {s : State} {h : Handle} {e : Entry} (entry : s.entryAt h = some e)
    (waits : e.claimWaiting = false) (created moved : Bool) : s.rosterChange h created moved = (s.putEntry h (some
      { e with claimWaiting := true, changes := 1, created := created, moved := moved })).placeClaim (.roster h) := by
  simp [State.rosterChange, entry, waits, Entry.noteChange]

/-- Settles O18: where a claim goes, and then each claimant with the report it forms and what it gives up. -/
theorem claimEntersQueueOrWaits : Obligations.ClaimEntersQueueOrWaits := by
  unfold Obligations.ClaimEntersQueueOrWaits
  refine ⟨fun s c => ⟨fun kind body none room form => State.placeClaim_room none room form,
      fun full => State.placeClaim_full full c⟩,
    fun s => ⟨State.fillQueue_idle, fun c rest kind body room first form => ?next⟩,
    fun s i j o job outcome => ?job,
    fun s g => ⟨fun k old m new list hold hm => inbound_claim list hold hm, fun ix => ?station,
      fun a cause h n claim => ?notice, fun corrupt stretched claim => ?unclaimed, fun c claim => ?sweep,
      fun c claim => ?conflict, fun c claim => ?fault⟩,
    fun s h e entry => ?roster,
    fun s c => ⟨State.placeClaimOnce_of_mem, State.placeClaimOnce_of_not_mem⟩,
    fun s h created moved => ⟨fun free => State.rosterChange_none free created moved, fun e entry =>
      ⟨fun waits => State.rosterChange_waiting entry waits created moved,
        fun waits => State.rosterChange_places entry waits created moved⟩⟩,
    by decide, by decide, by decide, by decide⟩
  case next => rw [State.fillQueue_cons room first, takeOldestClaim_cons first form]
  case job =>
    refine ⟨rfl, ?_⟩
    simp only [formReport, job, outcome, Option.bind_some, Option.map_some]
    rw [jobEndedBody_eq i (s.genAt i) j o]
    · cases j.target <;> simp [targetBytes, addrCode_eq]
    · cases j.resolved <;> simp [resolvedCode, addrCode_eq]
    · simp [outcomeFlags, flagsByte_eq]
  case station =>
    refine ⟨?_, ?_, ?_, rfl, rfl, rfl⟩
    · simp only [formReport, stationKind, stationBody, segCode, addrCode_eq]
      rw [holdsReadOf_code (s.seg g) ix]
      · intro k t h
        simp [h]
      · intro h
        split
        · next k t holding => exact absurd holding (h k t)
        · rfl
    · simp only [formReport, stationKind, stationBody, segCode, addrCode_eq]
    · simp only [formReport, stationKind, stationBody, segCode, addrCode_eq]
  case notice => exact notice_claim claim (by cases h <;> rfl)
  case unclaimed => exact unclaimed_claim claim
  case sweep => exact ⟨by simp only [formReport, claim, Option.map_some, sweepEndedBody, segCode], rfl⟩
  case conflict =>
    exact ⟨by simp only [formReport, claim, Option.map_some, conflictBody, segCode], rfl⟩
  case fault => exact ⟨by simp only [formReport, claim, Option.map_some, faultReport, segCode], rfl⟩
  case roster =>
    obtain ⟨report, clears⟩ := roster_claim entry rfl
    refine ⟨report.trans ?_, clears⟩
    cases hs : e.state <;> cases e.kind <;>
      simp [entryChangeFlags, hs, flagsByte_eq, entryStateBits, boolCode, kindBytes]

end Sys2Proof.Machine

/-!
The Job Table's requests and timers: SUBMIT with its checks and acceptance, placement, APPEND, CANCEL, and the two timers
of a job.
-/

namespace Sys2Proof.Machine

-- Declarations that wait for one another's equations each hold a thread, and its memory; here they are taken in order.
set_option Elab.async false

/-! ### Searches -/

/-- The lowest number that meets a condition. -/
theorem find_finRange_eq_some_iff {n : Nat} {p : Fin n → Bool} {i : Fin n} :
    (List.finRange n).find? p = some i ↔ p i = true ∧ ∀ k, k < i → p k = false := by
  rw [List.find?_eq_some_iff_getElem]
  refine and_congr_right fun _ => ⟨?_, fun h => ?_⟩
  · rintro ⟨j, hj, found, before⟩ k hk
    rw [List.getElem_finRange] at found
    have : k.val < j := by
      have := congrArg Fin.val found
      simp only [Fin.val_cast] at this
      rw [this]
      exact hk
    simpa using before k.val this
  · refine ⟨i.val, by simp, by simp, fun j hj => ?_⟩
    rw [List.getElem_finRange]
    simpa using h ⟨j, by omega⟩ hj

theorem find_finRange_eq_none_iff {n : Nat} {p : Fin n → Bool} :
    (List.finRange n).find? p = none ↔ ∀ k, p k = false := by
  simp

/-- The lowest FREE slot (R8). -/
theorem State.freeSlotNumber_eq_some {s : State} {i : Slot} (free : s.jobAt i = none) (lowest : ∀ k, k < i → s.jobAt k ≠ none) :
    s.freeSlotNumber = some i :=
  find_finRange_eq_some_iff.mpr ⟨by simp [free], fun k hk => by simpa [Option.isSome_iff_ne_none] using lowest k hk⟩

theorem State.freeSlotNumber_eq_none {s : State} (full : ∀ i, s.jobAt i ≠ none) : s.freeSlotNumber = none :=
  find_finRange_eq_none_iff.mpr fun k => by simpa [Option.isSome_iff_ne_none] using full k

/-! ### Job ids -/

/-- A job id names a job that has ended with a status other than OK. -/
theorem State.endedNotOk_iff (s : State) (id : JobId) : s.endedNotOk id = true ↔ s.genAt id.slot = id.gen ∧
    ∃ j o, s.jobAt id.slot = some j ∧ j.outcome = some o ∧ o.status ≠ .ok := by
  unfold State.endedNotOk State.staleId
  cases job : s.jobAt id.slot with
  | none => simp
  | some j => cases outcome : j.outcome <;> simp [outcome]

/-- A job id names a job that has not ended. -/
theorem State.liveId_iff (s : State) (id : JobId) : s.liveId id = true ↔
    s.genAt id.slot = id.gen ∧ ∃ p, s.jobAt id.slot = some p ∧ p.state ≠ .ended := by
  unfold State.liveId State.staleId
  cases job : s.jobAt id.slot <;> simp [Job.live]

/-! ### The checks of SUBMIT -/

theorem handleOf_eq_some_iff {b : Byte} {h : Handle} : handleOf b = some h ↔ b.toNat = h.val := by
  unfold handleOf
  split
  · simp [Fin.ext_iff]
  · simp only [reduceCtorEq, false_iff]
    omega

theorem handleOf_eq_none {b : Byte} (h : 64 ≤ b.toNat) : handleOf b = none := dif_neg (Nat.not_lt.mpr h)

section CheckTarget

variable {s : State} {b : Byte}

theorem State.checkTarget_noHandle (h : 64 ≤ b.toNat) : s.checkTarget (.handle b) = .bad .notFound := by
  simp [State.checkTarget, handleOf_eq_none h]

theorem State.checkTarget_noEntry {h : Handle} (hb : b.toNat = h.val) (free : s.entryAt h = none) :
    s.checkTarget (.handle b) = .bad .notFound := by
  simp [State.checkTarget, handleOf_eq_some_iff.mpr hb, free]

theorem State.checkTarget_handle {h : Handle} {e : Entry} (hb : b.toNat = h.val) (entry : s.entryAt h = some e) :
    s.checkTarget (.handle b) = .good (.handle h) e.segment := by
  simp [State.checkTarget, handleOf_eq_some_iff.mpr hb, entry]

/-- The raw addresses that a job may name (R6). -/
theorem rawUsable_iff {c : SegConfig} : rawUsable c b = true ↔
    (b = 0 ∨ (0x08 ≤ b.toNat ∧ b.toNat ≤ 0x77)) ∧ b.setWidth 7 ∉ c.reserved := by
  simp [rawUsable, inAddrRange]

theorem State.checkTarget_reserved {g : Seg}
    (h : (b ≠ 0 ∧ (b.toNat < 0x08 ∨ 0x77 < b.toNat)) ∨ b.setWidth 7 ∈ (s.seg g).config.reserved) :
    s.checkTarget (.raw g b) = .bad .reservedAddress := by
  have unusable : ¬ rawUsable (s.seg g).config b = true := by
    rw [rawUsable_iff]
    rintro ⟨range, free⟩
    rcases h with ⟨notBroadcast, outside⟩ | reserved
    · rcases range with rfl | range
      · exact notBroadcast rfl
      · omega
    · exact free reserved
  simp [State.checkTarget, unusable]

theorem State.checkTarget_raw {g : Seg} {a : Addr} (ha : b.toNat = a.toNat) (range : b = 0 ∨ (0x08 ≤ b.toNat ∧ b.toNat ≤ 0x77))
    (free : a ∉ (s.seg g).config.reserved) : s.checkTarget (.raw g b) = .good (.raw a) g := by
  have same : b.setWidth 7 = a := by
    apply BitVec.eq_of_toNat_eq
    rw [BitVec.toNat_setWidth, ha]
    exact Nat.mod_eq_of_lt a.isLt
  have usable : rawUsable (s.seg g).config b = true := rawUsable_iff.mpr ⟨range, same ▸ free⟩
  simp [State.checkTarget, usable, same]

end CheckTarget

section CheckPredecessor

variable {s : State} {id : JobId}

theorem State.checkPredecessor_stale (h : s.staleId id = true) : s.checkPredecessor (some id) = some .stale := by
  simp [State.checkPredecessor, h]

theorem State.checkPredecessor_failed (h : s.staleId id = false) (failed : s.endedNotOk id = true) :
    s.checkPredecessor (some id) = some .predecessorFailed := by
  simp [State.checkPredecessor, h, failed]

/-- A predecessor that has not ended is recorded (R7). -/
theorem State.predecessor_live {j : Job} (gen : s.genAt id.slot = id.gen) (job : s.jobAt id.slot = some j)
    (live : j.state ≠ .ended) (noOutcome : j.outcome = none) :
    s.checkPredecessor (some id) = none ∧ s.recordedPredecessor (some id) = .job id := by
  have fresh : s.staleId id = false := State.staleId_eq_false gen job
  have notFailed : s.endedNotOk id = false := by
    simp [State.endedNotOk, fresh, job, noOutcome]
  exact ⟨by simp [State.checkPredecessor, fresh, notFailed],
    by simp [State.recordedPredecessor, (State.liveId_iff s id).mpr ⟨gen, j, job, live⟩]⟩

/-- A predecessor that has ended OK is recorded as absent (log entry 30). -/
theorem State.predecessor_ok {j : Job} {o : JobOutcome} (gen : s.genAt id.slot = id.gen) (job : s.jobAt id.slot = some j)
    (ended : j.state = .ended) (outcome : j.outcome = some o) (ok : o.status = .ok) :
    s.checkPredecessor (some id) = none ∧ s.recordedPredecessor (some id) = .absent := by
  have fresh : s.staleId id = false := State.staleId_eq_false gen job
  have notFailed : s.endedNotOk id = false := by
    simp [State.endedNotOk, fresh, job, outcome, ok]
  have notLive : s.liveId id = false := by
    simp [State.liveId, job, Job.live, ended]
  exact ⟨by simp [State.checkPredecessor, fresh, notFailed], by simp [State.recordedPredecessor, notLive]⟩

end CheckPredecessor

section RunSubmit

variable {s : State} {body : List Byte} {r : SubmitReq}

theorem runSubmit_badTarget {st : Status} (req : submitReqOf body = some r) (bad : s.checkTarget r.target = .bad st) :
    runSubmit body s = (s, .refused st) := by
  simp [runSubmit, req, bad]

theorem runSubmit_badPredecessor {t : Target} {g : Seg} {st : Status} (req : submitReqOf body = some r)
    (good : s.checkTarget r.target = .good t g) (bad : s.checkPredecessor r.predecessor = some st) :
    runSubmit body s = (s, .refused st) := by
  simp [runSubmit, req, good, bad]

theorem runSubmit_accept {t : Target} {g : Seg} (req : submitReqOf body = some r)
    (good : s.checkTarget r.target = .good t g) (fine : s.checkPredecessor r.predecessor = none) :
    runSubmit body s = acceptJob r t g s := by
  simp [runSubmit, req, good, fine]

/-- A SUBMIT that finds a slot but too few blocks, whichever slot is the lowest (R148). -/
theorem acceptJob_poolShort {t : Target} {g : Seg} {i : Slot} (free : s.jobAt i = none) (short : s.poolFree < r.blocks + 8) :
    acceptJob r t g s = (s, .refused .poolShort) := by
  have found : s.freeSlotNumber ≠ none := by
    intro none
    have := find_finRange_eq_none_iff.mp none i
    simp [free] at this
  obtain ⟨k, hk⟩ := Option.ne_none_iff_exists'.mp found
  simp [acceptJob, hk, Config.inboundReserve, short]

end RunSubmit

/-- Settles O21: each check of Table 2-4 stops the request with its status. -/
theorem submitRefusedByFirstFailingCheck : Obligations.SubmitRefusedByFirstFailingCheck := by
  unfold Obligations.SubmitRefusedByFirstFailingCheck
  refine ⟨fun s id => ⟨State.staleId_iff s id, State.endedNotOk_iff s id⟩, fun s tag body takes size => ?_⟩
  intro refused
  have refuses {st : Status} (run : runSubmit body s.hunting = (s.hunting, .refused st)) : refused st := by
    have answered := exec_submit_answered takes size
    rwa [run] at answered
  refine ⟨fun bad => refuses (runSubmit_of_none bad _), fun r req => ⟨fun b target range => ?noHandle,
    fun b h target hb free => ?noEntry, fun g a target unusable => ?reserved, fun t g good =>
    ⟨fun id predecessor stale => ?stale, fun id predecessor fresh failed => ?failed, fun fine =>
      ⟨fun full => ?noSlot, fun i free short => ?poolShort⟩⟩⟩⟩
  case noHandle => exact refuses (runSubmit_badTarget req (target ▸ State.checkTarget_noHandle range))
  case noEntry => exact refuses (runSubmit_badTarget req (target ▸ State.checkTarget_noEntry (s := s.hunting) hb free))
  case reserved => exact refuses (runSubmit_badTarget req (target ▸ State.checkTarget_reserved (s := s.hunting) unusable))
  case stale =>
    exact refuses (runSubmit_badPredecessor req good (predecessor ▸ State.checkPredecessor_stale (s := s.hunting) stale))
  case failed =>
    exact refuses (runSubmit_badPredecessor req good
      (predecessor ▸ State.checkPredecessor_failed (s := s.hunting) fresh failed))
  case noSlot =>
    refine refuses ((runSubmit_accept (s := s.hunting) req good fine).trans ?_)
    simp [acceptJob, State.freeSlotNumber_eq_none (s := s.hunting) full]
  case poolShort =>
    exact refuses ((runSubmit_accept (s := s.hunting) req good fine).trans (acceptJob_poolShort (s := s.hunting) (i := i) free short))

/-! ### Acceptance -/

/-- A slot that holds a job holds one still once that job is placed. -/
theorem State.placeIfComplete_jobAt {s : State} {i k : Slot} {j : Job} (job : s.jobAt k = some j) :
    ∃ j', (s.placeIfComplete i).jobAt k = some j' := by
  have blocks := (State.CalmJobs.placeIfComplete s i).blocks k
  rw [job] at blocks
  cases placed : (s.placeIfComplete i).jobAt k with
  | none => rw [placed] at blocks; cases blocks
  | some j' => exact ⟨j', rfl⟩

/-- The answer to a SUBMIT or an APPEND, from the record as placement leaves it (Table 13-5). -/
theorem stagedAnswer_placed {s : State} {i : Slot} {gen : BitVec 8} {j : Job} (hgen : s.genAt i = gen)
    (job : s.jobAt i = some j) : ∃ j', (s.placeIfComplete i).jobAt i = some j' ∧
      stagedAnswer (s.placeIfComplete i) i =
        .ok [byteOf i.val, gen, jobStateCode j'.state, byteOf j'.staged, byteOf (j'.staged / 256)] := by
  obtain ⟨j', placed⟩ := State.placeIfComplete_jobAt (i := i) job
  refine ⟨j', placed, ?_⟩
  simp [stagedAnswer, placed, (State.CalmJobs.placeIfComplete s i).gen i, hgen, word16]

@[simp] theorem State.takeSlot_jobAt_self (s : State) (i : Slot) (j : Job) : (s.takeSlot i j).jobAt i = some j := by
  simp [State.takeSlot, State.jobAt]

@[simp] theorem State.takeSlot_genAt_self (s : State) (i : Slot) (j : Job) : (s.takeSlot i j).genAt i = s.genAt i + 1 := by
  simp [State.takeSlot, State.genAt]

theorem State.takeSlot_jobAt_ne (s : State) {i k : Slot} (j : Job) (h : k ≠ i) : (s.takeSlot i j).jobAt k = s.jobAt k := by
  have h' : i.val ≠ k.val := fun e => h (Fin.ext e.symm)
  simp [State.takeSlot, State.jobAt, h']

theorem State.takeSlot_genAt_ne (s : State) {i k : Slot} (j : Job) (h : k ≠ i) : (s.takeSlot i j).genAt k = s.genAt k := by
  have h' : i.val ≠ k.val := fun e => h (Fin.ext e.symm)
  simp [State.takeSlot, State.genAt, h']

/-- Settles O22: what the request needs, where it goes, and what each target and predecessor is recorded as. -/
theorem submitAcceptedTakesSlotAndBlocks : Obligations.SubmitAcceptedTakesSlotAndBlocks := by
  unfold Obligations.SubmitAcceptedTakesSlotAndBlocks
  refine ⟨by decide, fun s tag body r t g i takes => ?accepts,
    fun s => ⟨fun b h e hb entry => State.checkTarget_handle hb entry,
      fun g b a ha range free => State.checkTarget_raw ha range free, rfl, rfl,
      fun id j gen job => ⟨State.predecessor_live gen job, fun o => State.predecessor_ok gen job⟩⟩⟩
  case accepts =>
    intro writeTotal readReserve blocks
    have totals : ∀ steps, writeTotal steps = writeTotalOf steps := fun steps =>
      sum_map_eq_writeTotalOf (fun _ => rfl) (fun _ => rfl) (fun _ => rfl) steps
    have reserves : ∀ steps check, readReserve steps check = readReserveOf steps check := by
      intro steps check
      refine congrArg₂ (· + ·) (sum_map_eq_readSpaceOf (fun _ => rfl) (fun _ => rfl) (fun _ => rfl) steps) ?_
      cases steps.getLast? with
      | none => simp
      | some x => cases x <;> simp [JobStep.isRead]
    have need : r.blocks = blocks := by
      simp only [blocks, SubmitReq.blocks, blocksFor, totals, reserves, Config.blockBytes]
    refine ⟨need, fun size req good fine free lowest enough => ?_⟩
    intro j u
    have record : j = newJob r t g (s.recordedPredecessor r.predecessor) := by
      simp only [j, newJob, totals, reserves, need, Config.stagingTime]
    have placed : u = (s.hunting.takeSlot i j).placeIfComplete i := rfl
    obtain ⟨j', found, answer⟩ := stagedAnswer_placed (s := s.hunting.takeSlot i j) (i := i)
      (State.takeSlot_genAt_self _ i j) (State.takeSlot_jobAt_self _ i j)
    refine ⟨j', found, ?_⟩
    have run : runSubmit body s.hunting = (u, stagedAnswer u i) := by
      have short : ¬ s.hunting.poolFree < r.blocks + Config.inboundReserve := by
        rw [need]
        exact Nat.not_lt.mpr enough
      rw [runSubmit_accept (s := s.hunting) req good fine]
      simp only [acceptJob, State.freeSlotNumber_eq_some (s := s.hunting) free lowest, short, if_false, placed, record]
      rfl
    have answered := exec_submit_answered takes size
    rw [run, placed, answer] at answered
    exact answered

/-! ### Placement -/

section Placement

variable {s : State} {i : Slot} {j : Job}

theorem State.placeIfComplete_incomplete (job : s.jobAt i = some j) (more : j.staged ≠ j.writeTotal) :
    s.placeIfComplete i = s.modJob i fun j => { j with stagingTimer := some 1000 } := by
  simp [State.placeIfComplete, job, more, Config.stagingTime]

theorem State.placeIfComplete_complete (job : s.jobAt i = some j) (all : j.staged = j.writeTotal) :
    s.placeIfComplete i = s.placeJob i := by
  simp [State.placeIfComplete, job, all]

/-- Whether a job id is live depends on the state of its job alone. -/
theorem State.liveId_modJob {f : Job → Job} (h : ∀ j, (f j).state = j.state) (id : JobId) :
    (s.modJob i f).liveId id = s.liveId id := by
  by_cases same : id.slot = i
  · cases job : s.jobAt i <;> simp [State.liveId, State.staleId, same, job, Job.live, h]
  · simp [State.liveId, State.staleId, State.jobAt_modJob_ne _ _ _ _ same]

/-- Whether a job id names a failed job depends on the outcome of its job alone. -/
theorem State.endedNotOk_modJob {f : Job → Job} (h : ∀ j, (f j).outcome = j.outcome) (id : JobId) :
    (s.modJob i f).endedNotOk id = s.endedNotOk id := by
  by_cases same : id.slot = i
  · cases job : s.jobAt i <;> simp [State.endedNotOk, State.staleId, same, job, h]
  · simp [State.endedNotOk, State.staleId, State.jobAt_modJob_ne _ _ _ _ same]

/-- A job placed for QUEUED, at the tail of its list (R21). -/
theorem State.placeJob_queue (job : s.jobAt i = some j)
    (place : (s.modJob i fun j => { j with stagingTimer := none }).placement j = .queue) : s.placeJob i =
      ((s.modJob i fun j => { j with stagingTimer := none, state := .queued, predecessor := .absent }).modSeg j.segment
        (·.enqueue j.cls i)).markChoice j.segment := by
  simp [State.placeJob, job, place, State.becomeQueued]

theorem State.placeJob_hold {id : JobId} (job : s.jobAt i = some j)
    (place : (s.modJob i fun j => { j with stagingTimer := none }).placement j = .hold id) : s.placeJob i =
      { s.modJob i (fun j => { j with stagingTimer := none, state := .held }) with heldSet := s.heldSet ++ [⟨i, id⟩] } := by
  simp [State.placeJob, job, place]

theorem State.placeJob_fail (job : s.jobAt i = some j)
    (place : (s.modJob i fun j => { j with stagingTimer := none }).placement j = .fail) : s.placeJob i =
      (s.modJob i fun j => { j with stagingTimer := none }).endJob i .predecessorFailed .nothing := by
  simp [State.placeJob, job, place]

end Placement

/-- Settles O23, by the predecessor field. -/
theorem placementByPredecessor : Obligations.PlacementByPredecessor := by
  unfold Obligations.PlacementByPredecessor
  intro s i j job
  refine ⟨State.placeIfComplete_incomplete job, fun all => ?_⟩
  intro queued
  refine ⟨State.liveId_iff s, fun absent => ?absent,
    fun id named ended fine => ?ended, fun id named live => ?live, fun failed => ?failed⟩
  all_goals rw [State.placeIfComplete_complete job all]
  case absent =>
    rw [State.placeJob_queue job (by simp [State.placement, absent])]
    cases cls : j.cls <;> simp [queued, cls, Segment.enqueue]
  case ended =>
    rw [State.placeJob_queue job (by simp [State.placement, named, State.liveId_modJob, State.endedNotOk_modJob, ended, fine])]
    cases cls : j.cls <;> simp [queued, cls, Segment.enqueue]
  case live => exact State.placeJob_hold job (by simp [State.placement, named, State.liveId_modJob, live])
  case failed => exact State.placeJob_fail job (by simp [State.placement, failed])

/-! ### APPEND and CANCEL -/

/-- The outcome of an APPEND that is executed. -/
theorem exec_append_answered {s : State} {tag : Byte} (takes : Takes s tag) (slot gen : Byte) (data : List Byte) :
    Answered (exec (.append tag (slot :: gen :: data)) s) 0x21 tag (runAppend (slot :: gen :: data) s.hunting).2
      (runAppend (slot :: gen :: data) s.hunting).1 :=
  answered_of_takes takes 0x21 _ (runAppend (slot :: gen :: data)) (by simp [sizeAtLeast])

section RunAppend

variable {s : State} {slot gen : Byte} {data : List Byte} {i : Slot}

theorem runAppend_badValue (h : 32 ≤ slot.toNat) :
    runAppend (slot :: gen :: data) s = (s, .refused .badValue) := by
  simp [runAppend, jobIdOf_eq_none h]

theorem runAppend_stale (h : slot.toNat = i.val) (stale : s.staleId ⟨i, gen⟩ = true) :
    runAppend (slot :: gen :: data) s = (s, .refused .stale) := by
  simp [runAppend, jobIdOf_eq_some h, stale]

variable {j : Job}

theorem runAppend_notStaging (h : slot.toNat = i.val) (hgen : s.genAt i = gen) (job : s.jobAt i = some j)
    (other : j.state ≠ .staging) : runAppend (slot :: gen :: data) s = (s, .refused .notStaging) := by
  simp [runAppend, jobIdOf_eq_some h, State.staleId_eq_false hgen job, job, other]

theorem runAppend_tooLong (h : slot.toNat = i.val) (hgen : s.genAt i = gen) (job : s.jobAt i = some j)
    (staging : j.state = .staging) (long : j.writeTotal < j.staged + data.length) :
    runAppend (slot :: gen :: data) s = (s, .refused .badValue) := by
  simp [runAppend, jobIdOf_eq_some h, State.staleId_eq_false hgen job, job, staging, long]

theorem runAppend_stores (h : slot.toNat = i.val) (hgen : s.genAt i = gen) (job : s.jobAt i = some j)
    (staging : j.state = .staging) (fits : j.staged + data.length ≤ j.writeTotal) :
    runAppend (slot :: gen :: data) s = ((s.modJob i (·.stage data)).placeIfComplete i,
      stagedAnswer ((s.modJob i (·.stage data)).placeIfComplete i) i) := by
  simp [runAppend, jobIdOf_eq_some h, State.staleId_eq_false hgen job, job, staging, Nat.not_lt.mpr fits]

end RunAppend

/-- Settles O24: each check in order, and the bytes stored. -/
theorem appendStagesBytes : Obligations.AppendStagesBytes := by
  unfold Obligations.AppendStagesBytes
  intro s tag slot gen data takes a
  have answered := exec_append_answered takes slot gen data
  refine ⟨fun outside => ?badValue, fun i hslot => ⟨fun stale => ?stale, fun j hgen job =>
    ⟨fun other => ?notStaging, fun staging long => ?tooLong, fun staging fits => ?stores⟩⟩⟩
  case badValue => rwa [runAppend_badValue outside] at answered
  case stale =>
    have stale' : s.hunting.staleId ⟨i, gen⟩ = true := (State.staleId_iff s _).mpr stale
    rwa [runAppend_stale hslot stale'] at answered
  case notStaging => rwa [runAppend_notStaging (s := s.hunting) hslot hgen job other] at answered
  case tooLong => rwa [runAppend_tooLong (s := s.hunting) hslot hgen job staging long] at answered
  case stores =>
    intro u
    have staged : (s.hunting.modJob i (·.stage data)).jobAt i = some (j.stage data) := by
      have job' : s.hunting.jobAt i = some j := job
      simp [job']
    obtain ⟨j', found, answer⟩ := stagedAnswer_placed ((s.hunting.genAt_modJob i i _).trans hgen) staged
    rw [byteOf_eq_of_toNat_eq hslot] at answer
    rw [runAppend_stores (s := s.hunting) hslot hgen job staging fits, answer] at answered
    exact ⟨j', found, answered⟩

/-- The outcome of a CANCEL that is executed. -/
theorem exec_cancel_answered {s : State} {tag : Byte} (takes : Takes s tag) (slot gen : Byte) :
    Answered (exec (.cancel tag [slot, gen]) s) 0x22 tag (runCancel [slot, gen] s.hunting).2
      (runCancel [slot, gen] s.hunting).1 :=
  answered_of_takes takes 0x22 _ (runCancel [slot, gen]) rfl

section RunCancel

variable {s : State} {slot gen : Byte} {i : Slot}

theorem runCancel_badValue (h : 32 ≤ slot.toNat) : runCancel [slot, gen] s = (s, .refused .badValue) := by
  simp [runCancel, jobIdOf_eq_none h]

theorem runCancel_stale (h : slot.toNat = i.val) (stale : s.staleId ⟨i, gen⟩ = true) :
    runCancel [slot, gen] s = (s, .refused .stale) := by
  simp [runCancel, jobIdOf_eq_some h, stale]

variable {j : Job}

theorem runCancel_ended (h : slot.toNat = i.val) (hgen : s.genAt i = gen) (job : s.jobAt i = some j)
    (ended : j.state = .ended) : runCancel [slot, gen] s = (s, .refused .alreadyEnded) := by
  simp [runCancel, jobIdOf_eq_some h, State.staleId_eq_false hgen job, job, ended]

theorem runCancel_live (h : slot.toNat = i.val) (hgen : s.genAt i = gen) (job : s.jobAt i = some j)
    (live : j.state ≠ .ended) : runCancel [slot, gen] s =
      (s.cancelJob i j, .ok [slot, gen, if j.state = .active then 4 else 6]) := by
  by_cases active : j.state = .active <;>
    simp [runCancel, jobIdOf_eq_some h, State.staleId_eq_false hgen job, job, live, active, jobStateCode,
      byteOf_eq_of_toNat_eq h]

/-- CANCEL of a job that is not ACTIVE ends it (R40). -/
theorem State.cancelJob_waiting (other : j.state ≠ .active) : s.cancelJob i j = s.endJob i .cancelled .nothing := by
  simp [State.cancelJob, other]

/-- CANCEL of a job whose attempt does not wait marks it (R41). -/
theorem State.cancelJob_marks (active : j.state = .active)
    (runs : (s.seg j.segment).handed ≠ some (.job i) ∨ (s.seg j.segment).sc = .controlling) :
    s.cancelJob i j = s.modJob i fun j => { j with cancelPending := true } := by
  have noWait : (s.seg j.segment).waits i = false := by
    rcases runs with other | controlling
    · simp [Segment.waits, other]
    · simp [Segment.waits, controlling]
  simp [State.cancelJob, active, noWait]

end RunCancel

section EndWaiting

variable {s : State} {g : Seg} {i : Slot}

/-- The attempt of a job that waits for the bus. -/
theorem Segment.waits_of_handed {sg : Segment} (handed : sg.handed = some (.job i)) (waits : sg.sc ≠ .controlling) :
    sg.waits i = true := by
  simp [Segment.waits, handed, waits]

/-- An attempt abandoned in CONTENDING leaves the Segment Controller IDLE (R57). -/
theorem State.abandonWait_contending (h : (s.seg g).sc = .contending) :
    s.abandonWait g = (s.modSeg g fun sg => { sg with sc := .idle, handed := none }).markChoice g := by
  simp [State.abandonWait, h]

/-- An attempt abandoned through a service or a recovery leaves the Segment Controller where it is (R57). -/
theorem State.abandonWait_other (h : (s.seg g).sc = .serving ∨ (s.seg g).sc = .recovering) :
    s.abandonWait g = s.modSeg g fun sg => { sg with handed := none } := by
  rcases h with h | h <;> simp [State.abandonWait, h]

end EndWaiting

/-- Settles O25, by the state of the job and of the segment it is handed on. -/
theorem cancelEndsOrMarksTheJob : Obligations.CancelEndsOrMarksTheJob := by
  unfold Obligations.CancelEndsOrMarksTheJob
  intro s tag slot gen takes a
  have answered := exec_cancel_answered takes slot gen
  refine ⟨fun outside => ?badValue, fun i hslot => ⟨fun stale => ?stale, fun j hgen job => ⟨fun ended => ?ended,
    fun live other => ?ends, fun active => ?active⟩⟩⟩
  case badValue => rwa [runCancel_badValue outside] at answered
  case stale =>
    have stale' : s.hunting.staleId ⟨i, gen⟩ = true := (State.staleId_iff s _).mpr stale
    rwa [runCancel_stale hslot stale'] at answered
  case ended => rwa [runCancel_ended (s := s.hunting) hslot hgen job ended] at answered
  case ends =>
    rw [runCancel_live (s := s.hunting) hslot hgen job live, State.cancelJob_waiting other] at answered
    simpa only [other, if_false] using answered
  case active =>
    rw [runCancel_live (s := s.hunting) hslot hgen job (by simp [active])] at answered
    simp only [active, if_true] at answered
    intro marked
    have abandons (handed : (s.seg j.segment).handed = some (.job i)) (waits : (s.seg j.segment).sc ≠ .controlling) :
        s.hunting.cancelJob i j = (marked.abandonWait j.segment).endJob i .cancelled .nothing := by
      have waits' : (marked.seg j.segment).waits i = true := Segment.waits_of_handed handed waits
      simp only [State.cancelJob, active, if_true]
      exact if_pos waits'
    refine ⟨fun runs => ?_, fun handed contending => ?_, fun handed elsewhere => ?_⟩
    · rwa [State.cancelJob_marks (s := s.hunting) active runs] at answered
    · rw [abandons handed (by simp [contending])] at answered
      rwa [State.abandonWait_contending (s := marked) contending] at answered
    · rw [abandons handed (by rcases elsewhere with h | h <;> simp [h])] at answered
      rwa [State.abandonWait_other (s := marked) elsewhere] at answered

/-! ### The timers of a job -/

/-- Settles O27, by the state of the job and of the segment it is handed on. -/
theorem jobTimersEndJobs : Obligations.JobTimersEndJobs := by
  unfold Obligations.JobTimersEndJobs
  intro s i j running job
  have staging := act_ends (stagingExpires i) running
  have deadline := act_ends (deadlineExpires i) running
  have reaches (set : j.deadlineTimer.isSome) : deadlineExpires i s = s.deadlineReaches i j := by
    simp [deadlineExpires, job, set]
  have abandons (active : j.state = .active) (handed : (s.seg j.segment).handed = some (.job i))
      (waits : (s.seg j.segment).sc ≠ .controlling) :
      s.deadlineReaches i j = (s.abandonWait j.segment).endJob i .deadline .nothing := by
    simp [State.deadlineReaches, active, Segment.waits_of_handed handed waits, State.endWaiting]
  refine ⟨fun stages set => ?staging, fun set => ⟨fun other => ?ends, fun active handed runs => ?overdue,
    fun active handed contending => ?contending, fun active handed elsewhere => ?elsewhere⟩⟩
  case staging =>
    have expires : stagingExpires i s = s.endJob i .stageTimeout .nothing := by simp [stagingExpires, job, stages, set]
    rwa [expires] at staging
  all_goals rw [reaches set] at deadline
  case ends =>
    have ends : s.deadlineReaches i j = s.endJob i .deadline .nothing := by simp [State.deadlineReaches, other]
    rwa [ends] at deadline
  case overdue =>
    have marks : s.deadlineReaches i j = s.modJob i fun j => { j with overdue := true, deadlineTimer := none } := by
      simp [State.deadlineReaches, active, Segment.waits, runs]
    rwa [marks] at deadline
  case contending =>
    rwa [abandons active handed (by simp [contending]), State.abandonWait_contending contending] at deadline
  case elsewhere =>
    rwa [abandons active handed (by rcases elsewhere with h | h <;> simp [h]), State.abandonWait_other elsewhere] at deadline

end Sys2Proof.Machine

/-!
The end of one job (R15): what its writes do to each place, before the claim of its report.
-/

namespace Sys2Proof.Machine

-- Declarations that wait for one another's equations each hold a thread, and its memory; here they are taken in order.
set_option Elab.async false

/-! ### Leaving a place -/

/-- What the end of a job does to its own segment. -/
def Segment.leaves (sg : Segment) (i : Slot) (j : Job) : Segment :=
  match j.state with
  | .queued => sg.dequeue j.cls i
  | .active => sg.dropCurrent
  | .backoff => sg.dropCurrent
  | _ => sg

theorem State.leavePlace_seg (s : State) (i : Slot) (j : Job) (g : Seg) :
    (s.leavePlace i j).seg g = if g = j.segment then (s.seg g).leaves i j else s.seg g := by
  unfold State.leavePlace Segment.leaves
  by_cases same : g = j.segment
  · subst same
    cases j.state with
    | held => rw [if_pos rfl]; rfl
    | _ => simp
  · cases j.state with
    | held => simp [same]; rfl
    | _ => simp [same, State.seg_modSeg_ne]

theorem State.leavePlace_heldSet (s : State) (i : Slot) (j : Job) :
    (s.leavePlace i j).heldSet = if j.state = .held then s.heldSet.filter (·.slot != i) else s.heldSet := by
  unfold State.leavePlace
  cases j.state <;> simp

/-- Leaving a place writes segments and the held set, and is a choice-point event for a job in BACKOFF (R29). -/
theorem State.leavePlace_eq (s : State) (i : Slot) (j : Job) : s.leavePlace i j =
    { (if j.state = .backoff then s.markChoice j.segment else s) with
      segs := (s.leavePlace i j).segs, heldSet := (s.leavePlace i j).heldSet } := by
  unfold State.leavePlace
  cases j.state <;> simp only [reduceCtorEq, if_true, if_false] <;> try rfl
  simp only [State.markChoice]
  by_cases due : j.segment ∈ s.choiceDue <;> simp [due, State.modSeg]

section Leaves

variable {sg : Segment} {i : Slot} {j : Job}

theorem Segment.dequeue_classList (sg : Segment) (c k : JobClass) (i : Slot) :
    (sg.dequeue c i).classList k = if k = c then (sg.classList k).filter (· != i) else sg.classList k := by
  cases c <;> cases k <;> simp only [Segment.dequeue, Segment.fairnessAfter] <;> split <;> rfl

theorem Segment.dequeue_fairness (sg : Segment) (c : JobClass) (i : Slot) :
    (sg.dequeue c i).fairness = if (sg.dequeue c i).routine = [] then 0 else sg.fairness := by
  cases c <;> simp only [Segment.dequeue, Segment.fairnessAfter] <;> split <;> simp_all

theorem Segment.leaves_of_not_queued (h : j.state ≠ .queued) (c : JobClass) :
    (sg.leaves i j).classList c = sg.classList c ∧ (sg.leaves i j).fairness = sg.fairness := by
  unfold Segment.leaves
  cases state : j.state with
  | queued => exact absurd state h
  | active | backoff => cases c <;> exact ⟨rfl, rfl⟩
  | staging | held | ended => exact ⟨rfl, rfl⟩

/-- Nothing of the segment changes but its lists and what Dispatch lets go of. -/
theorem Segment.leaves_eq (sg : Segment) (i : Slot) (j : Job) :
    let left := j.state = .active ∨ j.state = .backoff
    sg.leaves i j = { sg with
      urgent := (sg.leaves i j).urgent, routine := (sg.leaves i j).routine, fairness := (sg.leaves i j).fairness
      current := if left then none else sg.current
      backoffTimer := if left then none else sg.backoffTimer
      backoffExpired := if left then false else sg.backoffExpired } := by
  unfold Segment.leaves
  cases j.state <;> simp only [reduceCtorEq, or_self, or_false, or_true, if_true, if_false] <;> try rfl
  cases j.cls <;> simp only [Segment.dequeue, Segment.fairnessAfter] <;> split <;> rfl

end Leaves

/-- A job found once in a list is taken out of it, and the others keep their order (R21). -/
theorem filter_ne_of_once {ahead behind : List Slot} {i : Slot} (ha : i ∉ ahead) (hb : i ∉ behind) :
    (ahead ++ i :: behind).filter (· != i) = ahead ++ behind := by
  have keeps {xs : List Slot} (h : i ∉ xs) : xs.filter (· != i) = xs :=
    List.filter_eq_self.mpr fun k hk => by
      rw [bne_iff_ne]
      rintro rfl
      exact h hk
  simp [keeps ha, keeps hb]

/-! ### The writes of an end -/

/-- The end of a job before its claim (R15, steps 1 to 5). -/
def State.endWrites (s : State) (i : Slot) (j : Job) (st : EndStatus) (c : EndCounts) : State :=
  ((s.leavePlace i j).putJob i (some (j.ended st c))).visitStaging (s.idAt i) (st = .ok)

section EndWrites

variable {s : State} {i : Slot} {j : Job} {st : EndStatus} {c : EndCounts}

theorem State.endOne_eq (job : s.jobAt i = some j) (live : j.state ≠ .ended) :
    s.endOne i st c = (s.endWrites i j st c).placeClaim (.jobEnded i) := by
  simp only [State.endOne, job, if_neg live, State.endWrites]

/-- A job ENDED already is not ended again. -/
theorem State.endOne_ended (job : s.jobAt i = some j) (ended : j.state = .ended) : s.endOne i st c = s := by
  simp [State.endOne, job, ended]

theorem State.endWrites_jobAt_self : (s.endWrites i j st c).jobAt i = some (j.ended st c) := by
  simp [State.endWrites, Job.visited, Job.ended]

theorem State.endWrites_jobAt_ne {k : Slot} (h : k ≠ i) : (s.endWrites i j st c).jobAt k =
    (s.jobAt k).map (·.visited (s.idAt i) (st = .ok)) := by
  simp [State.endWrites, State.jobAt_putJob_ne _ _ _ _ h]

theorem State.endWrites_seg (g : Seg) :
    (s.endWrites i j st c).seg g = if g = j.segment then (s.seg g).leaves i j else s.seg g :=
  State.leavePlace_seg s i j g

theorem State.endWrites_heldSet :
    (s.endWrites i j st c).heldSet = if j.state = .held then s.heldSet.filter (·.slot != i) else s.heldSet :=
  State.leavePlace_heldSet s i j

/-- The writes of an end touch slots, segments and the held set, and a choice point becomes due for a job in BACKOFF. -/
theorem State.endWrites_eq : s.endWrites i j st c =
    { (if j.state = .backoff then s.markChoice j.segment else s) with
      slots := (s.endWrites i j st c).slots, segs := (s.endWrites i j st c).segs
      heldSet := (s.endWrites i j st c).heldSet } := by
  have left := State.leavePlace_eq s i j
  unfold State.endWrites State.visitStaging State.putJob
  rw [left]

theorem State.endWrites_queue : (s.endWrites i j st c).reports = s.reports ∧ (s.endWrites i j st c).claims = s.claims ∧
    (s.endWrites i j st c).nextSeq = s.nextSeq ∧ (s.endWrites i j st c).attn = s.attn := by
  rw [State.endWrites_eq]
  split <;> simp

/-- The end of a job, but for what the entry of claims changes. -/
theorem State.endOne_sameButClaims (job : s.jobAt i = some j) (live : j.state ≠ .ended) :
    (s.endOne i st c).SameButClaims (s.endWrites i j st c) := by
  rw [State.endOne_eq job live]
  exact State.placeClaim_same _ _

end EndWrites

/-- A JOB_ENDED report is formed from the record of a job that has ended. -/
theorem formReport_jobEnded {s : State} {i : Slot} {j : Job} {o : JobOutcome} (job : s.jobAt i = some j)
    (outcome : j.outcome = some o) :
    formReport s (.jobEnded i) = some (0x81, jobEndedBody i (s.genAt i) j o) := by
  simp [formReport, job, outcome]

/-- Settles O28: the writes place by place, and then the claim. -/
theorem jobEndFillsOutcomeAndLeavesItsPlace : Obligations.JobEndFillsOutcomeAndLeavesItsPlace := by
  unfold Obligations.JobEndFillsOutcomeAndLeavesItsPlace
  intro s i j st c job live t j'
  have same : t.SameButClaims (s.endWrites i j st c) := State.endOne_sameButClaims job live
  have calm : t.CalmJobs s := .endOne s i st c
  have jobAt (k : Slot) : t.jobAt k = (s.endWrites i j st c).jobAt k := by rw [State.jobAt, State.jobAt, same.slots]
  have classList (g : Seg) (cl : JobClass) : (t.seg g).classList cl =
      (if g = j.segment then (s.seg g).leaves i j else s.seg g).classList cl := by
    rw [← State.endWrites_seg (st := st) (c := c)]
    cases cl
    · exact (same.seg g).urgent
    · exact (same.seg g).routine
  have fairness (g : Seg) : (t.seg g).fairness =
      (if g = j.segment then (s.seg g).leaves i j else s.seg g).fairness := by
    rw [← State.endWrites_seg (st := st) (c := c)]
    exact (same.seg g).fairness
  obtain ⟨reports, claims, seq, attn⟩ := State.endWrites_queue (s := s) (i := i) (j := j) (st := st) (c := c)
  have ended : (s.endWrites i j st c).jobAt i = some j' := State.endWrites_jobAt_self
  have placed : t = (s.endWrites i j st c).placeClaim (.jobEnded i) := State.endOne_eq job live
  have form : formReport (s.endWrites i j st c) (.jobEnded i) = some (0x81, jobEndedBody i _ j' _) :=
    formReport_jobEnded ended rfl
  have entered (entry : s.claims = [] ∨ 64 ≤ s.reports.length) : t = { s.endWrites i j st c with
      reports := t.reports, claims := t.claims, nextSeq := t.nextSeq, attn := t.attn } := by
    by_cases full : 64 ≤ s.reports.length
    · rw [placed, State.placeClaim_full (reports ▸ full)]
    · have none : (s.endWrites i j st c).claims = [] := claims.trans (entry.resolve_right full)
      rw [placed, State.placeClaim_room none (by rw [reports]; omega) form]
      rfl
  refine ⟨(jobAt i).trans ended, fun k other => ?others, calm.gen, calm.poolFree, calm.accepted, fun queued => ?queued,
    fun other g cl => ?lists, fun g other => ?counts, fun g cl other => ?elsewhere, ?held, fun current => ?current,
    fun none room => ?room, fun full => ?full, fun entry => ?rest⟩
  case others =>
    rw [jobAt, State.endWrites_jobAt_ne other]
    simp only [Job.visited, State.idAt, decide_eq_true_eq]
  case queued =>
    have dequeued : (s.seg j.segment).leaves i j = (s.seg j.segment).dequeue j.cls i := by
      simp only [Segment.leaves, queued]
    simp only [classList, fairness, if_pos, dequeued, Segment.dequeue_classList]
    refine ⟨by simp, fun ahead behind list ha hb => ?_, fun k other => if_neg other, ?_⟩
    · rw [list, filter_ne_of_once ha hb]
    · have routine : (t.seg j.segment).routine = ((s.seg j.segment).dequeue j.cls i).routine := by
        have := classList j.segment .routine
        rwa [if_pos rfl, dequeued] at this
      rw [routine]
      exact Segment.dequeue_fairness _ _ _
  case lists =>
    rw [classList]
    split
    · exact (Segment.leaves_of_not_queued other cl).1
    · rfl
  case counts =>
    rw [fairness]
    split
    · next here => exact (Segment.leaves_of_not_queued (other.resolve_left (not_not_intro here)) .urgent).2
    · rfl
  case elsewhere => rw [classList, if_neg other]
  case held => rw [same.heldSet, State.endWrites_heldSet]
  case current =>
    have dropped : (s.endWrites i j st c).seg j.segment = (s.seg j.segment).dropCurrent := by
      rw [State.endWrites_seg, if_pos rfl]
      rcases current with h | h <;> simp only [Segment.leaves, h]
    have here := same.seg j.segment
    rw [dropped] at here
    exact ⟨here.current, here.backoffTimer, here.backoffExpired⟩
  case room =>
    have report := State.placeClaim_room (claims.trans none) (by rw [reports]; omega) form
    rw [← placed, reports, seq] at report
    have reformed : formReport t (.jobEnded i) = some (0x81, _) :=
      formReport_jobEnded ((jobAt i).trans ended) rfl
    have gen : t.genAt i = (s.endWrites i j st c).genAt i := by rw [State.genAt, State.genAt, same.slots]
    rw [gen] at reformed
    refine ⟨?_, congrArg State.nextSeq report, congrArg State.attn report, _, reformed, congrArg State.reports report⟩
    exact (congrArg State.claims report).trans (claims.trans none)
  case full =>
    rw [placed, State.placeClaim_full (reports ▸ full)]
    exact ⟨by rw [claims], reports, seq, attn⟩
  case rest =>
    refine ⟨fun g => ?_, ?_⟩
    · intro left
      have here : t.seg g = if g = j.segment then (s.seg g).leaves i j else s.seg g := by
        rw [entered entry, ← State.endWrites_seg (st := st) (c := c)]
        rfl
      rw [here]
      by_cases own : g = j.segment
      · simp only [own, if_true, left, true_and]
        exact Segment.leaves_eq _ i j
      · simp only [own, if_false, left, false_and]
    · have writes := State.endWrites_eq (s := s) (i := i) (j := j) (st := st) (c := c)
      have after := entered entry
      rw [writes] at after
      rw [after]

end Sys2Proof.Machine

/-!
Dispatch: the levels of Table 3-1, resolution by Table 5-1, and the choice points that close an action.
-/

namespace Sys2Proof.Machine

/-! ### The levels of Table 3-1 -/

section Levels

variable {s : State} {g : Seg}

/-- Level 1 (R30). -/
theorem State.resumable_eq_some_iff {i : Slot} : s.resumable g = some i ↔
    (s.seg g).current = some i ∧ (s.seg g).backoffExpired = true ∧ ∃ j, s.jobAt i = some j ∧ j.state = .backoff := by
  unfold State.resumable
  cases current : (s.seg g).current with
  | none => simp
  | some k =>
    simp only [Option.ite_none_right_eq_some, Option.some.injEq]
    constructor
    · rintro ⟨⟨expired, backoff⟩, rfl⟩
      exact ⟨rfl, expired, by simpa [Option.any_eq_true] using backoff⟩
    · rintro ⟨rfl, expired, j, job, backoff⟩
      exact ⟨⟨expired, by simp [job, backoff]⟩, rfl⟩

theorem Segment.queryDue_iff {sg : Segment} :
    sg.queryDue = true ↔ sg.notice.state = .watching ∧ sg.noticeLine = true ∧ sg.notice.claim = none := by
  simp [Segment.queryDue, and_assoc]

theorem Segment.enrolDue_iff {sg : Segment} :
    sg.enrolDue = true ↔ sg.engine.state ≠ .none ∧ sg.engine.retryWait = none ∧ sg.current = none := by
  simp [Segment.enrolDue, Engine.busy, and_assoc]

theorem Segment.selectDue_iff {sg : Segment} :
    sg.selectDue = true ↔ sg.engine.state = .none ∧ sg.current = none ∧ (sg.urgent ≠ [] ∨ sg.routine ≠ []) := by
  simp only [Segment.selectDue, Engine.busy, Bool.and_eq_true, Bool.or_eq_true, Bool.not_eq_true', Option.isNone_iff_eq_none,
    List.isEmpty_eq_false_iff, bne_eq_false_iff_eq, and_left_comm, and_assoc]

theorem Segment.probeAllowed_iff {sg : Segment} :
    sg.probeAllowed = true ↔ sg.current = none ∧ sg.urgent = [] ∧ sg.routine = [] := by
  simp [Segment.probeAllowed, and_assoc]

/-- The lowest handle of a segment with probe due set (R98). -/
theorem State.probeHandle_eq_some {h : Handle} {e : Entry} (entry : s.entryAt h = some e) (segment : e.segment = g)
    (due : e.probeDue = true)
    (lowest : ∀ k f, k < h → s.entryAt k = some f → f.segment = g → f.probeDue = false) : s.probeHandle g = some h := by
  refine find_finRange_eq_some_iff.mpr ⟨by simp [entry, segment, due], fun k hk => ?_⟩
  cases other : s.entryAt k with
  | none => rfl
  | some f => simpa using fun here => lowest k f hk other here

theorem State.probeHandle_eq_none (nowhere : ∀ h e, s.entryAt h = some e → e.segment = g → e.probeDue = false) :
    s.probeHandle g = none := by
  refine find_finRange_eq_none_iff.mpr fun k => ?_
  cases other : s.entryAt k with
  | none => rfl
  | some f => simpa using fun here => nowhere k f other here

/-- Table 3-1 in its order. -/
theorem State.pick_resume {i : Slot} (one : s.resumable g = some i) : s.pick g = .resume i := by
  simp [State.pick, one]

theorem State.pick_query (one : s.resumable g = none) (two : (s.seg g).queryDue = true) : s.pick g = .query := by
  simp [State.pick, one, two]

variable (one : s.resumable g = none) (two : ¬ (s.seg g).queryDue = true)
include one two

theorem State.pick_enrol (three : (s.seg g).enrolDue = true) : s.pick g = .enrol := by
  simp [State.pick, one, two, three]

theorem State.pick_select (three : ¬ (s.seg g).enrolDue = true) (four : (s.seg g).selectDue = true) :
    s.pick g = (s.seg g).selection := by
  simp [State.pick, one, two, three, four]

theorem State.pick_probe (three : ¬ (s.seg g).enrolDue = true) (four : ¬ (s.seg g).selectDue = true)
    (five : (s.seg g).probeAllowed = true) {h : Handle} (found : s.probeHandle g = some h) : s.pick g = .probe h := by
  simp [State.pick, one, two, three, four, five, found]

theorem State.pick_nothing (three : ¬ (s.seg g).enrolDue = true) (four : ¬ (s.seg g).selectDue = true)
    (five : (s.seg g).probeAllowed = true → s.probeHandle g = none) : s.pick g = .nothing := by
  by_cases allowed : (s.seg g).probeAllowed = true
  · simp [State.pick, one, two, three, four, allowed, five allowed]
  · simp [State.pick, one, two, three, four, allowed]

end Levels

/-- The engine's side of a command that is handed (R108). -/
theorem Engine.handed_eq (e : Engine) : e.handed = { e with
    state := if e.state = .pending then (if e.work = some .forget then .forgetting else .calling) else e.state } := by
  unfold Engine.handed
  by_cases pending : e.state = .pending
  · cases work : e.work with
    | none => simp [pending]
    | some w => cases w <;> simp [pending]
  · simp only [pending, if_false]
    split
    · next h _ => exact absurd h pending
    · next h _ => exact absurd h pending
    · rfl

/-- The job that R31 takes, and what it leaves of the lists. -/
theorem Segment.select_urgent {sg : Segment} {u : Slot} {rest : List Slot} (list : sg.urgent = u :: rest)
    (turn : sg.routine = [] ∨ sg.fairness ≠ 4) : sg.selection = .select .urgent u ∧
      sg.select .urgent u = { sg with
        urgent := rest, current := some u, fairness := if sg.routine = [] then 0 else sg.fairness + 1 } := by
  refine ⟨?_, by simp [Segment.select, list]⟩
  cases routine : sg.routine with
  | nil => simp only [Segment.selection, list, routine]
  | cons r rs =>
    have other : sg.fairness ≠ 4 := turn.resolve_left (by simp [routine])
    simp only [Segment.selection, list, routine, Config.fairnessLimit]
    exact if_neg other

theorem Segment.select_routine {sg : Segment} {r : Slot} {rest : List Slot} (list : sg.routine = r :: rest)
    (turn : sg.urgent = [] ∨ sg.fairness = 4) : sg.selection = .select .routine r ∧
      sg.select .routine r = { sg with routine := rest, current := some r, fairness := 0 } := by
  refine ⟨?_, by simp [Segment.select, list]⟩
  cases urgent : sg.urgent with
  | nil => simp only [Segment.selection, list, urgent]
  | cons u us =>
    have four : sg.fairness = 4 := turn.resolve_left (by simp [urgent])
    simp only [Segment.selection, list, urgent, Config.fairnessLimit]
    exact if_pos four

/-- Settles O32, level by level. -/
theorem choiceTakesFirstLevel : Obligations.ChoiceTakesFirstLevel := by
  unfold Obligations.ChoiceTakesFirstLevel
  intro s g idle free sg resumes queries enrols selects
  have chooses {w : Work} (picked : s.pick g = w) : s.choicePoint g = s.handWork g w := by
    have ready : (s.seg g).ready = true := by simp [Segment.ready, idle, free]
    rw [State.choicePoint, if_pos ready, picked]
  have past1 (not : ¬ resumes) : s.resumable g = none := by
    cases picked : s.resumable g with
    | none => rfl
    | some i =>
      obtain ⟨current, expired, j, job, backoff⟩ := State.resumable_eq_some_iff.mp picked
      exact absurd ⟨i, j, current, expired, job, backoff⟩ not
  have past2 (not : ¬ queries) : ¬ sg.queryDue = true := not ∘ Segment.queryDue_iff.mp
  have past3 (not : ¬ enrols) : ¬ sg.enrolDue = true := not ∘ Segment.enrolDue_iff.mp
  have past4 (not : ¬ selects) : ¬ sg.selectDue = true := not ∘ Segment.selectDue_iff.mp
  have idles (urgent : sg.urgent = []) (routine : sg.routine = []) : ¬ selects := by
    rintro ⟨-, -, some⟩
    simp [urgent, routine] at some
  refine ⟨fun i j current expired job backoff => ?resume, fun one query => ?query, fun one two enrol => ?enrol,
    fun one two three select => ⟨fun u rest list turn => ?urgent, fun r rest list turn => ?routine⟩,
    fun one two three current urgent routine => ⟨fun h e entry segment due lowest => ?probe, fun nowhere => ?nothing⟩,
    fun one two three four waits => ?waits⟩
  case resume => exact chooses (State.pick_resume (State.resumable_eq_some_iff.mpr ⟨current, expired, j, job, backoff⟩))
  case query => exact chooses (State.pick_query (past1 one) (Segment.queryDue_iff.mpr query))
  case enrol =>
    rw [chooses (State.pick_enrol (past1 one) (past2 two) (Segment.enrolDue_iff.mpr enrol))]
    simp only [State.handWork, Engine.handed_eq]
  case urgent =>
    obtain ⟨picked, selected⟩ := Segment.select_urgent list turn
    refine (chooses ((State.pick_select (past1 one) (past2 two) (past3 three)
      (Segment.selectDue_iff.mpr select)).trans picked)).trans ?_
    exact congrArg (fun t : State => (t.modJob u fun j => { j with state := .active }).handAttempt g u)
      (State.modSeg_congr s g selected)
  case routine =>
    obtain ⟨picked, selected⟩ := Segment.select_routine list turn
    refine (chooses ((State.pick_select (past1 one) (past2 two) (past3 three)
      (Segment.selectDue_iff.mpr select)).trans picked)).trans ?_
    exact congrArg (fun t : State => (t.modJob r fun j => { j with state := .active }).handAttempt g r)
      (State.modSeg_congr s g selected)
  case probe =>
    rw [chooses (State.pick_probe (past1 one) (past2 two) (past3 three) (past4 (idles urgent routine))
      (Segment.probeAllowed_iff.mpr ⟨current, urgent, routine⟩)
      (State.probeHandle_eq_some entry segment due lowest))]
    simp only [State.handWork, entry]
  case nothing =>
    exact chooses (State.pick_nothing (past1 one) (past2 two) (past3 three) (past4 (idles urgent routine)) fun _ =>
      State.probeHandle_eq_none nowhere)
  case waits =>
    refine chooses (State.pick_nothing (past1 one) (past2 two) (past3 three) (past4 four) fun allowed => ?_)
    obtain ⟨current, urgent, routine⟩ := Segment.probeAllowed_iff.mp allowed
    simp [sg, current, urgent, routine] at waits

/-! ### Resolution -/

/-- Settles O34, by the target and the tests of Table 5-1. -/
theorem attemptResolvedBeforeTheBus : Obligations.AttemptResolvedBeforeTheBus := by
  unfold Obligations.AttemptResolvedBeforeTheBus
  intro s g i j job goes ends
  have resolves {a : Addr} (h : s.resolve j = .address a) : s.handAttempt g i = goes a := by
    simp only [State.handAttempt, job, h, goes]
  have stops {st : EndStatus} (h : s.resolve j = .ends st) : s.handAttempt g i = ends st := by
    simp only [State.handAttempt, job, h, ends]
  refine ⟨fun a raw => resolves (by simp [State.resolve, raw]), fun h target => ⟨fun gone => stops ?_,
    fun e entry stays => ⟨fun missing => stops ?_, fun present moved => stops ?_, fun present here => resolves ?_⟩⟩⟩
  · rcases gone with gone | pending
    · simp [State.resolve, target, gone]
    · cases entry : s.entryAt h <;> simp [State.resolve, target, entry, pending]
  · simp [State.resolve, target, entry, stays, missing]
  · simp [State.resolve, target, entry, stays, present, moved]
  · simp [State.resolve, target, entry, stays, present, here]

end Sys2Proof.Machine

/-!
The choice points of one action come to an end: each takes a job from a list or from BACKOFF, or hands its activity, and
none brings a job to be taken (R29, log entry 4).
-/

namespace Sys2Proof.Machine

/-- A choice point is due at most once for each segment, also after claims enter the Report Queue. -/
theorem State.markChoice_nodup {s : State} (h : s.choiceDue.Nodup) (g : Seg) : (s.markChoice g).choiceDue.Nodup := by
  unfold State.markChoice
  split
  · exact h
  · next new => exact List.nodup_append.mpr ⟨h, List.nodup_singleton g, by simpa using fun k hk (e : k = g) => new (e ▸ hk)⟩

theorem clearClaim_nodup {s : State} (h : s.choiceDue.Nodup) (c : Claimant) : (clearClaim s c).choiceDue.Nodup := by
  cases c with
  | notice g =>
    simp only [clearClaim, State.noticeChoice]
    split
    · exact State.markChoice_nodup (s := s.modSeg g _) h g
    · exact h
  | _ => exact h

theorem takeClaims_nodup (n : Nat) {s : State} (h : s.choiceDue.Nodup) : (takeClaims n s).choiceDue.Nodup := by
  induction n generalizing s with
  | zero => exact h
  | succ n ih =>
    unfold takeClaims
    split
    · refine ih ?_
      unfold takeOldestClaim
      split
      · exact h
      · split
        · exact h
        · next c rest _ _ _ _ => exact clearClaim_nodup (s := { s with claims := rest }) h c
    · exact h

theorem State.placeClaim_nodup {s : State} (h : s.choiceDue.Nodup) (c : Claimant) : (s.placeClaim c).choiceDue.Nodup :=
  takeClaims_nodup _ (s := { s with claims := _ }) h

/-! ### No new work -/

/-- A job is in BACKOFF. -/
def State.inBackoff (s : State) (i : Slot) : Bool := (s.jobAt i).any (·.state == .backoff)

/-- `t` has at most the QUEUED jobs and the jobs in BACKOFF that `s` has. -/
structure State.NoNewWork (t s : State) : Prop where
  lists : ∀ g c, ((t.seg g).classList c).length ≤ ((s.seg g).classList c).length
  backoff : ∀ i, t.inBackoff i = true → s.inBackoff i = true
  due : s.choiceDue.Nodup → t.choiceDue.Nodup

@[refl] theorem State.NoNewWork.refl (s : State) : s.NoNewWork s := ⟨fun _ _ => le_rfl, fun _ => id, id⟩

theorem State.NoNewWork.trans {a b c : State} (h : a.NoNewWork b) (k : b.NoNewWork c) : a.NoNewWork c :=
  ⟨fun g cl => (h.lists g cl).trans (k.lists g cl), fun i => k.backoff i ∘ h.backoff i, h.due ∘ k.due⟩

theorem State.NoNewWork.markChoice (s : State) (g : Seg) : (s.markChoice g).NoNewWork s :=
  ⟨fun k c => by rw [State.markChoice_seg], fun i => by simp [State.inBackoff, State.jobAt],
    fun h => State.markChoice_nodup h g⟩

theorem State.NoNewWork.modSeg (s : State) (g : Seg) {f : Segment → Segment}
    (h : ∀ c, ((f (s.seg g)).classList c).length ≤ ((s.seg g).classList c).length) : (s.modSeg g f).NoNewWork s :=
  ⟨State.forall_seg_modSeg (R := fun a b => ∀ c, (a.classList c).length ≤ (b.classList c).length) (fun _ _ => le_rfl) s g h,
    fun _ => id, id⟩

/-- A job record written that is not in BACKOFF. -/
theorem State.NoNewWork.modJob (s : State) (i : Slot) {f : Job → Job}
    (h : ∀ j, s.jobAt i = some j → (f j).state = .backoff → j.state = .backoff) : (s.modJob i f).NoNewWork s := by
  refine ⟨fun _ _ => le_rfl, fun k => ?_, id⟩
  unfold State.inBackoff
  by_cases same : k = i
  · subst same
    cases job : s.jobAt k with
    | none => simp [job]
    | some j => simpa [job] using h j job
  · rw [State.jobAt_modJob_ne _ _ _ _ same]
    exact id

theorem Segment.leaves_lists (sg : Segment) (i : Slot) (j : Job) (c : JobClass) :
    ((sg.leaves i j).classList c).length ≤ (sg.classList c).length := by
  by_cases queued : j.state = .queued
  · simp only [Segment.leaves, queued, Segment.dequeue_classList]
    split
    · exact List.length_filter_le _ _
    · exact le_rfl
  · rw [(Segment.leaves_of_not_queued queued c).1]

/-- The end of one job. -/
theorem State.NoNewWork.endOne (s : State) (i : Slot) (st : EndStatus) (c : EndCounts) : (s.endOne i st c).NoNewWork s := by
  cases job : s.jobAt i with
  | none => simp only [State.endOne, job]; rfl
  | some j =>
    by_cases ended : j.state = .ended
    · rw [State.endOne_ended job ended]
    have same := State.endOne_sameButClaims (st := st) (c := c) job ended
    refine ⟨fun g cl => ?_, fun k => ?_, fun h => ?_⟩
    · have classList : ((s.endOne i st c).seg g).classList cl = ((s.endWrites i j st c).seg g).classList cl := by
        cases cl
        · exact (same.seg g).urgent
        · exact (same.seg g).routine
      rw [classList, State.endWrites_seg]
      split
      · exact Segment.leaves_lists _ i j cl
      · exact le_rfl
    · have jobAt : (s.endOne i st c).jobAt k = (s.endWrites i j st c).jobAt k := by rw [State.jobAt, State.jobAt, same.slots]
      rw [State.inBackoff, State.inBackoff, jobAt]
      by_cases own : k = i
      · subst own
        simp [State.endWrites_jobAt_self, Job.ended]
      · rw [State.endWrites_jobAt_ne own]
        cases s.jobAt k with
        | none => exact id
        | some p => simp only [Option.map_some, Option.any_some, Job.visited]; split <;> exact id
    · rw [State.endOne_eq job ended]
      refine State.placeClaim_nodup ?_ _
      rw [State.endWrites_eq]
      show (if _ then _ else s : State).choiceDue.Nodup
      split
      · exact State.markChoice_nodup h _
      · exact h

/-- The end of a job that did not end OK, with its cascade (R25). -/
theorem State.NoNewWork.endJob (s : State) (i : Slot) {st : EndStatus} (c : EndCounts) (failed : st ≠ .ok) :
    (s.endJob i st c).NoNewWork s := by
  rw [State.endJob, if_neg failed]
  refine State.NoNewWork.trans ?_ (.endOne s i st c)
  unfold State.cascade
  generalize (s.endOne i st c).accepted = slots
  generalize s.endOne i st c = t
  induction slots generalizing t with
  | nil => rfl
  | cons k slots ih =>
    refine (ih _).trans ?_
    dsimp only
    split
    · exact .endOne t k _ _
    · rfl

/-! ### The work of one choice -/

/-- The jobs that a choice can take: those of the class lists, and those in BACKOFF. -/
def State.waiting (s : State) : List Slot :=
  (allSegs.flatMap fun g => (s.seg g).urgent ++ (s.seg g).routine) ++ allSlots.filter s.inBackoff

/-- The jobs in the class lists of a segment. -/
def Segment.queueLength (sg : Segment) : Nat := sg.urgent.length + sg.routine.length

theorem State.waiting_length (s : State) : s.waiting.length =
    (s.seg 0).queueLength + (s.seg 1).queueLength + (s.seg 2).queueLength + (s.seg 3).queueLength +
      (allSlots.filter s.inBackoff).length := by
  simp [State.waiting, allSegs, Segment.queueLength, Nat.add_assoc]

theorem State.NoNewWork.backoff_length {t s : State} (h : t.NoNewWork s) :
    (allSlots.filter t.inBackoff).length ≤ (allSlots.filter s.inBackoff).length := by
  rw [← List.countP_eq_length_filter, ← List.countP_eq_length_filter]
  exact List.countP_mono_left fun i _ => h.backoff i

theorem State.NoNewWork.waiting {t s : State} (h : t.NoNewWork s) : t.waiting.length ≤ s.waiting.length := by
  have queues (g : Seg) : (t.seg g).queueLength ≤ (s.seg g).queueLength :=
    Nat.add_le_add (h.lists g .urgent) (h.lists g .routine)
  rw [State.waiting_length, State.waiting_length]
  exact Nat.add_le_add (Nat.add_le_add (Nat.add_le_add (Nat.add_le_add (queues 0) (queues 1)) (queues 2)) (queues 3))
    h.backoff_length

/-- No new work, and one job fewer in a list. -/
theorem State.NoNewWork.waiting_lt {t s : State} (h : t.NoNewWork s) (g : Seg)
    (shorter : (t.seg g).queueLength < (s.seg g).queueLength) : t.waiting.length < s.waiting.length := by
  have queues (g : Seg) : (t.seg g).queueLength ≤ (s.seg g).queueLength :=
    Nat.add_le_add (h.lists g .urgent) (h.lists g .routine)
  have := h.backoff_length
  have := queues 0; have := queues 1; have := queues 2; have := queues 3
  rw [State.waiting_length, State.waiting_length]
  have which : ∀ g : Seg, g = 0 ∨ g = 1 ∨ g = 2 ∨ g = 3 := by decide
  rcases which g with rfl | rfl | rfl | rfl <;> omega

theorem State.resolve_ends {s : State} {j : Job} {st : EndStatus} (h : s.resolve j = .ends st) : st ≠ .ok := by
  rintro rfl
  unfold State.resolve at h
  repeat' split at h
  all_goals cases h

theorem State.NoNewWork.handActivity (s : State) (g : Seg) (a : Activity) : (s.handActivity g a).NoNewWork s := by
  refine .modSeg s g fun c => ?_
  unfold Segment.hand Segment.driveStart
  cases c <;> split <;> exact le_rfl

theorem State.NoNewWork.handAttempt (s : State) (g : Seg) (i : Slot) : (s.handAttempt g i).NoNewWork s := by
  unfold State.handAttempt
  split
  · rfl
  · split
    · next fails => exact (State.NoNewWork.markChoice _ g).trans (.endJob s i _ (State.resolve_ends fails))
    · exact (State.NoNewWork.handActivity _ g _).trans (.modJob s i fun _ _ => id)

/-- The end of a wait in BACKOFF leaves one job fewer to be taken. -/
theorem State.waiting_resume {s : State} {i : Slot} {j : Job} (job : s.jobAt i = some j) (backoff : j.state = .backoff) :
    (s.modJob i fun j => { j with state := .active }).waiting.length < s.waiting.length := by
  have inBackoff : s.inBackoff i = true := by simp [State.inBackoff, job, backoff]
  have left (k : Slot) : (s.modJob i fun j => { j with state := .active }).inBackoff k = (k != i && s.inBackoff k) := by
    by_cases same : k = i
    · subst same
      simp [State.inBackoff, job]
    · simp [State.inBackoff, State.jobAt_modJob_ne _ _ _ _ same, same]
  have fewer : (allSlots.filter (s.modJob i fun j => { j with state := .active }).inBackoff).length <
      (allSlots.filter s.inBackoff).length := by
    rw [funext left, ← List.filter_filter]
    exact List.length_filter_lt_length_iff_exists.mpr
      ⟨i, List.mem_filter.mpr ⟨List.mem_finRange i, inBackoff⟩, by simp⟩
  rw [State.waiting_length, State.waiting_length]
  exact Nat.add_lt_add_left fewer _

theorem Segment.select_shorter {sg : Segment} {c : JobClass} {i : Slot} (taken : sg.selection = .select c i) :
    (sg.select c i).queueLength < sg.queueLength := by
  unfold Segment.selection at taken
  split at taken
  · cases taken
  · next urgent routine => cases taken; simp [Segment.select, Segment.queueLength, urgent, routine]
  · next urgent routine => cases taken; simp [Segment.select, Segment.queueLength, urgent, routine]
  · next urgent routine =>
    split at taken <;> cases taken <;> simp [Segment.select, Segment.queueLength, urgent, routine]

/-- A selection takes one job from its list. -/
theorem State.waiting_select {s : State} {g : Seg} {c : JobClass} {i : Slot}
    (taken : (s.seg g).selection = .select c i) :
    ((s.modSeg g (·.select c i)).modJob i fun j => { j with state := .active }).waiting.length < s.waiting.length := by
  have lists : (s.modSeg g (·.select c i)).NoNewWork s := .modSeg s g fun k => by
    cases c <;> cases k <;> simp [Segment.select, Segment.classList]
  refine ((State.NoNewWork.modJob _ i fun _ _ active => by cases active).trans lists).waiting_lt g ?_
  rw [State.modJob_seg, State.seg_modSeg_self]
  exact Segment.select_shorter taken

theorem State.pick_eq_resume {s : State} {g : Seg} {i : Slot} (h : s.pick g = .resume i) : s.resumable g = some i := by
  unfold State.pick Segment.selection at h
  repeat' split at h
  all_goals cases h
  assumption

theorem State.pick_eq_select {s : State} {g : Seg} {c : JobClass} {i : Slot} (h : s.pick g = .select c i) :
    (s.seg g).selection = .select c i := by
  unfold State.pick at h
  repeat' split at h
  all_goals first | exact h | cases h

/-- A choice takes a job, or leaves the choice points due as they are. -/
theorem State.choicePoint_progress (s : State) (g : Seg) : (s.choicePoint g).waiting.length < s.waiting.length ∨
    ((s.choicePoint g).waiting.length ≤ s.waiting.length ∧ (s.choicePoint g).choiceDue = s.choiceDue) := by
  unfold State.choicePoint
  split
  · cases work : s.pick g with
    | resume i =>
      obtain ⟨-, -, j, job, backoff⟩ := State.resumable_eq_some_iff.mp (State.pick_eq_resume work)
      have attempt := (State.NoNewWork.handAttempt ((s.modJob i fun j => { j with state := .active }).modSeg g fun sg =>
        { sg with backoffExpired := false }) g i).trans (.modSeg _ g fun c => by cases c <;> exact le_rfl)
      exact .inl (attempt.waiting.trans_lt (State.waiting_resume job backoff))
    | select c i =>
      have attempt := State.NoNewWork.handAttempt ((s.modSeg g (·.select c i)).modJob i fun j => { j with state := .active })
        g i
      exact .inl (attempt.waiting.trans_lt (State.waiting_select (State.pick_eq_select work)))
    | query | enrol =>
      exact .inr ⟨((State.NoNewWork.handActivity _ g _).trans (.modSeg s g fun c => by cases c <;> exact le_rfl)).waiting, rfl⟩
    | probe h =>
      simp only [State.handWork]
      split
      · exact .inr ⟨(State.NoNewWork.handActivity s g _).waiting, rfl⟩
      · exact .inr ⟨le_rfl, rfl⟩
    | nothing => exact .inr ⟨le_rfl, rfl⟩
  · exact .inr ⟨le_rfl, rfl⟩

theorem State.choicePoint_nodup {s : State} (h : s.choiceDue.Nodup) (g : Seg) : (s.choicePoint g).choiceDue.Nodup := by
  unfold State.choicePoint
  split
  · cases s.pick g with
    | resume i => exact (State.NoNewWork.handAttempt _ g i).due h
    | select c i => exact (State.NoNewWork.handAttempt _ g i).due h
    | probe k =>
      simp only [State.handWork]
      split <;> exact h
    | query | enrol | nothing => exact h
  · exact h

/-! ### The end of an action -/

/-- The choices that an action can still give rise to. -/
def State.choicesLeft (s : State) : Nat := 4 * s.waiting.length + s.choiceDue.length

theorem State.choicesLeft_choicePoint {s : State} {g : Seg} {rest : List Seg} (nodup : s.choiceDue.Nodup)
    (due : s.choiceDue = g :: rest) :
    (State.choicePoint { s with choiceDue := rest } g).choicesLeft < s.choicesLeft ∧
      (State.choicePoint { s with choiceDue := rest } g).choiceDue.Nodup := by
  have nodup' : rest.Nodup := (List.nodup_cons.mp (due ▸ nodup)).2
  have after := State.choicePoint_nodup (s := { s with choiceDue := rest }) nodup' g
  refine ⟨?_, after⟩
  have few := after.length_le_card
  have same : State.waiting { s with choiceDue := rest } = s.waiting := rfl
  have count : s.choiceDue.length = rest.length + 1 := by rw [due]; rfl
  unfold State.choicesLeft
  rcases State.choicePoint_progress { s with choiceDue := rest } g with fewer | ⟨least, left⟩
  · rw [same] at fewer
    rw [Fintype.card_fin] at few
    omega
  · rw [same] at least
    have left' := congrArg List.length left
    simp only at left'
    omega

/-- More turns than there are choices left change nothing. -/
theorem State.settleChoices_succ (n : Nat) {s : State} (nodup : s.choiceDue.Nodup) (enough : s.choicesLeft ≤ n) :
    State.settleChoices (n + 1) s = State.settleChoices n s := by
  induction n generalizing s with
  | zero =>
    have none : s.choiceDue = [] := List.length_eq_zero_iff.mp (by unfold State.choicesLeft at enough; omega)
    simp [State.settleChoices, none]
  | succ n ih =>
    rw [State.settleChoices, State.settleChoices]
    cases due : s.choiceDue with
    | nil => rfl
    | cons g rest =>
      obtain ⟨fewer, nodup'⟩ := State.choicesLeft_choicePoint nodup due
      exact ih nodup' (by omega)

/-- No choice point is made where no segment that is due is ready. -/
theorem State.settleChoices_idle (n : Nat) {s : State} (enough : s.choiceDue.length ≤ n)
    (busy : ∀ g ∈ s.choiceDue, ¬ (s.seg g).ready = true) : State.settleChoices n s = { s with choiceDue := [] } := by
  induction n generalizing s with
  | zero =>
    have none : s.choiceDue = [] := List.length_eq_zero_iff.mp (by omega)
    rw [State.settleChoices, ← none]
  | succ n ih =>
    rw [State.settleChoices]
    cases due : s.choiceDue with
    | nil =>
      show s = { s with choiceDue := [] }
      rw [← due]
    | cons g rest =>
      have passed : State.choicePoint { s with choiceDue := rest } g = { s with choiceDue := rest } :=
        if_neg (busy g (by simp [due]))
      simp only [passed]
      exact ih (s := { s with choiceDue := rest }) (by simpa [due] using enough) fun k hk => busy k (by simp [due, hk])

/-- The jobs of the lists and those in BACKOFF are as many slots (R21). -/
theorem PlacesOk.waiting_le {s : State} (ok : PlacesOk s) : s.waiting.length ≤ 32 := by
  have queued {g : Seg} {i : Slot} (h : i ∈ (s.seg g).urgent ++ (s.seg g).routine) :
      ∃ j, s.jobAt i = some j ∧ j.state = .queued ∧ j.segment = g := by
    rcases List.mem_append.mp h with h | h
    · obtain ⟨j, job, state, segment, -⟩ := ((ok.lists g .urgent).2 i).mp h
      exact ⟨j, job, state, segment⟩
    · obtain ⟨j, job, state, segment, -⟩ := ((ok.lists g .routine).2 i).mp h
      exact ⟨j, job, state, segment⟩
  have once (g : Seg) : ((s.seg g).urgent ++ (s.seg g).routine).Nodup := by
    refine List.nodup_append.mpr ⟨(ok.lists g .urgent).1, (ok.lists g .routine).1, ?_⟩
    rintro i hu k hr rfl
    obtain ⟨j, job, -, -, urgent⟩ := ((ok.lists g .urgent).2 i).mp hu
    obtain ⟨j', job', -, -, routine⟩ := ((ok.lists g .routine).2 i).mp hr
    cases job.symm.trans job'
    cases urgent.symm.trans routine
  have apart : allSegs.Pairwise (Function.onFun List.Disjoint fun g => (s.seg g).urgent ++ (s.seg g).routine) := by
    have different : allSegs.Nodup := by decide
    refine different.imp fun {g k} other i hg hk => ?_
    obtain ⟨j, job, -, here⟩ := queued hg
    obtain ⟨j', job', -, there⟩ := queued hk
    cases job.symm.trans job'
    exact other (here.symm.trans there)
  have nodup : s.waiting.Nodup := by
    refine List.nodup_append.mpr ⟨List.nodup_flatMap.mpr ⟨fun g _ => once g, apart⟩, (List.nodup_finRange 32).filter _, ?_⟩
    rintro i hq k hb rfl
    obtain ⟨g, -, hg⟩ := List.mem_flatMap.mp hq
    obtain ⟨j, job, waits, -⟩ := queued hg
    have := (List.mem_filter.mp hb).2
    simp [State.inBackoff, job, waits] at this
  exact nodup.length_le_card.trans_eq (Fintype.card_fin 32)

/-- Settles O33: the choice points of an action end within its limit. -/
theorem noChoiceWithoutReadySegment : Obligations.NoChoiceWithoutReadySegment := by
  unfold Obligations.NoChoiceWithoutReadySegment
  have ready (s : State) (g : Seg) : (s.seg g).sc ≠ .idle ∨ (s.seg g).handed ≠ none ↔ ¬ (s.seg g).ready = true := by
    simp only [Segment.ready, Bool.and_eq_true, beq_iff_eq, Option.isNone_iff_eq_none, not_and_or, ne_eq]
  refine ⟨fun s g => ⟨fun due => if_pos due, fun new => if_neg new, fun busy => if_neg ((ready s g).mp busy)⟩,
    fun s few busy => ?idle, fun s g rest ok nodup due => ?next⟩
  case idle =>
    rw [State.settle, choiceLimit, State.settleChoices_idle _ few fun g hg => (ready s g).mp (busy g hg)]
  case next =>
    obtain ⟨fewer, nodup'⟩ := State.choicesLeft_choicePoint nodup due
    have waiting := ok.waiting_le
    have dueLength : s.choiceDue.length ≤ 4 := nodup.length_le_card.trans_eq (Fintype.card_fin 4)
    have enough : (State.choicePoint { s with choiceDue := rest } g).choicesLeft ≤ 255 := by
      unfold State.choicesLeft at fewer ⊢
      omega
    have first : State.settleChoices 256 s = State.settleChoices 255 (State.choicePoint { s with choiceDue := rest } g) := by
      rw [State.settleChoices, due]
    rw [State.settle, State.settle, choiceLimit, first, State.settleChoices_succ 255 nodup' enough]

end Sys2Proof.Machine

/-!
Transactions: what the parts of a transaction leave of its run as the bus answers them byte by byte (R63, R68 to R73).
-/

namespace Sys2Proof.Machine

/-! ### Bytes that pass -/

/-- A run that has passed some bytes to the phase `ph`: those covered by the check, those written and acknowledged, and
those read. -/
def TxRun.passed (r : TxRun) (ph : TxPhase) (covered : List Byte) (written : Nat) (got : List Byte) : TxRun :=
  { r with
    phase := ph, crc := covered.foldl crc8Byte r.crc, written := r.written + written, read := r.read ++ got }

@[simp] theorem TxRun.passed_nothing {r : TxRun} {ph : TxPhase} (h : r.phase = ph) : r.passed ph [] 0 [] = r := by
  subst h
  simp [TxRun.passed]

/-- The parts that a phase begins: an address byte begins one. -/
def TxPhase.begins : TxPhase → Nat
  | .address _ _ => 1
  | _ => 0

theorem TxRun.goTo_eq (r : TxRun) (ph : TxPhase) : r.goTo ph = { r with phase := ph, part := r.part + ph.begins } := by
  cases ph <;> rfl

section Passed

variable {d : TxDesc} {r : TxRun} {rest : List Part} (fine : r.refusedLast = false)
include fine

/-- Write bytes that are acknowledged, up to one that is not the last (R70). -/
theorem TxRun.answers_written {before after : List Byte} {b : Byte} (phase : r.phase = .data (before ++ b :: after) rest) :
    (before.map fun _ => BusAnswer.ack).foldl (TxRun.answer d) r =
      r.passed (.data (b :: after) rest) before before.length [] := by
  induction before generalizing r with
  | nil => exact (TxRun.passed_nothing phase).symm
  | cons x xs ih =>
    obtain ⟨y, ys, more⟩ : ∃ y ys, xs ++ b :: after = y :: ys := by cases xs <;> exact ⟨_, _, rfl⟩
    have first : r.answer d .ack = r.passed (.data (xs ++ b :: after) rest) [x] 1 [] := by
      rw [List.cons_append, more] at phase
      simp [TxRun.answer, phase, TxRun.passed, more, fine]
    rw [List.map_cons, List.foldl_cons, first, ih (r := r.passed _ _ _ _) fine rfl]
    simp [TxRun.passed, Nat.add_assoc, Nat.add_comm]

/-- The write bytes of a part, all acknowledged. -/
theorem TxRun.answers_write {bytes : List Byte} (phase : r.phase = .data bytes rest) (some : bytes ≠ []) :
    (bytes.map fun _ => BusAnswer.ack).foldl (TxRun.answer d) r =
      (r.passed r.phase bytes bytes.length []).goTo (afterWrite d.check rest) := by
  obtain ⟨before, b, rfl⟩ := (List.eq_nil_or_concat' bytes).resolve_left some
  rw [List.map_append, List.foldl_append, TxRun.answers_written fine phase]
  simp [TxRun.answer, TxRun.passed, TxRun.goTo_eq, fine, Nat.add_assoc]

omit fine

/-- Read bytes that are received, before the last (R71). -/
theorem TxRun.answers_received {n : Nat} {got : List Byte} (phase : r.phase = .recv n rest) (more : got.length < n) :
    (got.map BusAnswer.byte).foldl (TxRun.answer d) r = r.passed (.recv (n - got.length) rest) got 0 got := by
  induction got generalizing r n with
  | nil => exact (TxRun.passed_nothing phase).symm
  | cons x xs ih =>
    rw [List.length_cons] at more
    have first : r.answer d (.byte x) = r.passed (.recv (n - 1) rest) [x] 0 [x] := by
      have := show ¬ n ≤ 1 by omega
      simp [TxRun.answer, phase, TxRun.passed, this]
    rw [List.map_cons, List.foldl_cons, first, ih (r := r.passed _ _ _ _) rfl (by omega)]
    simp [TxRun.passed, Nat.sub_sub, Nat.add_comm]

/-- The bytes of a read part, all received. -/
theorem TxRun.answers_read {bytes : List Byte} (phase : r.phase = .recv bytes.length rest) (some : bytes ≠ []) :
    (bytes.map BusAnswer.byte).foldl (TxRun.answer d) r =
      (r.passed r.phase bytes 0 bytes).goTo (afterRead d.check rest) := by
  obtain ⟨before, b, rfl⟩ := (List.eq_nil_or_concat' bytes).resolve_left some
  rw [List.map_append, List.foldl_append, TxRun.answers_received phase (by simp)]
  simp [TxRun.answer, TxRun.passed, TxRun.goTo_eq]

/-- A count byte within max, with its bytes still to receive (R72). -/
theorem TxRun.answer_count {max : Nat} {c : Byte} (phase : r.phase = .count max rest) (few : c.toNat ≤ max)
    (some : c.toNat ≠ 0) : r.answer d (.byte c) = r.passed (.recv c.toNat rest) [c] 0 [c] := by
  simp [TxRun.answer, phase, Nat.not_lt.mpr few, some, TxRun.passed]

/-- The count byte of a counted read part and the bytes that it counts (R72). -/
theorem TxRun.answers_counted {max : Nat} {c : Byte} {bytes : List Byte} (phase : r.phase = .count max rest)
    (count : c.toNat = bytes.length) (few : bytes.length ≤ max) :
    (BusAnswer.byte c :: bytes.map BusAnswer.byte).foldl (TxRun.answer d) r =
      (r.passed r.phase (c :: bytes) 0 (c :: bytes)).goTo (afterRead d.check rest) := by
  rw [List.foldl_cons]
  by_cases none : bytes = []
  · subst none
    have zero : c.toNat = 0 := count
    simp [TxRun.answer, phase, zero, TxRun.passed]
  · have first := TxRun.answer_count (d := d) phase (count ▸ few) (by simpa [count] using none)
    rw [first, TxRun.answers_read (d := d) (rest := rest) (by simp [TxRun.passed, count]) none]
    simp [TxRun.passed, TxRun.goTo_eq]

end Passed

/-! ### Parts that are answered well -/

/-- What follows a part whose direction is `read`. -/
def afterPart (read check : Bool) (rest : List Part) : TxPhase := if read then afterRead check rest else afterWrite check rest

/-- The run of a transaction at the address `a` in which some parts have been answered well. -/
def TxRun.having (a : Addr) (legs : List Leg) (part : Nat) (ph : TxPhase) : TxRun where
  phase := ph
  part := part
  written := (legs.map Leg.written).sum
  read := legs.flatMap Leg.got
  crc := crc8 (legs.flatMap (Leg.covered a))
  addressAcks := legs.length
  refusedLast := false
  checkSent := false
  checkAcked := false
  checkByte := none
  matched := false

/-- A run into a part whose address byte is acknowledged (R69). -/
def TxRun.entered (r : TxRun) (a : Addr) (read : Bool) (ph : TxPhase) : TxRun :=
  { r with phase := ph, crc := crc8Byte r.crc (addressByte a read), addressAcks := r.addressAcks + 1, refusedLast := false }

theorem byteOf_toNat_of_lt {n : Nat} (h : n < 256) : (byteOf n).toNat = n := by
  simp [byteOf, Nat.mod_eq_of_lt h]

/-- One part, answered well from its address byte on. -/
theorem TxRun.answers_leg {d : TxDesc} {r : TxRun} {l : Leg} {rest : List Part} (phase : r.phase = .address l.part rest)
    (fits : l.fits = true) : l.answers.foldl (TxRun.answer d) r =
      ((r.entered d.address l.part.isRead r.phase).passed r.phase l.data l.written l.got).goTo
        (afterPart l.part.isRead d.check rest) := by
  have enters {p : Part} (phase : r.phase = .address p rest) : r.answer d .ack =
      (r.entered d.address p.isRead r.phase).goTo (intoPart d.check p rest) := by
    simp [TxRun.answer, phase, TxRun.entered]
  cases l with
  | wrote bytes =>
    show (bytes.map fun _ => BusAnswer.ack).foldl _ (r.answer d .ack) = _
    rw [enters phase, TxRun.goTo_eq, TxRun.goTo_eq]
    cases bytes with
    | nil => simp [Leg.part, Part.isRead, intoPart, afterPart, Leg.data, Leg.written, Leg.got, TxRun.passed, TxRun.entered]
    | cons b bytes =>
      rw [TxRun.answers_write (d := d) (rest := rest) rfl rfl (List.cons_ne_nil b bytes), TxRun.goTo_eq]
      simp [Leg.part, Part.isRead, afterPart, Leg.data, Leg.written, Leg.got, TxRun.passed, TxRun.entered, intoPart,
        TxPhase.begins]
  | gave bytes =>
    show (bytes.map BusAnswer.byte).foldl _ (r.answer d .ack) = _
    have some : bytes ≠ [] := by simpa [Leg.fits] using fits
    have into : intoPart d.check (Leg.gave bytes).part rest = .recv bytes.length rest := by
      obtain ⟨n, count⟩ : ∃ n, bytes.length = n + 1 := Nat.exists_eq_add_one.mpr (List.length_pos_iff.mpr some)
      simp [Leg.part, count, intoPart]
    rw [enters phase, TxRun.goTo_eq, TxRun.goTo_eq, into,
      TxRun.answers_read (d := d) (rest := rest) rfl some, TxRun.goTo_eq]
    rfl
  | counted max bytes =>
    obtain ⟨few, small⟩ : bytes.length ≤ max ∧ max ≤ 254 := by simpa [Leg.fits] using fits
    show (BusAnswer.byte (byteOf bytes.length) :: bytes.map BusAnswer.byte).foldl _ (r.answer d .ack) = _
    rw [enters phase, TxRun.goTo_eq, TxRun.goTo_eq,
      TxRun.answers_counted (d := d) (rest := rest) (max := max) rfl (byteOf_toNat_of_lt (by omega)) few, TxRun.goTo_eq]
    rfl

/-- The parts before the one in hand, all answered well, from the start of the transaction. -/
theorem runTx_legs {a : Addr} {legs : List Leg} {p : Part} {rest : List Part} {check : Bool}
    (fits : ∀ l ∈ legs, l.fits = true) :
    runTx ⟨a, legs.map Leg.part ++ p :: rest, check⟩ (legs.flatMap Leg.answers) =
      TxRun.having a legs legs.length (.address p rest) := by
  induction legs using List.reverseRecOn generalizing p rest with
  | nil => rfl
  | append_singleton legs l ih =>
    obtain ⟨before, fit⟩ := List.forall_mem_append.mp fits
    have first := ih (p := l.part) (rest := p :: rest) before
    simp only [List.map_append, List.map_cons, List.map_nil, List.append_assoc, List.singleton_append,
      List.flatMap_append, runTx_append, first, List.flatMap_singleton]
    rw [TxRun.answers_leg (rest := p :: rest) rfl (fit l (List.mem_singleton_self l)), TxRun.goTo_eq]
    have next : afterPart l.part.isRead check (p :: rest) = .address p rest := by
      unfold afterPart
      split <;> rfl
    simp [TxRun.having, next, TxRun.passed, TxRun.entered, TxPhase.begins, crc8, Leg.covered]

/-- All parts answered well. -/
theorem runTx_all {a : Addr} {legs : List Leg} {last : Leg} {check : Bool} (fits : ∀ l ∈ legs ++ [last], l.fits = true) :
    runTx ⟨a, (legs ++ [last]).map Leg.part, check⟩ ((legs ++ [last]).flatMap Leg.answers) =
      TxRun.having a (legs ++ [last]) legs.length (afterPart last.part.isRead check []) := by
  obtain ⟨before, fit⟩ := List.forall_mem_append.mp fits
  have first := runTx_legs (a := a) (p := last.part) (rest := []) (check := check) before
  simp only [List.map_append, List.map_cons, List.map_nil, List.flatMap_append, runTx_append, first, List.flatMap_singleton]
  rw [TxRun.answers_leg (rest := []) rfl (fit last (List.mem_singleton_self last)), TxRun.goTo_eq]
  have ends : (afterPart last.part.isRead check []).begins = 0 := by
    unfold afterPart afterRead afterWrite
    cases last.part.isRead <;> cases check <;> rfl
  simp [TxRun.having, ends, TxRun.passed, TxRun.entered, crc8, Leg.covered]

/-! ### Descriptions -/

/-- The part that a step is, where `bytes` are the write data from the step on. -/
def JobStep.partFrom (bytes : List Byte) : JobStep → Part
  | .write n => .write (bytes.take n)
  | .read n => .read n
  | .countedRead max => .counted max

/-- A step takes its bytes after those that the steps before it need. -/
theorem partsOf_getElem {steps : List JobStep} {bytes : List Byte} {k : Nat} {st : JobStep} {need : JobStep → Nat}
    (hw : ∀ n, need (.write n) = n) (hr : ∀ n, need (.read n) = 0) (hc : ∀ n, need (.countedRead n) = 0)
    (step : steps[k]? = some st) :
    (partsOf steps bytes)[k]? = some (st.partFrom (bytes.drop ((steps.take k).map need).sum)) := by
  induction steps generalizing bytes k with
  | nil => cases step
  | cons x steps ih =>
    cases k with
    | zero =>
      cases step
      cases st <;> rfl
    | succ k =>
      cases x <;> simp [partsOf, ih step, hw, hr, hc]

theorem partsOf_length (steps : List JobStep) (bytes : List Byte) : (partsOf steps bytes).length = steps.length := by
  induction steps generalizing bytes with
  | nil => rfl
  | cons x steps ih => cases x <;> simp [partsOf, ih]

/-- Settles O38: the parts one by one, and then the check byte. -/
theorem wellAnsweredTransactionFinishes : Obligations.WellAnsweredTransactionFinishes := by
  unfold Obligations.WellAnsweredTransactionFinishes
  refine ⟨fun bytes => rfl, fun a read => ?address, fun j a resolved => ?job, fun a => rfl, fun c e => ?enrol,
    fun a legs last fits => ?runs⟩
  case address =>
    cases read <;> revert a <;> decide
  case job =>
    refine ⟨by simp [jobDesc, resolved], rfl, partsOf_length _ _, fun k st step => ?_⟩
    intro before
    have part : (jobDesc j).parts[k]? = some (st.partFrom (j.writeData.drop before)) :=
      partsOf_getElem (fun _ => rfl) (fun _ => rfl) (fun _ => rfl) step
    cases st <;> exact part
  case enrol =>
    intro command
    refine ⟨rfl, fun h => ?_, fun h => ?_, fun f a h current chosen => ?_, fun f h current => ?_, fun h => ?_⟩
    all_goals simp only [command, enrolDesc, enrolParts, h]
    · simp [current, chosen, addrCode_eq]
    · simp [current]
  case runs =>
    intro parts answers done
    have ran (check : Bool) : runTx ⟨a, parts, check⟩ answers =
        TxRun.having a (legs ++ [last]) legs.length (afterPart last.part.isRead check []) := runTx_all fits
    have finished : done = TxRun.having a (legs ++ [last]) legs.length (.ended .finished) := by
      simp [done, TxRun.having]
    refine ⟨?_, fun write => ?_, fun b read => ?_⟩
    · rw [ran, finished]
      cases last.part.isRead <;> rfl
    · simp only [runTx_concat, ran, write, finished]
      exact ⟨rfl, rfl⟩
    · simp only [runTx_concat, ran, read, finished]
      rfl

/-! ### Refusals and losses -/

/-- An acknowledged address byte leads into its part (R69). -/
theorem TxRun.answer_enters {d : TxDesc} {r : TxRun} {p : Part} {rest : List Part} (phase : r.phase = .address p rest) :
    r.answer d .ack = (r.entered d.address p.isRead r.phase).goTo (intoPart d.check p rest) := by
  simp [TxRun.answer, phase, TxRun.entered]

section IntoPart

variable {d : TxDesc} {r : TxRun} {rest : List Part}

/-- Write bytes acknowledged from the address byte on, up to one that is still to be answered. -/
theorem TxRun.answers_into_write {before after : List Byte} {b : Byte}
    (phase : r.phase = .address (.write (before ++ b :: after)) rest) :
    (BusAnswer.ack :: before.map fun _ => BusAnswer.ack).foldl (TxRun.answer d) r =
      (r.entered d.address false r.phase).passed (.data (b :: after) rest) before before.length [] := by
  have into : intoPart d.check (.write (before ++ b :: after)) rest = .data (before ++ b :: after) rest := by
    cases before <;> rfl
  rw [List.foldl_cons, TxRun.answer_enters phase, TxRun.goTo_eq, into, TxRun.answers_written (rest := rest) rfl rfl]
  rfl

/-- Read bytes received from the address byte on, before the last. -/
theorem TxRun.answers_into_read {n : Nat} {got : List Byte} (phase : r.phase = .address (.read n) rest)
    (more : got.length < n) : (BusAnswer.ack :: got.map BusAnswer.byte).foldl (TxRun.answer d) r =
      (r.entered d.address true r.phase).passed (.recv (n - got.length) rest) got 0 got := by
  have into : intoPart d.check (.read n) rest = .recv n rest := by
    obtain ⟨m, rfl⟩ : ∃ m, n = m + 1 := ⟨n - 1, by omega⟩
    rfl
  rw [List.foldl_cons, TxRun.answer_enters phase, TxRun.goTo_eq, into, TxRun.answers_received (rest := rest) rfl more]
  rfl

/-- The bytes of a counted read part from the address byte on, before the last. -/
theorem TxRun.answers_into_counted {max : Nat} {c : Byte} {got : List Byte}
    (phase : r.phase = .address (.counted max) rest) (few : c.toNat ≤ max) (more : got.length < c.toNat) :
    (BusAnswer.ack :: BusAnswer.byte c :: got.map BusAnswer.byte).foldl (TxRun.answer d) r =
      (r.entered d.address true r.phase).passed (.recv (c.toNat - got.length) rest) (c :: got) 0 (c :: got) := by
  rw [List.foldl_cons, TxRun.answer_enters phase, TxRun.goTo_eq, List.foldl_cons,
    TxRun.answer_count (max := max) (rest := rest) rfl few (by omega), TxRun.answers_received (rest := rest) rfl more]
  simp [TxRun.passed, TxRun.entered, intoPart, TxPhase.begins, Part.isRead]

/-- The bytes of a last counted read part before a check byte, all received. -/
theorem TxRun.answers_into_counted_check {max : Nat} {c : Byte} {got : List Byte}
    (phase : r.phase = .address (.counted max) []) (few : c.toNat ≤ max) (all : c.toNat = got.length)
    (check : d.check = true) :
    (BusAnswer.ack :: BusAnswer.byte c :: got.map BusAnswer.byte).foldl (TxRun.answer d) r =
      (r.entered d.address true r.phase).passed .checkIn (c :: got) 0 (c :: got) := by
  rw [List.foldl_cons, TxRun.answer_enters phase, TxRun.goTo_eq,
    TxRun.answers_counted (max := max) (rest := []) rfl all (all ▸ few), TxRun.goTo_eq]
  simp [TxRun.passed, TxRun.entered, intoPart, TxPhase.begins, Part.isRead, afterRead, check]

/-- The last part before a check byte, all its bytes answered well. -/
theorem TxRun.answers_into_check {l : Leg} (phase : r.phase = .address l.part []) (fits : l.fits = true)
    (check : d.check = true) : l.answers.foldl (TxRun.answer d) r =
      (r.entered d.address l.part.isRead r.phase).passed (if l.part.isRead then .checkIn else .checkOut) l.data l.written
        l.got := by
  rw [TxRun.answers_leg phase fits, TxRun.goTo_eq]
  cases l.part.isRead <;> simp [afterPart, afterRead, afterWrite, check, TxRun.passed, TxPhase.begins, TxRun.entered]

end IntoPart

/-- Settles O39: the run up to the byte in hand, and then its refusal or loss. -/
theorem refusedByteEndsTransaction : Obligations.RefusedByteEndsTransaction := by
  unfold Obligations.RefusedByteEndsTransaction
  intro a legs p rest check fits run acked r
  have first : runTx ⟨a, legs.map Leg.part ++ p :: rest, check⟩ (legs.flatMap Leg.answers) =
      TxRun.having a legs legs.length (.address p rest) := runTx_legs fits
  have runs (bus : List BusAnswer) : run bus = bus.foldl (TxRun.answer ⟨a, legs.map Leg.part ++ p :: rest, check⟩)
      (TxRun.having a legs legs.length (.address p rest)) := by
    simp only [run, runTx_append, first]
  have next (bus : List BusAnswer) (x : BusAnswer) :
      run (bus ++ [x]) = (run bus).answer ⟨a, legs.map Leg.part ++ p :: rest, check⟩ x := by
    rw [runs, runs, List.foldl_append]
    rfl
  have none : legs.length = 0 ↔ legs = [] := List.length_eq_zero_iff
  have acks : acksLast check rest = false ↔ ¬ acked := by
    simp [acksLast, acked]
  refine ⟨?address, fun w => ?lostTo, ?lost, fun before b after write => ?write, fun n got b read more => ?read,
    fun max b counted => ?count, fun got b read some last => ?checkIn, fun max count got b counted few => ?counted,
    fun bytes write last => ?checkOut⟩
  case address =>
    simp [r, runs, TxRun.answer, TxRun.having]
  case lostTo =>
    simp [runs, TxRun.answer, TxRun.having, none]
  case lost =>
    simp [runs, TxRun.answer, TxRun.having, none]
  case write =>
    intro sent r
    subst write
    have stands : run sent = _ := (runs sent).trans (TxRun.answers_into_write rfl)
    simp only [r, next, stands]
    simp [TxRun.answer, TxRun.passed, TxRun.entered, TxRun.having]
  case read =>
    intro passed
    subst read
    have stands : run passed = _ := (runs passed).trans (TxRun.answers_into_read rfl more)
    have last : n - got.length ≤ 1 ↔ got.length + 1 = n := by omega
    simp only [next, stands]
    simp [TxRun.answer, TxRun.passed, TxRun.entered, TxRun.having, last, acks, TxRun.lostRead]
  case count =>
    intro r
    subst counted
    have stands : run [.ack] =
        (TxRun.having a legs legs.length (.address (.counted max) rest)).entered a true (.count max rest) := by
      rw [runs, List.foldl_cons, TxRun.answer_enters rfl]
      rfl
    refine ⟨fun above => ?_, ?_⟩
    · rw [show [BusAnswer.ack, .byte b] = [.ack] ++ [.byte b] from rfl, next]
      simp only [r, stands]
      simp [TxRun.answer, TxRun.entered, TxRun.having, above, crc8]
    · rw [show [BusAnswer.ack, .byteLost b] = [.ack] ++ [.byteLost b] from rfl, next]
      simp only [r, stands]
      simp [TxRun.answer, TxRun.entered, TxRun.having, acks, TxRun.lostRead]
  case checkIn =>
    intro passed
    have stands : run passed = _ := (runs passed).trans
      (TxRun.answers_into_check (l := .gave got) (by simp [TxRun.having, read, last.2, Leg.part]) (by simpa [Leg.fits] using some) last.1)
    simp only [next, stands]
    simp [TxRun.answer, TxRun.passed, TxRun.entered, TxRun.having, Leg.part, Part.isRead]
  case counted =>
    intro passed
    subst counted
    refine ⟨fun more => ?_, fun all last => ?_⟩
    · have stands : run passed = _ := (runs passed).trans (TxRun.answers_into_counted rfl few more)
      have last : count.toNat - got.length ≤ 1 ↔ got.length + 1 = count.toNat := by omega
      simp only [next, stands]
      simp [TxRun.answer, TxRun.passed, TxRun.entered, TxRun.having, last, acks, TxRun.lostRead]
    · obtain ⟨on, final⟩ := last
      subst final
      have stands : run passed = _ := (runs passed).trans (TxRun.answers_into_counted_check rfl few all.symm on)
      simp only [next, stands]
      simp [TxRun.answer, TxRun.passed, TxRun.entered, TxRun.having]
  case checkOut =>
    intro sent own
    have stands : run sent = _ := (runs sent).trans
      (TxRun.answers_into_check (l := .wrote bytes) (by simp [TxRun.having, write, last.2, Leg.part]) rfl last.1)
    have register : (run sent).crc = own := by
      simp [stands, TxRun.passed, TxRun.entered, TxRun.having, own, crc8, Leg.data, Leg.part, Part.isRead]
    rw [next, ← register]
    simp only [stands]
    simp [TxRun.answer, TxRun.passed, Leg.part, Part.isRead]

end Sys2Proof.Machine

/-!
Where the jobs stand, their records, class lists, the held set and what is handed, is left alone by the services, the bus
monitor and the claims.
-/

namespace Sys2Proof.Machine

/-- Where the jobs of a segment stand. -/
def Segment.places (sg : Segment) := (sg.urgent, sg.routine, sg.current, sg.handed)

/-- Two states in which the same jobs stand in the same places. -/
structure State.JobsStand (t s : State) : Prop where
  slots : t.slots = s.slots
  heldSet : t.heldSet = s.heldSet
  accepted : t.accepted = s.accepted
  places : ∀ g, (t.seg g).places = (s.seg g).places

@[refl] theorem State.JobsStand.refl (s : State) : s.JobsStand s := ⟨rfl, rfl, rfl, fun _ => rfl⟩

theorem State.JobsStand.trans {a b c : State} (h : a.JobsStand b) (k : b.JobsStand c) : a.JobsStand c :=
  ⟨h.slots.trans k.slots, h.heldSet.trans k.heldSet, h.accepted.trans k.accepted,
    fun g => (h.places g).trans (k.places g)⟩

theorem State.JobsStand.jobAt {t s : State} (h : t.JobsStand s) (i : Slot) : t.jobAt i = s.jobAt i := by
  rw [State.jobAt, State.jobAt, h.slots]

theorem State.JobsStand.handed {t s : State} (h : t.JobsStand s) (g : Seg) : (t.seg g).handed = (s.seg g).handed :=
  congrArg (·.2.2.2) (h.places g)

/-- Claims, the notice service, the Roster and the engines are not looked at. -/
theorem State.CalmEnrol.jobsStand {t s : State} (h : t.CalmEnrol s) : t.JobsStand s where
  slots := h.slots
  heldSet := h.heldSet
  accepted := h.accepted
  places g := by
    have here := h.enrolSeg g
    simp only [Segment.places, here.urgentList, here.routineList, here.current, here.handed]

theorem State.Calm.jobsStand {t s : State} (h : t.Calm s) : t.JobsStand s := h.toCalmEnrol.jobsStand

theorem State.JobsStand.modSeg (s : State) (g : Seg) {f : Segment → Segment} (h : (f (s.seg g)).places = (s.seg g).places) :
    (s.modSeg g f).JobsStand s :=
  ⟨rfl, rfl, rfl, State.forall_seg_modSeg (R := fun a b => a.places = b.places) (fun _ => rfl) s g h⟩

theorem State.JobsStand.markChoice (s : State) (g : Seg) : (s.markChoice g).JobsStand s :=
  (State.Calm.markChoice s g).jobsStand

theorem State.JobsStand.placeClaim (s : State) (c : Claimant) : (s.placeClaim c).JobsStand s :=
  (State.Calm.placeClaim s c).jobsStand

theorem State.JobsStand.placeClaimOnce (s : State) (c : Claimant) : (s.placeClaimOnce c).JobsStand s :=
  (State.Calm.placeClaimOnce s c).jobsStand

theorem State.JobsStand.withPoolFree (s : State) (n : Nat) : State.JobsStand { s with poolFree := n } s :=
  ⟨rfl, rfl, rfl, fun _ => rfl⟩

/-! ### Services -/

/-- The start of an activity that waits leaves it handed. -/
@[simp] theorem Segment.driveStart_places (sg : Segment) : sg.driveStart.places = sg.places := by
  unfold Segment.driveStart
  split <;> rfl

theorem State.JobsStand.leaveServing (s : State) (g : Seg) : (s.leaveServing g).JobsStand s := by
  unfold State.leaveServing
  split
  · exact .modSeg s g (Segment.driveStart_places _)
  · exact (State.JobsStand.markChoice _ g).trans (.modSeg s g rfl)

theorem State.JobsStand.endRead (s : State) (g : Seg) (n : Nat) : (s.endRead g n).JobsStand s := by
  unfold State.endRead
  split
  · exact (State.JobsStand.placeClaimOnce _ _).trans (.modSeg s g rfl)
  · rfl

theorem State.JobsStand.completeMessage (s : State) (g : Seg) (byRestart : Bool) :
    (s.completeMessage g byRestart).JobsStand s := by
  unfold State.completeMessage
  split
  · simp only
    split
    · exact .modSeg s g rfl
    · exact (State.JobsStand.placeClaim _ _).trans ((State.JobsStand.modSeg _ g rfl).trans (.modSeg s g rfl))
  · rfl

theorem State.JobsStand.endTransaction (s : State) (g : Seg) (n : Nat) (byRestart : Bool) :
    (s.endTransaction g n byRestart).JobsStand s :=
  (State.JobsStand.endRead _ g n).trans (.completeMessage s g byRestart)

theorem State.JobsStand.abandonService (s : State) (g : Seg) (n : Nat) : (s.abandonService g n).JobsStand s := by
  unfold State.abandonService
  split
  · exact (State.JobsStand.withPoolFree _ _).trans (.modSeg s g rfl)
  · exact (State.JobsStand.modSeg _ g rfl).trans (.endRead s g n)
  · exact .modSeg s g rfl

theorem State.JobsStand.addressSeen (s : State) (g : Seg) (b : Byte) : (addressSeen g b s).JobsStand s := by
  unfold Machine.addressSeen
  split
  · cases (s.seg g).decide b with
    | receive | serve | refuse =>
      simp only [State.serveDecision]
      exact .modSeg s g rfl
    | hold ix => exact (State.JobsStand.placeClaimOnce _ _).trans (.modSeg s g rfl)
    | noMatch =>
      simp only [State.serveDecision]
      split
      · exact .leaveServing s g
      · rfl
  · rfl

theorem State.JobsStand.byteArrives (s : State) (g : Seg) (b : Byte) : (byteArrives g b s).JobsStand s := by
  unfold Machine.byteArrives
  split
  · simp only
    repeat' split
    · rfl
    · exact .modSeg s g rfl
    · exact .modSeg s g rfl
    · exact (State.JobsStand.modSeg _ g rfl).trans (.withPoolFree s _)
    · exact .modSeg s g rfl
  · rfl

@[simp] theorem Segment.seeStop_places (sg : Segment) : sg.seeStop.places = sg.places := by
  unfold Segment.seeStop
  split <;> rfl

@[simp] theorem Segment.startSeen_places (sg : Segment) : sg.startSeen.places = sg.places := by
  unfold Segment.startSeen
  split <;> rfl

@[simp] theorem Segment.clockFall_places (sg : Segment) : sg.clockFall.places = sg.places := by
  unfold Segment.clockFall
  split
  · rfl
  · exact sg.startSeen_places

theorem State.JobsStand.stopSeen (s : State) (g : Seg) (n : Nat) : (stopSeen g n s).JobsStand s := by
  have seen : (s.modSeg g (·.seeStop)).JobsStand s := .modSeg s g (Segment.seeStop_places _)
  unfold Machine.stopSeen
  simp only
  repeat' split
  · rfl
  · exact (State.JobsStand.leaveServing _ g).trans ((State.JobsStand.endTransaction _ g n _).trans seen)
  · exact seen

theorem State.JobsStand.repeatedStartSeen (s : State) (g : Seg) (n : Nat) : (repeatedStartSeen g n s).JobsStand s := by
  have seen : (s.modSeg g (·.startSeen)).JobsStand s := .modSeg s g (Segment.startSeen_places _)
  unfold Machine.repeatedStartSeen
  simp only
  repeat' split
  · rfl
  · exact (State.JobsStand.modSeg _ g rfl).trans ((State.JobsStand.endTransaction _ g n _).trans seen)
  · exact seen

theorem State.JobsStand.holdExpires (s : State) (g : Seg) : (holdExpires g s).JobsStand s := by
  unfold Machine.holdExpires
  split
  · exact (State.JobsStand.placeClaimOnce _ _).trans (.modSeg s g rfl)
  · rfl

/-! ### The bus monitor, recovery and FAULT -/

theorem State.JobsStand.turnFree (s : State) (g : Seg) : (s.turnFree g).JobsStand s :=
  (State.JobsStand.markChoice _ g).trans (.modSeg s g (Segment.driveStart_places _))

theorem State.JobsStand.freeTimeElapses (s : State) (g : Seg) : (freeTimeElapses g s).JobsStand s := by
  unfold Machine.freeTimeElapses
  simp only
  split
  · exact .turnFree s g
  · rfl

theorem State.JobsStand.linesHigh (s : State) (g : Seg) (n : Nat) : (linesHigh g n s).JobsStand s := by
  have free : (if (s.seg g).monitor = .free then s else s.turnFree g).JobsStand s := by
    split
    · rfl
    · exact .turnFree s g
  unfold Machine.linesHigh
  split
  · simp only
    split
    · split
      · exact (State.JobsStand.leaveServing _ g).trans ((State.JobsStand.endTransaction _ g n _).trans free)
      · exact free
    · exact ((State.JobsStand.markChoice _ g).trans ((State.Calm.claimFault _ g _).jobsStand.trans
        (.modSeg _ g rfl))).trans free
    · exact free
  · rfl

theorem State.JobsStand.recovered (s : State) (g : Seg) : (s.recovered g).JobsStand s := by
  have passed (sc : ScState) : (s.passTo g sc).JobsStand s := .modSeg s g rfl
  unfold State.recovered
  refine (State.JobsStand.markChoice _ g).trans ?_
  split
  · exact (State.Calm.claimFault _ g _).jobsStand.trans (passed _)
  · exact passed _

theorem State.JobsStand.recoveryWatched (s : State) (g : Seg) (pulses : List RecoveryPulse) (r : RecoveryResult) :
    (s.modSeg g (·.recoveryWatched pulses r)).JobsStand s := by
  refine .modSeg s g ?_
  cases r <;> simp only [Segment.recoveryWatched]
  · simp
  · split <;> simp
  · rfl

end Sys2Proof.Machine

/-!
The end of a job's attempt: how its activity leaves the bus, the class of its result (Tables 5-2 and 5-3), and the
presence signals (R79).
-/

namespace Sys2Proof.Machine

/-! ### Leaving the bus -/

/-- The ways of ending that a stop made brings (R60, R78). -/
def TxWay.stops : TxWay → Bool
  | .lostFirst _ => false
  | .lostLater => false
  | .busFault _ => false
  | _ => true

theorem seeStop_eq (sg : Segment) :
    sg.seeStop = { sg with stopSeen := sg.stopSeen || decide (sg.monitor = .busy ∨ sg.monitor = .stuck) } := by
  unfold Segment.seeStop
  split <;> simp [*]

section LeaveBus

variable {s : State} {g : Seg}

theorem State.leaveBus_stops {w : TxWay} (h : w.stops = true) : s.leaveBus g w = s.stoppedAt g := by
  have after (sg : Segment) : sg.afterWay w = { sg with
      sc := .idle, handed := none, stretch := none
      stopSeen := sg.stopSeen || decide (sg.monitor = .busy ∨ sg.monitor = .stuck) } := by
    cases w <;> simp only [TxWay.stops, Bool.false_eq_true] at h <;> simp only [Segment.afterWay, seeStop_eq]
  unfold State.leaveBus State.stoppedAt
  simp only [after]
  cases w <;> first | rfl | cases h

theorem State.leaveBus_lostLater : s.leaveBus g .lostLater = s.lostAt g := rfl

theorem State.leaveBus_lostFirst (w : Byte) : s.leaveBus g (.lostFirst w) =
    (addressSeen g w (s.modSeg g fun sg => { sg with sc := .idle, handed := none, stretch := none })).markChoice g := rfl

/-- Leaving the bus writes no job record. -/
@[simp] theorem State.leaveBus_jobAt (s : State) (g : Seg) (w : TxWay) (i : Slot) : (s.leaveBus g w).jobAt i = s.jobAt i := by
  unfold State.leaveBus
  simp only [State.markChoice_jobAt]
  cases w with
  | lostFirst b => exact ((State.JobsStand.addressSeen _ g b).jobAt i).trans (s.modSeg_jobAt g _ i)
  | _ => exact s.modSeg_jobAt g _ i

end LeaveBus

/-! ### Presence (R79) -/

section Presence

variable {s : State} {j : Job} {r : TxRun} {st : EndStatus} {h : Handle} {e : Entry}

theorem State.presence_of_no_entry (no : s.presenceEntry j = none) : s.presenceAck j r = s ∧ s.presenceMiss j st = s := by
  simp [State.presenceAck, State.presenceMiss, no]

theorem State.presenceMiss_of_ne (other : st ≠ .noResponse) : s.presenceMiss j st = s := by
  unfold State.presenceMiss
  split
  · exact if_neg other
  · rfl

theorem State.presenceEntry_of (target : j.target = .handle h) (entry : s.entryAt h = some e) (stays : j.removalPending = false)
    (here : e.segment = j.segment) : s.presenceEntry j = some h := by
  simp [State.presenceEntry, target, entry, stays, here]

/-- Writing an entry with its claim, as the Roster's signals do (R90, R91). -/
theorem State.updateEntry_eq_entryBecomes {new : Entry} :
    s.updateEntry h e new = s.entryBecomes h new e.state := by
  unfold State.updateEntry State.entryBecomes
  by_cases same : new.state = e.state
  · simp [same]
  · have written : (s.putEntry h (some new)).entryAt h = some new := State.entryAt_putEntry_self s h _
    have other : ¬ e.state = new.state := fun h => same h.symm
    rw [if_neg other, if_neg same]
    cases waits : new.claimWaiting with
    | true => simp [State.rosterChange, written, Entry.noteChange, waits, bump, Config.countLimit]
    | false => simp [State.rosterChange, written, Entry.noteChange, waits]

theorem State.ackSignal_eq (entry : s.entryAt h = some e) :
    s.ackSignal h = s.entryBecomes h { e with misses := 0, state := .present } e.state := by
  simp only [State.ackSignal, entry]
  exact State.updateEntry_eq_entryBecomes

/-- The miss signal, by the state and the miss count of the entry (R90). -/
theorem State.missSignal_missing (entry : s.entryAt h = some e) (missing : e.state = .missing) : s.missSignal h = s := by
  simp [State.missSignal, entry, State.updateEntry, Entry.missed, missing, State.putEntry_entryAt entry]

theorem State.missSignal_counts (entry : s.entryAt h = some e) (other : e.state ≠ .missing) (few : e.misses < 2) :
    s.missSignal h = s.entryBecomes h { e with misses := e.misses + 1 } e.state := by
  have missed : e.missed = { e with misses := e.misses + 1 } := by
    have : e.misses + 1 < 3 := by omega
    simp [Entry.missed, other, Config.missLimit, this]
  simp only [State.missSignal, entry, missed]
  exact State.updateEntry_eq_entryBecomes

theorem State.missSignal_limit (entry : s.entryAt h = some e) (other : e.state ≠ .missing) (many : 2 ≤ e.misses) :
    s.missSignal h = s.entryBecomes h { e with misses := 0, state := .missing } e.state := by
  have missed : e.missed = { e with misses := 0, state := .missing } := by
    have : ¬ e.misses + 1 < 3 := by omega
    simp [Entry.missed, other, Config.missLimit, this]
  simp only [State.missSignal, entry, missed]
  exact State.updateEntry_eq_entryBecomes

end Presence

/-! ### The result of an attempt -/

section JobOutcome

variable {s : State} {g : Seg} {i : Slot} {j : Job} {r : TxRun} {w : TxWay} {st : EndStatus}

/-- A result that ends the job (R75, Table 5-2). -/
theorem State.jobOutcome_ends (job : s.jobAt i = some j) (cls : attemptClass r w = .ends st) :
    s.jobOutcome g i r w = ((s.presenceAck j r).endJob i st r.counts).presenceMiss j st := by
  simp only [State.jobOutcome, job, cls, State.endAttempt]

theorem State.jobOutcome_ends_ne (job : s.jobAt i = some j) (cls : attemptClass r w = .ends st) (other : st ≠ .noResponse) :
    s.jobOutcome g i r w = (s.presenceAck j r).endJob i st r.counts := by
  rw [State.jobOutcome_ends job cls, State.presenceMiss_of_ne other]

/-- A retryable result of a job that does not retry (Table 5-3). -/
theorem State.jobOutcome_gives_up {st' : EndStatus} (job : s.jobAt i = some j) (cls : attemptClass r w = .retry st)
    (decision : retryDecision j st = some st') :
    s.jobOutcome g i r w = ((s.presenceAck j r).endJob i st' .nothing).presenceMiss j st' := by
  simp only [State.jobOutcome, job, cls, decision, State.endAttempt]

theorem State.jobOutcome_gives_up_ne {st' : EndStatus} (job : s.jobAt i = some j) (cls : attemptClass r w = .retry st)
    (decision : retryDecision j st = some st') (other : st' ≠ .noResponse) :
    s.jobOutcome g i r w = (s.presenceAck j r).endJob i st' .nothing := by
  rw [State.jobOutcome_gives_up job cls decision, State.presenceMiss_of_ne other]

/-- A retryable result of a job that retries (R35). -/
theorem State.jobOutcome_retries (job : s.jobAt i = some j) (cls : attemptClass r w = .retry st)
    (decision : retryDecision j st = none) : s.jobOutcome g i r w =
      ((s.presenceAck j r).modJob i fun j => { j with state := .backoff }).modSeg g fun sg =>
        { sg with backoffTimer := some (sg.config.backoffUnit * j.attempts), backoffExpired := false } := by
  simp only [State.jobOutcome, job, cls, decision, State.enterBackoff]

/-- Table 5-3. -/
theorem retryDecision_cancel (h : j.cancelPending = true) : retryDecision j st = some .cancelled := by
  simp [retryDecision, h]

theorem retryDecision_removal (c : j.cancelPending = false) (h : j.removalPending = true) :
    retryDecision j st = some .rosterRemoved := by
  simp [retryDecision, c, h]

theorem retryDecision_overdue (c : j.cancelPending = false) (m : j.removalPending = false) (h : j.overdue = true) :
    retryDecision j st = some .deadline := by
  simp [retryDecision, c, m, h]

theorem retryDecision_spent (c : j.cancelPending = false) (m : j.removalPending = false) (o : j.overdue = false)
    (h : j.retryBudget < j.attempts) : retryDecision j st = some st := by
  simp [retryDecision, c, m, o, h]

theorem retryDecision_again (c : j.cancelPending = false) (m : j.removalPending = false) (o : j.overdue = false)
    (h : j.attempts ≤ j.retryBudget) : retryDecision j st = none := by
  simp [retryDecision, c, m, o, Nat.not_lt.mpr h]

/-- The answers that end the attempt on the bus. -/
theorem attemptEnds_of_way {bus : List BusAnswer} {stopMade : Bool} (runs : (s.seg g).sc = .controlling)
    (handed : (s.seg g).handed = some (.job i)) (job : s.jobAt i = some j)
    (way : (runTx (jobDesc j) bus).way (s.seg g).stretch.isSome stopMade = some w) :
    attemptEnds g bus stopMade s =
      (s.leaveBus g w).jobOutcome g i ((runTx (jobDesc j) bus).afterStretch (s.seg g).stretch.isSome) w := by
  simp only [attemptEnds, handed, State.txEnd, runs, State.descOf, job, and_self, if_true, way, Option.map_some]

/-- Answers that do not end it. -/
theorem attemptEnds_goes_on {bus : List BusAnswer} {stopMade : Bool} (runs : (s.seg g).sc = .controlling)
    (handed : (s.seg g).handed = some (.job i)) (job : s.jobAt i = some j) 
    (way : (runTx (jobDesc j) bus).way (s.seg g).stretch.isSome stopMade = none) :
    attemptEnds g bus stopMade s = s.presenceAck j (runTx (jobDesc j) bus) := by
  simp only [attemptEnds, handed, State.txEnd, runs, State.descOf, job, and_self, if_true, way, Option.map_none,
    State.attemptGoesOn]

/-- No attempt is on the bus (log entry 3). -/
theorem attemptEnds_elsewhere {bus : List BusAnswer} {stopMade : Bool}
    (other : (s.seg g).sc ≠ .controlling ∨ ∀ i, (s.seg g).handed ≠ some (.job i)) : attemptEnds g bus stopMade s = s := by
  unfold attemptEnds
  split
  · next i handed =>
    have off : (s.seg g).sc ≠ .controlling := other.resolve_right fun h => h i handed
    have none : s.txEnd g (.job i) bus stopMade = none := if_neg fun h => off h.1
    simp only [none, State.attemptGoesOn, off, if_false]
    split <;> rfl
  · rfl

end JobOutcome

/-! ### Acknowledged address bytes -/

/-- An address byte is acknowledged for each part begun, but for the one in hand; a loss in the first finds none. -/
def TxRun.AcksCounted (r : TxRun) : Prop :=
  match r.phase with
  | .address _ _ => r.addressAcks = r.part
  | .ended (.lostFirst _) => r.addressAcks = 0
  | .ended _ => True
  | _ => r.addressAcks = r.part + 1

theorem TxRun.AcksCounted.goTo {r : TxRun} {ph : TxPhase} (count : r.addressAcks = r.part + 1)
    (into : ∀ w, ph ≠ .ended (.lostFirst w)) : (r.goTo ph).AcksCounted := by
  cases ph with
  | ended how =>
    cases how with
    | lostFirst w => exact absurd rfl (into w)
    | _ => trivial
  | _ => exact count

theorem afterWrite_ne_lost (check : Bool) (rest : List Part) (w : Byte) : afterWrite check rest ≠ .ended (.lostFirst w) := by
  cases rest <;> cases check <;> simp [afterWrite]

theorem afterRead_ne_lost (check : Bool) (rest : List Part) (w : Byte) : afterRead check rest ≠ .ended (.lostFirst w) := by
  cases rest <;> cases check <;> simp [afterRead]

theorem intoPart_ne_lost (check : Bool) (p : Part) (rest : List Part) (w : Byte) :
    intoPart check p rest ≠ .ended (.lostFirst w) := by
  unfold intoPart
  split
  · exact afterWrite_ne_lost check rest w
  · simp
  · exact afterRead_ne_lost check rest w
  · simp
  · simp

theorem TxRun.AcksCounted.answer {d : TxDesc} {r : TxRun} (h : r.AcksCounted) (a : BusAnswer) :
    (r.answer d a).AcksCounted := by
  unfold TxRun.answer
  cases phase : r.phase with
  | address p rest =>
    have count : r.addressAcks = r.part := by simpa only [TxRun.AcksCounted, phase] using h
    cases a with
    | ack => exact .goTo (congrArg (· + 1) count) (intoPart_ne_lost _ _ _)
    | lostTo w =>
      simp only
      split
      · next first => exact count.trans first.1
      · exact h
    | lost =>
      simp only
      split
      · exact h
      · trivial
    | nak => trivial
    | byte | byteLost => exact h
  | ended how => exact h
  | data bytes rest =>
    have count : r.addressAcks = r.part + 1 := by simpa only [TxRun.AcksCounted, phase] using h
    cases bytes with
    | nil => exact h
    | cons b bytes =>
      cases a with
      | ack =>
        cases bytes with
        | nil => exact .goTo count (afterWrite_ne_lost _ _)
        | cons => exact count
      | nak =>
        by_cases last : bytes = [] ∧ rest = [] ∧ d.check = false <;> simp [TxRun.AcksCounted, last]
      | lost => simp only; split; exacts [h, trivial]
      | _ => exact h
  | checkOut =>
    cases a with
    | lost => simp only; split; exacts [h, trivial]
    | ack | nak => trivial
    | _ => exact h
  | count max rest =>
    have count : r.addressAcks = r.part + 1 := by simpa only [TxRun.AcksCounted, phase] using h
    cases a with
    | byte c =>
      simp only
      split
      · trivial
      · split
        · exact .goTo count (afterRead_ne_lost _ _)
        · exact count
    | byteLost c => simp only; split; exacts [trivial, h]
    | _ => exact h
  | recv n rest =>
    have count : r.addressAcks = r.part + 1 := by simpa only [TxRun.AcksCounted, phase] using h
    cases a with
    | byte c =>
      simp only
      split
      · exact .goTo count (afterRead_ne_lost _ _)
      · exact count
    | byteLost c => simp only; split; exacts [trivial, h]
    | _ => exact h
  | checkIn =>
    cases a with
    | byte | byteLost => trivial
    | _ => exact h

theorem runTx_acksCounted (d : TxDesc) (bus : List BusAnswer) : (runTx d bus).AcksCounted := by
  induction bus using List.reverseRecOn with
  | nil =>
    unfold runTx TxRun.AcksCounted TxRun.start
    cases d.parts <;> trivial
  | append_singleton bus a ih => 
    rw [runTx_concat]
    exact ih.answer a

/-- A loss in the first address byte finds no byte acknowledged. -/
theorem runTx_lostFirst {d : TxDesc} {bus : List BusAnswer} {w : Byte} (lost : (runTx d bus).phase = .ended (.lostFirst w)) :
    (runTx d bus).addressAcks = 0 := by
  simpa only [TxRun.AcksCounted, lost] using runTx_acksCounted d bus

/-- Settles O40: the way the bytes end, the class of the result, and the presence signals. -/
theorem attemptEndClassed : Obligations.AttemptEndClassed := by
  unfold Obligations.AttemptEndClassed
  refine ⟨fun r => rfl, rfl, fun s g i j bus how running runs handed quiet job ended => ?ends,
    fun s g i j bus stopMade running runs handed quiet job open_ => ?goesOn,
    fun s g bus stopMade running other => ?elsewhere, fun s j r st => ⟨fun a raw => ?raw, fun h target gone => ?gone,
      fun h e target entry stays here => ?entry⟩⟩
  case ends =>
    intro r e stopped
    have attempt (stopMade : Bool) : Ends (e stopMade) ((s.leaveBus g (how.way stopMade)).jobOutcome g i r (how.way stopMade)) := by
      have way : r.way (s.seg g).stretch.isSome stopMade = some (how.way stopMade) := by
        simp [TxRun.way, quiet, r, ended]
      have run := act_ends (attemptEnds g bus stopMade) running
      rw [attemptEnds_of_way runs handed job way, quiet] at run
      exact run
    have job' (w : TxWay) : (s.leaveBus g w).jobAt i = some j := (State.leaveBus_jobAt s g w i).trans job
    have stops {st : EndStatus} (way : (how.way true).stops = true) (cls : attemptClass r (how.way true) = .ends st)
        (other : st ≠ .noResponse) : Ends (e true) (stopped.endJob i st r.counts) := by
      have run := attempt true
      rwa [State.jobOutcome_ends_ne (job' _) cls other, State.leaveBus_stops way] at run
    have refusedFirst (first : r.part = 0) : attemptClass r .addressRefused = .retry .noResponse := if_pos first
    have refusedLater (later : r.part ≠ 0) : attemptClass r .addressRefused = .ends .noResponse := if_neg later
    refine ⟨fun finished => ⟨fun good => ?_, fun check bad => ?_⟩, fun above => ?_, fun data => ?_,
      fun refused => ⟨fun later => ?_, fun first c m o => ⟨fun spent => ?_, fun again => ?_⟩, fun first c => ?_,
        fun first c m => ?_, fun first c m o => ?_⟩,
      fun w stopMade lost => ?_, fun later stopMade => ?_, fun other notFirst => ?_⟩
    · subst finished
      refine stops rfl ?_ (by decide)
      rcases good with none | matched
      · simp [TxStop.way, attemptClass, none]
      · simp [TxStop.way, attemptClass, matched]
    · subst finished
      refine stops rfl ?_ (by decide)
      simp [TxStop.way, attemptClass, Option.isSome_iff_ne_none, check, bad]
    · subst above
      exact stops rfl rfl (by decide)
    · subst data
      exact stops rfl rfl (by decide)
    · subst refused
      have run : Ends (e true) ((s.leaveBus g .addressRefused).jobOutcome g i r .addressRefused) := attempt true
      rw [State.jobOutcome_ends (job' _) (refusedLater later), State.leaveBus_stops rfl] at run
      exact run
    · subst refused
      have run : Ends (e true) ((s.leaveBus g .addressRefused).jobOutcome g i r .addressRefused) := attempt true
      rw [State.jobOutcome_gives_up (job' _) (refusedFirst first) (retryDecision_spent c m o spent), State.leaveBus_stops rfl] at run
      exact run
    · subst refused
      have run : Ends (e true) ((s.leaveBus g .addressRefused).jobOutcome g i r .addressRefused) := attempt true
      rw [State.jobOutcome_retries (job' _) (refusedFirst first) (retryDecision_again c m o again), State.leaveBus_stops rfl] at run
      exact run
    · subst refused
      have run : Ends (e true) ((s.leaveBus g .addressRefused).jobOutcome g i r .addressRefused) := attempt true
      rw [State.jobOutcome_gives_up_ne (job' _) (refusedFirst first) (retryDecision_cancel c) (by decide),
        State.leaveBus_stops rfl] at run
      exact run
    · subst refused
      have run : Ends (e true) ((s.leaveBus g .addressRefused).jobOutcome g i r .addressRefused) := attempt true
      rw [State.jobOutcome_gives_up_ne (job' _) (refusedFirst first) (retryDecision_removal c m) (by decide),
        State.leaveBus_stops rfl] at run
      exact run
    · subst refused
      have run : Ends (e true) ((s.leaveBus g .addressRefused).jobOutcome g i r .addressRefused) := attempt true
      rw [State.jobOutcome_gives_up_ne (job' _) (refusedFirst first) (retryDecision_overdue c m o) (by decide),
        State.leaveBus_stops rfl] at run
      exact run
    · subst lost
      intro seen
      have run := attempt stopMade
      have told : (s.leaveBus g (.lostFirst w)).presenceAck j r = seen := by
        have none := runTx_lostFirst ended
        unfold State.presenceAck
        split
        · exact if_pos none
        · rfl
      refine ⟨fun c => ?_, fun c m => ?_, fun c m o => ?_, fun c m o => ⟨fun spent => ?_, fun again => ?_⟩⟩
      · rwa [State.jobOutcome_gives_up_ne (job' _) rfl (retryDecision_cancel c) (by decide), TxStop.way, told] at run
      · rwa [State.jobOutcome_gives_up_ne (job' _) rfl (retryDecision_removal c m) (by decide), TxStop.way, told] at run
      · rwa [State.jobOutcome_gives_up_ne (job' _) rfl (retryDecision_overdue c m o) (by decide), TxStop.way, told] at run
      · rwa [State.jobOutcome_gives_up_ne (job' _) rfl (retryDecision_spent c m o spent) (by decide), TxStop.way, told] at run
      · rwa [State.jobOutcome_retries (job' _) rfl (retryDecision_again c m o again), TxStop.way, told] at run
    · subst later
      have run := attempt stopMade
      rwa [State.jobOutcome_ends_ne (job' _) rfl (by decide)] at run
    · have fault : how.way false = .busFault true := by
        cases how with
        | lostFirst w => exact absurd rfl (notFirst w)
        | lostLater => exact absurd rfl other
        | _ => rfl
      have run := attempt false
      rw [fault] at run
      rwa [State.jobOutcome_ends_ne ((State.leaveBus_jobAt s g _ i).trans job) rfl (by decide)] at run
  case goesOn =>
    have way : (runTx (jobDesc j) bus).way (s.seg g).stretch.isSome stopMade = none := by
      cases phase : (runTx (jobDesc j) bus).phase with
      | ended how => exact absurd phase (open_ how)
      | _ => simp [TxRun.way, quiet, phase]
    have run := act_ends (attemptEnds g bus stopMade) running
    rwa [attemptEnds_goes_on runs handed job way] at run
  case elsewhere =>
    have run := act_ends (attemptEnds g bus stopMade) running
    rwa [attemptEnds_elsewhere other] at run
  case raw => exact State.presence_of_no_entry (by simp [State.presenceEntry, raw])
  case gone =>
    refine State.presence_of_no_entry ?_
    rcases gone with free | removal | ⟨e, entry, moved⟩
    · simp [State.presenceEntry, target, free]
    · cases entry : s.entryAt h <;> simp [State.presenceEntry, target, entry, removal]
    · simp [State.presenceEntry, target, entry, moved]
  case entry =>
    have named := State.presenceEntry_of target entry stays here
    have ack (acked : r.addressAcks ≠ 0) : s.presenceAck j r = s.ackSignal h := by simp [State.presenceAck, named, acked]
    have quiet (none : r.addressAcks = 0) : s.presenceAck j r = s := by simp [State.presenceAck, named, none]
    have miss (noResponse : st = .noResponse) : s.presenceMiss j st = s.missSignal h := by
      simp [State.presenceMiss, named, noResponse]
    refine ⟨quiet, fun acked => (ack acked).trans (State.ackSignal_eq entry), fun present none => ?_,
      State.presenceMiss_of_ne, fun noResponse => ?_⟩
    · by_cases acked : r.addressAcks = 0
      · exact quiet acked
      · exact (ack acked).trans (State.ackSignal_of_present entry present none)
    · rw [miss noResponse]
      exact ⟨State.missSignal_missing entry, State.missSignal_counts entry, State.missSignal_limit entry⟩

end Sys2Proof.Machine

/-!
A cancel at a byte boundary (R81).
-/

namespace Sys2Proof.Machine

-- Declarations that wait for one another's equations each hold a thread, and its memory; here they are taken in order.
set_option Elab.async false

section Boundary

variable {d : TxDesc} {bus : List BusAnswer}

/-- A read byte is in hand: a count byte, or one of the bytes counted or asked for. -/
def TxPhase.reads : TxPhase → Bool
  | .recv _ _ => true
  | .count _ _ => true
  | _ => false

theorem TxPhase.reads_iff {ph : TxPhase} :
    ph.reads = true ↔ (∃ n rest, ph = .recv n rest) ∨ ∃ max rest, ph = .count max rest := by
  cases ph <;> simp [TxPhase.reads]

/-- A loss in a read byte is taken, or changes nothing (log entry 3). -/
theorem TxRun.answer_byteLost {r : TxRun} (reads : r.phase.reads = true) (b : Byte) :
    r.answer d (.byteLost b) = r.lostRead b ∨ r.answer d (.byteLost b) = r := by
  rcases TxPhase.reads_iff.mp reads with ⟨n, rest, phase⟩ | ⟨max, rest, phase⟩
  all_goals
    unfold TxRun.answer
    simp only [phase]
    split
    · exact .inl rfl
    · exact .inr rfl

theorem TxRun.answerRefused_byteLost {r : TxRun} (reads : r.phase.reads = true) (b : Byte) :
    r.answerRefused d (.byteLost b) = r.lostRead b := by
  rcases TxPhase.reads_iff.mp reads with ⟨n, rest, phase⟩ | ⟨max, rest, phase⟩ <;> simp [TxRun.answerRefused, phase]

theorem TxRun.answerRefused_of_not_reads {r : TxRun} (other : r.phase.reads = false) (a : BusAnswer) :
    r.answerRefused d a = r.answer d a := by
  cases phase : r.phase with
  | recv | count => rw [phase] at other; cases other
  | _ => simp [TxRun.answerRefused, phase]

/-- Bytes that ended by themselves ended so for the cancel too (R81, case 1). -/
theorem runTxCancelled_of_ended {how : TxStop} (ended : (runTx d bus).phase = .ended how) :
    runTxCancelled d bus = runTx d bus := by
  induction bus using List.reverseRecOn with
  | nil => rfl
  | append_singleton init a _ =>
    rw [runTx_concat] at ended
    rw [runTxCancelled_concat, runTx_concat]
    cases reads : (runTx d init).phase.reads with
    | false => exact TxRun.answerRefused_of_not_reads reads a
    | true =>
      by_cases loss : ∃ b, a = .byteLost b
      · obtain ⟨b, rfl⟩ := loss
        rcases TxRun.answer_byteLost (d := d) reads b with lost | stands
        · rw [lost, TxRun.answerRefused_byteLost reads]
        · rw [stands] at ended
          rw [ended] at reads
          cases reads
      · exact TxRun.answerRefused_eq_answer (fun b e => loss ⟨b, e⟩) d _

/-- Where the last answer is no loss in a read byte, the boundary finds the course as it is. -/
theorem runTxCancelled_of_no_loss (last : ∀ b, bus.getLast? ≠ some (.byteLost b)) : runTxCancelled d bus = runTx d bus := by
  induction bus using List.reverseRecOn with
  | nil => rfl
  | append_singleton init a _ =>
    rw [runTxCancelled_concat, runTx_concat]
    exact TxRun.answerRefused_eq_answer (fun b e => last b (by simp [e])) d _

/-- The target is about to drive the line: the byte in flight was the acknowledged address byte of a read part. -/
theorem readAddressTaken_iff {r : TxRun} :
    readAddressTaken r bus = true ↔ bus.getLast? = some .ack ∧ r.phase.reads = true := by
  unfold readAddressTaken
  cases r.phase <;> simp [TxPhase.reads]

variable {r : TxRun} {next : Option BusAnswer} {stopMade : Bool} 

theorem cancelBoundary_ended {how : TxStop} (ended : r.phase = .ended how) :
    cancelBoundary r bus next stopMade = some (r, how.way stopMade) := by
  simp only [cancelBoundary, ended]

variable (some : bus ≠ []) (open_ : ∀ how, r.phase ≠ .ended how)
include some open_

theorem cancelBoundary_stop (not : ¬ readAddressTaken r bus = true) :
    cancelBoundary r bus next stopMade = Option.some (r, cancelWay stopMade) := by
  cases phase : r.phase with
  | ended how => exact absurd phase (open_ how)
  | _ => simp [cancelBoundary, phase, some, not]

/-- The byte that the target drives is received and refused (R81, case 3). -/
theorem cancelBoundary_byte (drives : readAddressTaken r bus = true) (b : Byte) :
    cancelBoundary r bus (Option.some (.byte b)) stopMade =
      Option.some ({ r with read := r.read ++ [b] }, cancelWay stopMade) := by
  cases phase : r.phase with
  | ended how => exact absurd phase (open_ how)
  | _ => simp only [cancelBoundary, phase, some, drives, if_true, if_false]

theorem cancelBoundary_byteLost (drives : readAddressTaken r bus = true) (b : Byte) :
    cancelBoundary r bus (Option.some (.byteLost b)) stopMade =
      Option.some ({ r with read := r.read ++ [b] }, .lostLater) := by
  cases phase : r.phase with
  | ended how => exact absurd phase (open_ how)
  | _ => simp only [cancelBoundary, phase, some, drives, if_true, if_false]

end Boundary

/-- Settles O41: what the boundary finds of the course, and what is made of it. -/
theorem cancelStopsAtByteBoundary : Obligations.CancelStopsAtByteBoundary := by
  unfold Obligations.CancelStopsAtByteBoundary
  intro s g i j bus running runs handed quiet job pending r cancelled faulted lost drives
  have reaches {next : Option BusAnswer} {stopMade : Bool} {r : TxRun} {w : TxWay}
      (boundary : cancelBoundary (runTxCancelled (jobDesc j) bus) bus next stopMade = some (r, w)) :
      Ends (exec (.cancelAtByteBoundary g bus next stopMade) s) ((s.leaveBus g w).jobOutcome g i r w) := by
    have run := act_ends (cancelReaches g bus next stopMade) running
    have reached : cancelReaches g bus next stopMade s = (s.leaveBus g w).jobOutcome g i r w := by
      simp only [cancelReaches, handed, runs, quiet, job, Option.any_some, pending, and_self, if_true, State.descOf, boundary]
    rwa [reached] at run
  have job' (w : TxWay) : (s.leaveBus g w).jobAt i = some j := (State.leaveBus_jobAt s g w i).trans job
  have outcome {r : TxRun} {w : TxWay} {st : EndStatus} (cls : attemptClass r w = .ends st) (other : st ≠ .noResponse) :
      (s.leaveBus g w).jobOutcome g i r w = ((s.leaveBus g w).presenceAck j r).endJob i st r.counts :=
    State.jobOutcome_ends_ne (job' w) cls other
  have stopsAt (r : TxRun) : (s.leaveBus g .cancelStop).jobOutcome g i r .cancelStop = cancelled r := by
    rw [outcome rfl (by decide), State.leaveBus_stops rfl]
  have faultsAt (r : TxRun) : (s.leaveBus g (.busFault true)).jobOutcome g i r (.busFault true) = faulted r :=
    outcome rfl (by decide)
  have losesAt (r : TxRun) : (s.leaveBus g .lostLater).jobOutcome g i r .lostLater = lost r :=
    outcome rfl (by decide)
  refine ⟨fun how next stopMade ended => ?ended, fun some open_ last => ⟨fun not next => ?stop, fun drives b => ?read⟩,
    fun init b next stopMade split read => ?lost⟩
  case ended =>
    have course : runTxCancelled (jobDesc j) bus = r := runTxCancelled_of_ended ended
    have way : r.way (s.seg g).stretch.isSome stopMade = some (how.way stopMade) := by
      simp [TxRun.way, quiet, ended]
    have run := act_ends (attemptEnds g bus stopMade) running
    rw [attemptEnds_of_way runs handed job way, quiet] at run
    exact (reaches (by rw [course]; exact cancelBoundary_ended ended)).trans run.symm
  case stop =>
    have course : runTxCancelled (jobDesc j) bus = r := runTxCancelled_of_no_loss last
    have not' : ¬ readAddressTaken r bus = true := fun h =>
      not ((readAddressTaken_iff.mp h).imp_right TxPhase.reads_iff.mp)
    have stop (stopMade : Bool) := reaches (next := next) (stopMade := stopMade)
      (by rw [course]; exact cancelBoundary_stop some open_ not')
    exact ⟨stopsAt r ▸ stop true, faultsAt r ▸ stop false⟩
  case read =>
    intro r'
    have course : runTxCancelled (jobDesc j) bus = r := runTxCancelled_of_no_loss last
    have drives' : readAddressTaken r bus = true := readAddressTaken_iff.mpr (drives.imp_right TxPhase.reads_iff.mpr)
    have byte (stopMade : Bool) := reaches (stopMade := stopMade)
      (by rw [course]; exact cancelBoundary_byte some open_ drives' b)
    exact ⟨stopsAt r' ▸ byte true, faultsAt r' ▸ byte false, fun stopMade => losesAt r' ▸ reaches
      (by rw [course]; exact cancelBoundary_byteLost some open_ drives' b)⟩
  case lost =>
    intro r'
    subst split
    have course : runTxCancelled (jobDesc j) (init ++ [.byteLost b]) = r'.lostRead b := by
      rw [runTxCancelled_concat, TxRun.answerRefused_byteLost (TxPhase.reads_iff.mpr read)]
    exact losesAt (r'.lostRead b) ▸ reaches (next := next) (stopMade := stopMade)
      (by rw [course]; exact cancelBoundary_ended (r := r'.lostRead b) (how := .lostLater) rfl)

end Sys2Proof.Machine

/-!
What faults make of a segment: the services that are abandoned (R136) and the activity in hand that ends as bus fault
(R54, R62, R77), for each kind of activity.
-/

namespace Sys2Proof.Machine

/-! ### The ends of services -/

section Services

variable {s : State} {g : Seg}

/-- The record of a served read (R129). -/
theorem State.endRead_reading {ix : StationIx} {p : PostedReply} {current : Bool} (n : Nat)
    (service : (s.seg g).service = .reading ix p current) : s.endRead g n = s.readTaken g ix p current n := by
  simp only [State.endRead, service, State.readTaken, Station.recordServed, bump, overread, Config.countLimit]

theorem State.endRead_other (n : Nat) (other : ∀ ix p current, (s.seg g).service ≠ .reading ix p current) :
    s.endRead g n = s := by
  unfold State.endRead
  split
  · next h => exact absurd h (other _ _ _)
  · rfl

/-- The completion of a message (R127). -/
theorem State.completeMessage_receiving {m : Message} (byRestart : Bool) (service : (s.seg g).service = .receiving m) :
    s.completeMessage g byRestart = s.messageTaken g m byRestart := by
  simp only [State.completeMessage, service, State.messageTaken]
  by_cases empty : m.bytes = [] ∧ m.truncated = false
  · rw [if_pos empty, if_pos empty]
  · rw [if_neg empty, if_neg empty, State.modSeg_modSeg]
    rfl

theorem State.completeMessage_other (byRestart : Bool) (other : ∀ m, (s.seg g).service ≠ .receiving m) :
    s.completeMessage g byRestart = s := by
  unfold State.completeMessage
  split
  · next h => exact absurd h (other _)
  · rfl

/-- A message that has completed leaves the Broker with nothing to store. -/
theorem State.messageTaken_service (m : Message) (byRestart : Bool) :
    ((s.messageTaken g m byRestart).seg g).service = .passive := by
  unfold State.messageTaken
  split
  · rw [State.seg_modSeg_self]
  · rw [((State.placeClaim_same _ _).seg g).service, State.seg_modSeg_self]

/-- The end of the transaction that is served, by the service (R127, R129). -/
theorem State.endTransaction_receiving {m : Message} (n : Nat) (byRestart : Bool)
    (service : (s.seg g).service = .receiving m) : s.endTransaction g n byRestart = s.messageTaken g m byRestart := by
  rw [State.endTransaction, State.completeMessage_receiving byRestart service]
  exact State.endRead_other n fun ix p current => by simp [State.messageTaken_service]

theorem State.endTransaction_reading {ix : StationIx} {p : PostedReply} {current : Bool} (n : Nat) (byRestart : Bool)
    (service : (s.seg g).service = .reading ix p current) :
    s.endTransaction g n byRestart = s.readTaken g ix p current n := by
  rw [State.endTransaction, State.completeMessage_other byRestart (by simp [service]), State.endRead_reading n service]

theorem State.endTransaction_other (n : Nat) (byRestart : Bool) (message : ∀ m, (s.seg g).service ≠ .receiving m)
    (read : ∀ ix p current, (s.seg g).service ≠ .reading ix p current) : s.endTransaction g n byRestart = s := by
  rw [State.endTransaction, State.completeMessage_other byRestart message, State.endRead_other n read]

/-- A service abandoned (R136). -/
theorem State.abandonService_eq (n : Nat) : s.abandonService g n = s.serviceGone g n := by
  unfold State.abandonService State.serviceGone
  cases service : (s.seg g).service with
  | receiving m => simp only [messageBlocks, blocksFor, Config.blockBytes]
  | reading ix p current => simp only [State.endRead_reading n service]
  | _ => rfl

end Services

/-! ### The notice service after a result -/

section NoticeResume

variable {s : State} {g : Seg}

theorem State.noticeResume_off (off : (s.seg g).notice.state = .off) :
    s.noticeResume g = s.modSeg g fun sg => { sg with notice := { sg.notice with state := .off, retries := 0 } } := by
  simp only [State.noticeResume, off, if_true]
  rfl

theorem State.enterWatching_asserted (line : (s.seg g).noticeLine = true) : s.enterWatching g =
    (s.modSeg g fun sg => { sg with notice := { sg.notice with state := .watching } }).markChoice g := by
  simp [State.enterWatching, State.modNotice, line]

theorem State.enterWatching_quiet (line : (s.seg g).noticeLine = false) (none : (s.seg g).notice.retries = 0) :
    s.enterWatching g = s.modSeg g fun sg => { sg with notice := { sg.notice with state := .watching } } := by
  simp [State.enterWatching, State.modNotice, State.watchReleased, line, none]

theorem State.enterWatching_claims (line : (s.seg g).noticeLine = false) (counted : 0 < (s.seg g).notice.retries) :
    s.enterWatching g = (s.modSeg g fun sg => { sg with notice := ⟨.watching, 0, some (.unclaimed true false)⟩ }).placeClaimOnce
      (.notice g) := by
  simp [State.enterWatching, State.modNotice, State.watchReleased, line, counted, State.claimNotice]

theorem State.noticeResume_on (on : (s.seg g).notice.state ≠ .off) : s.noticeResume g = s.enterWatching g := if_neg on

end NoticeResume

/-! ### The Enrolment Engine after a result that its command does not read -/

/-- The end of a sweep does not look at what it clears of the engine (R116). -/
theorem State.endSweep_modEngine (s : State) (g : Seg) {f : Engine → Engine}
    (assigned : ∀ e, (f e).assigned = e.assigned) (cause : SweepCause) :
    (s.modEngine g f).endSweep g cause = s.endSweep g cause := by
  simp only [State.endSweep, State.modEngine, State.modSeg_modSeg, State.seg_modSeg_self, assigned]

theorem Engine.afterResult_state (e : Engine) (w : TxWay) : (e.afterResult w).state = e.state := by
  cases w <;> rfl

theorem Engine.afterResult_assigned (e : Engine) (w : TxWay) : (e.afterResult w).assigned = e.assigned := by
  cases w <;> rfl

section EngineOutcome

variable {s : State} {g : Seg} {r : TxRun} {w : TxWay} {eighth : Bool}

/-- The command that is in hand reads a result by its own rule (R109 to R114, R119). -/
def Engine.reads (e : Engine) (r : TxRun) (w : TxWay) (eighth : Bool) : Bool :=
  match e.state with
  | .calling => (w == .finished && r.checkAcked) || notTaken r w
  | .identifying => w == .finished || w.refused
  | .assigning => taken r w || notTaken r w
  | .parking => taken r w || notTaken r w
  | .forgetting => forgetReached r eighth w
  | .none => true
  | .pending => true

/-- Any other result goes by the rule of R115. -/
theorem State.engineOutcome_other (other : (s.seg g).engine.reads r w eighth = false) :
    s.engineOutcome g r w eighth = (s.modEngine g (·.afterResult w)).enrolOther g w := by
  have state : ((s.modEngine g (·.afterResult w)).seg g).engine.state = (s.seg g).engine.state := by
    simp [State.modEngine, Engine.afterResult_state]
  simp only [State.engineOutcome, state]
  unfold Engine.reads at other
  cases work : (s.seg g).engine.state with
  | none | pending => rw [work] at other; cases other
  | calling =>
    obtain ⟨notAcked, notTaken⟩ : ¬ (w = .finished ∧ r.checkAcked = true) ∧ notTaken r w = false := by
      simpa [work] using other
    simp [State.callOutcome, notAcked, notTaken]
  | identifying =>
    obtain ⟨notFinished, notRefused⟩ : w ≠ .finished ∧ w.refused = false := by simpa [work] using other
    simp [State.identifyOutcome, notFinished, notRefused]
  | assigning =>
    obtain ⟨notTaken, notRefused⟩ : taken r w = false ∧ notTaken r w = false := by simpa [work] using other
    simp [State.assignOutcome, notTaken, notRefused]
  | parking =>
    obtain ⟨notTaken, notRefused⟩ : taken r w = false ∧ notTaken r w = false := by simpa [work] using other
    simp [State.parkOutcome, notTaken, notRefused]
  | forgetting =>
    have notReached : forgetReached r eighth w = false := by simpa [work] using other
    simp [State.forgetOutcome, notReached]

/-- Any result but a loss in the first address byte ends the work then (R115). -/
theorem State.engineOutcome_interrupted (other : (s.seg g).engine.reads r w eighth = false)
    (notFirst : ∀ b, w ≠ .lostFirst b) : s.engineOutcome g r w eighth = s.endSweep g .interrupted := by
  rw [State.engineOutcome_other other]
  have ends : (s.modEngine g (·.afterResult w)).enrolOther g w = (s.modEngine g (·.afterResult w)).endSweep g .interrupted := by
    cases w with
    | lostFirst b => exact absurd rfl (notFirst b)
    | _ => rfl
  rw [ends, State.endSweep_modEngine s g (Engine.afterResult_assigned · w)]

/-- A bus fault that came of no failed stop is read by no command. -/
theorem Engine.reads_busFault {e : Engine} (work : e.state ≠ .none ∧ e.state ≠ .pending) (r : TxRun) (eighth : Bool) :
    e.reads r (.busFault false) eighth = false := by
  unfold Engine.reads
  obtain ⟨busy, begun⟩ := work
  cases state : e.state with
  | none => exact absurd state busy
  | pending => exact absurd state begun
  | _ => simp [notTaken, taken, TxWay.refused, forgetReached]

end EngineOutcome

/-! ### The activity in hand at a fault -/

/-- An activity that has not started, or that is no job's attempt, ends as bus fault as `FaultTaken` says. -/
theorem FaultTaken.outcome {s dropped u : State} {g : Seg} {a : Activity} {r : TxRun}
    (jobAt : ∀ i, dropped.jobAt i = s.jobAt i) (engine : (dropped.seg g).engine = (s.seg g).engine)
    (notice : (dropped.seg g).notice = (s.seg g).notice) (line : (dropped.seg g).noticeLine = (s.seg g).noticeLine)
    (nothing : ∀ i, a = .job i → r.addressAcks = 0 ∧ r.counts = .nothing) (h : FaultTaken s g dropped a u) :
    dropped.activityOutcome g a r (.busFault false) false = u := by
  cases a with
  | job i =>
    obtain ⟨⟨j, job⟩, rfl⟩ := h
    obtain ⟨acks, counts⟩ := nothing i rfl
    have untold : dropped.presenceAck j r = dropped := by
      unfold State.presenceAck
      split
      · exact if_pos acks
      · rfl
    rw [State.activityOutcome, State.jobOutcome_ends_ne ((jobAt i).trans job) rfl (by decide), untold, counts]
  | enrol =>
    obtain ⟨busy, begun, rfl⟩ := h
    exact State.engineOutcome_interrupted (Engine.reads_busFault (by rw [engine]; exact ⟨busy, begun⟩) r false)
      (fun b => by simp)
  | probe entry addr =>
    cases h
    unfold State.activityOutcome State.probeOutcome
    simp only
    split <;> rfl
  | notice =>
    show dropped.noticeResume g = u
    rcases h with ⟨off, rfl⟩ | ⟨on, asserted, rfl⟩ | ⟨on, quiet, none, rfl⟩ | ⟨on, quiet, counted, rfl⟩
    · rw [State.noticeResume_off (by rw [notice, off])]
    · rw [State.noticeResume_on (by rwa [notice]), State.enterWatching_asserted (by rwa [line]), ← notice]
      exact congrArg (·.markChoice g) (State.modSeg_congr dropped g rfl)
    · rw [State.noticeResume_on (by rwa [notice]), State.enterWatching_quiet (by rwa [line]) (by rwa [notice])]
      exact State.modSeg_congr dropped g (by rw [notice, ← none])
    · rw [State.noticeResume_on (by rwa [notice]), State.enterWatching_claims (by rwa [line]) (by rwa [notice])]

end Sys2Proof.Machine

/-!
Stretch timeouts, lines held to STUCK, the bus monitor, recovery and FAULT (Section Four).
-/

namespace Sys2Proof.Machine

/-- What an action leaves, by what its effect makes of the state. -/
theorem act_leaves {f : State → State} {s t : State} (running : s.rstLow = false) (h : f s = t) : Ends (act f s) t :=
  h ▸ act_ends f running

section Stuck

variable {s : State} {g : Seg}

/-- Where the Segment Controller acts on a line that is held (R54). -/
theorem stuckDetected_acts {line : BusLine} {cut : BusCut} (sticks : (s.seg g).canStick = true)
    (acts : (s.seg g).sc = .idle ∨ (s.seg g).sc = .contending ∨ (s.seg g).sc = .controlling ∨ (s.seg g).sc = .serving) :
    stuckDetected g line cut s = match line with
      | .clock => (s.modSeg g fun sg => { sg with monitor := .stuck, stopSeen := false }).enterFault g .clock cut
      | .data => (s.modSeg g fun sg => { sg with monitor := .stuck, stopSeen := false }).enterRecovering g cut := by
  simp only [stuckDetected, sticks, if_true, State.seg_modSeg_self]
  rcases acts with h | h | h | h <;> simp only [h] <;> cases line <;> rfl

theorem stuckDetected_rests {line : BusLine} {cut : BusCut} (sticks : (s.seg g).canStick = true)
    (rests : (s.seg g).sc = .recovering ∨ (s.seg g).sc = .fault ∨ (s.seg g).sc = .disabled) :
    stuckDetected g line cut s = s.modSeg g fun sg => { sg with monitor := .stuck, stopSeen := false } := by
  simp only [stuckDetected, sticks, if_true, State.seg_modSeg_self]
  rcases rests with h | h | h <;> simp only [h]

theorem stuckDetected_never {line : BusLine} {cut : BusCut} (never : (s.seg g).monitor = .off ∨ (s.seg g).monitor = .stuck) :
    stuckDetected g line cut s = s := by
  have no : (s.seg g).canStick = false := by
    rcases never with h | h <;> simp only [Segment.canStick, h]
  simp [stuckDetected, no]

/-- The counts of a run that had a stretch timeout, or none (R64). -/
theorem TxRun.afterStretch_counts (r : TxRun) (stretch : Option Bool) : (r.afterStretch stretch.isSome).counts =
    if stretch = none then r.counts else { r.counts with checkByte := none, mismatch := false } := by
  cases stretch <;> rfl

theorem State.presenceAck_afterStretch (s : State) (j : Job) (r : TxRun) (stretched : Bool) :
    s.presenceAck j (r.afterStretch stretched) = s.presenceAck j r := by
  cases stretched <;> rfl

end Stuck

/-- Settles O42, by the Segment Controller's state and what is handed. -/
theorem stretchTimeoutAndStuckClockEndTheActivity : Obligations.StretchTimeoutAndStuckClockEndTheActivity := by
  unfold Obligations.StretchTimeoutAndStuckClockEndTheActivity
  intro s g running sg endCounts
  refine ⟨fun runs none eighth => ?first, fun other eighth => ?again, fun i j bus runs handed stretched job => ?attempt,
    fun never line cut => ?never, fun cut sticks => ?stuck⟩
  case first =>
    have run := act_ends (fun s => s.modSeg g (·.stretched eighth)) running
    have marks : s.modSeg g (·.stretched eighth) = s.modSeg g fun sg => { sg with stretch := some eighth } :=
      State.modSeg_congr s g (if_pos ⟨runs, none⟩)
    rwa [marks] at run
  case again =>
    have run := act_ends (fun s => s.modSeg g (·.stretched eighth)) running
    have same : s.modSeg g (·.stretched eighth) = s := by
      refine State.modSeg_id s g (if_neg ?_)
      rintro ⟨runs, none⟩
      exact other.elim (· runs) (· none)
    rwa [same] at run
  case attempt =>
    intro r
    have late : (s.seg g).stretch.isSome = true := Option.isSome_iff_ne_none.mpr stretched
    have counts : (r.afterStretch true).counts = endCounts r := by
      rw [← late]
      exact TxRun.afterStretch_counts r _
    have ends {stopMade : Bool} (w : TxWay) (st : EndStatus) (way : r.way true stopMade = some w)
        (cls : attemptClass (r.afterStretch true) w = .ends st) (other : st ≠ .noResponse) :
        Ends (exec (.jobAttemptEnd g bus stopMade) s) (((s.leaveBus g w).presenceAck j r).endJob i st (endCounts r)) := by
      have run := act_ends (attemptEnds g bus stopMade) running
      rw [attemptEnds_of_way runs handed job (by rw [late]; exact way), late,
        State.jobOutcome_ends_ne ((State.leaveBus_jobAt s g w i).trans job) cls other, State.presenceAck_afterStretch,
        counts] at run
      exact run
    refine ⟨?_, ends (.busFault true) .busFault rfl rfl (by decide)⟩
    rw [← State.leaveBus_stops (w := .stretchTimeout) rfl]
    exact ends .stretchTimeout .stretchTimeout rfl rfl (by decide)
  case never =>
    have run := act_ends (stuckDetected g line cut) running
    rwa [stuckDetected_never never] at run
  case stuck =>
    intro e stuck dropped passes ended
    have canStick : (s.seg g).canStick = true := by
      rcases sticks with h | h | h <;> simp only [Segment.canStick, show (s.seg g).monitor = _ from h]
    have here : stuck.seg g = { s.seg g with monitor := .stuck, stopSeen := false } := State.seg_modSeg_self s g _
    have drops : (stuck.modSeg g fun sg => { sg with handed := none, stretch := none }) = dropped := State.modSeg_modSeg ..
    have faults (u : State) (h : ended u) : stuck.faultActivity g cut = u := by
      have handed : (stuck.seg g).handed = sg.handed := by rw [here]
      have jobAt (i : Slot) : dropped.jobAt i = s.jobAt i := s.modSeg_jobAt g _ i
      have left : dropped.seg g = { s.seg g with monitor := .stuck, stopSeen := false, handed := none, stretch := none } :=
        State.seg_modSeg_self s g _
      have taken {a : Activity} {r : TxRun} (h : FaultTaken s g dropped a u)
          (nothing : ∀ i, a = .job i → r.addressAcks = 0 ∧ r.counts = .nothing) :
          dropped.activityOutcome g a r (.busFault false) false = u :=
        h.outcome jobAt (by rw [left]) (by rw [left]) (by rw [left]) nothing
      unfold State.faultActivity
      rw [handed, drops]
      simp only [ended] at h
      cases hand : sg.handed with
      | none => rw [hand] at h; exact h.symm
      | some a =>
        rw [hand] at h
        dsimp only
        cases a with
        | job i =>
          by_cases runs : sg.sc = .controlling
          · obtain ⟨j, job, rfl⟩ := (if_pos runs).mp h
            have job' : stuck.jobAt i = some j := (s.modSeg_jobAt g _ i).trans job
            have soFar : stuck.runSoFar g (.job i) cut = (runTx (jobDesc j) cut.answers).afterStretch sg.stretch.isSome := by
              have runs' : (stuck.seg g).sc = .controlling := by rw [here]; exact runs
              rw [State.runSoFar, if_pos runs', here]
              simp only [State.descOf, job', sg]
            rw [soFar, State.activityOutcome, State.jobOutcome_ends_ne ((jobAt i).trans job) rfl (by decide),
              State.presenceAck_afterStretch, TxRun.afterStretch_counts]
          · have soFar : stuck.runSoFar g (.job i) cut = TxRun.start (stuck.descOf g (.job i)) :=
              if_neg (by rw [here]; exact runs)
            rw [soFar]
            exact taken ((if_neg runs).mp h) fun _ _ => ⟨rfl, rfl⟩
        | _ => exact taken h (by simp)
    have passing (u : State) (sc : ScState) : (u.passTo g sc).abandonService g cut.sent = passes u sc :=
      State.abandonService_eq _
    refine ⟨fun acts => ⟨fun u h => ?_, fun runs u h => ?_, fun waits => ?_⟩, fun rests line => ?_⟩
    · have run := act_ends (stuckDetected g .clock cut) running
      rw [stuckDetected_acts canStick acts] at run
      simp only [State.enterFault] at run
      rwa [faults u h, passing] at run
    · have run := act_ends (stuckDetected g .data cut) running
      rw [stuckDetected_acts canStick acts] at run
      have runs' : (stuck.seg g).sc = .controlling := by rw [here]; exact runs
      simp only [State.enterRecovering] at run
      rwa [if_pos runs', faults u h, passing] at run
    · have run := act_ends (stuckDetected g .data cut) running
      rw [stuckDetected_acts canStick acts] at run
      have waits' : (stuck.seg g).sc ≠ .controlling := by rw [here]; exact waits
      simp only [State.enterRecovering] at run
      rwa [if_neg waits', passing] at run
    · have run := act_ends (stuckDetected g line cut) running
      rwa [stuckDetected_rests canStick rests] at run

/-! ### The bus monitor -/

section Monitor

variable {s : State} {g : Seg} {sg : Segment}

theorem Segment.startSeen_on (on : sg.monitor ≠ .off) : sg.startSeen = { sg with monitor := .busy, stopSeen := false } :=
  if_neg on

theorem Segment.startSeen_off (off : sg.monitor = .off) : sg.startSeen = sg := if_pos off

theorem Segment.clockFall_off (off : sg.monitor = .off) : sg.clockFall = sg := by
  simp [Segment.clockFall, off, Segment.startSeen]

theorem Segment.clockFall_on (on : sg.monitor ≠ .off) (other : sg.monitor ≠ .busy) :
    sg.clockFall = { sg with monitor := .busy, stopSeen := false } :=
  (if_neg other).trans (Segment.startSeen_on on)

/-- The monitor turns FREE with nothing waiting for it (R53). -/
theorem State.turnFree_waits (other : (s.seg g).sc ≠ .contending) : s.turnFree g =
    (s.modSeg g fun sg => { sg with monitor := .free, stopSeen := false }).markChoice g := by
  refine congrArg (·.markChoice g) (State.modSeg_congr s g ?_)
  exact if_neg fun h => other h.1

/-- The activity that waits drives its start (R50, R55). -/
theorem State.turnFree_starts (contends : (s.seg g).sc = .contending) : s.turnFree g =
    (s.modSeg g fun sg => { sg with monitor := .busy, stopSeen := false, sc := .controlling, stretch := none }).markChoice
      g := by
  refine congrArg (·.markChoice g) (State.modSeg_congr s g ?_)
  exact if_pos ⟨contends, rfl⟩

/-- Lines that have been high for 1 ms on a segment whose monitor is not FREE (R53). -/
theorem linesHigh_turns (n : Nat) (on : (s.seg g).monitor ≠ .off) (busy : (s.seg g).monitor ≠ .free)
    (free : (s.seg g).holdsClock = false) (sc : (s.seg g).sc ≠ .serving) (fault : (s.seg g).sc ≠ .fault) :
    linesHigh g n s = s.turnFree g := by
  have rest : (s.seg g).linesCanRest = true := by simp [Segment.linesCanRest, on, free]
  have after : ((s.turnFree g).seg g).sc ≠ .serving ∧ ((s.turnFree g).seg g).sc ≠ .fault := by
    by_cases contends : (s.seg g).sc = .contending
    · simp [State.turnFree_starts contends]
    · simp [State.turnFree_waits contends, sc, fault]
  simp only [linesHigh, rest, busy, if_true, if_false]
  split
  · next h => exact absurd h after.1
  · next h => exact absurd h after.2
  · rfl

/-- The service of a controller that has vanished (R58). -/
theorem linesHigh_serving (n : Nat) (serves : (s.seg g).sc = .serving) (on : (s.seg g).monitor ≠ .off)
    (other : (s.seg g).monitor ≠ .free) (free : (s.seg g).holdsClock = false) : linesHigh g n s =
      if (s.seg g).monitor = .busy then ((s.turnFree g).endTransaction g n false).leaveServing g else s.turnFree g := by
  have rest : (s.seg g).linesCanRest = true := by simp [Segment.linesCanRest, on, free]
  have after : ((s.turnFree g).seg g).sc = .serving := by simp [State.turnFree_waits, serves]
  simp only [linesHigh, rest, other, if_true, if_false, after]

/-- Nothing is read from the lines while a read is held (log entry 3). -/
theorem linesHigh_holding (n : Nat) {ix : StationIx} {timer : Nat} (holds : (s.seg g).service = .holding ix timer) :
    linesHigh g n s = s := by
  have rest : (s.seg g).linesCanRest = false := by simp [Segment.linesCanRest, Segment.holdsClock, holds]
  simp [linesHigh, rest]

theorem linesHigh_free (n : Nat) (free : (s.seg g).monitor = .free) (other : (s.seg g).sc ≠ .fault) :
    linesHigh g n s = s := by
  unfold linesHigh
  split
  · simp only [free, if_true]
    split
    · rfl
    · next h => exact absurd h other
    · rfl
  · rfl

theorem linesHigh_off (n : Nat) (off : (s.seg g).monitor = .off) : linesHigh g n s = s := by
  simp [linesHigh, Segment.linesCanRest, off]

end Monitor

/-- Settles O43, by the state of the monitor and of the Segment Controller. -/
theorem monitorFollowsTheLines : Obligations.MonitorFollowsTheLines := by
  unfold Obligations.MonitorFollowsTheLines
  intro s g running sg taken freed starts
  have start {t : State} (h : s.modSeg g (·.startSeen) = t) : Ends (exec (.busStartSeen g) s) t :=
    act_leaves (f := fun s => s.modSeg g (·.startSeen)) running h
  have fall {t : State} (h : s.modSeg g (·.clockFall) = t) : Ends (exec (.clockFallDataHigh g) s) t :=
    act_leaves (f := fun s => s.modSeg g (·.clockFall)) running h
  refine ⟨fun on => ?on, fun off => ⟨?startOff, ?fallOff⟩, fun other => ?fall, fun busy => ?fallBusy,
    fun busy stop => ⟨fun waits => ?freed, fun contends => ?starts⟩, fun no => ?rests, fun n => ?lines⟩
  case on => exact start (State.modSeg_congr s g (Segment.startSeen_on on))
  case startOff => exact start (State.modSeg_id s g (Segment.startSeen_off off))
  case fallOff => exact fall (State.modSeg_id s g (Segment.clockFall_off off))
  case fall =>
    refine fall (State.modSeg_congr s g (Segment.clockFall_on ?_ ?_))
    all_goals rcases other with h | h | h <;> simp [show (s.seg g).monitor = _ from h]
  case fallBusy => exact fall (State.modSeg_id s g (if_pos busy))
  case freed => exact act_leaves running ((if_pos ⟨busy, stop⟩).trans (State.turnFree_waits waits))
  case starts => exact act_leaves running ((if_pos ⟨busy, stop⟩).trans (State.turnFree_starts contends))
  case rests =>
    refine act_leaves running (if_neg ?_)
    rintro ⟨busy, stop⟩
    rcases no with h | h | h | h
    · rcases busy with b | b <;> cases h.symm.trans b
    · rcases busy with b | b <;> cases h.symm.trans b
    · rcases busy with b | b <;> cases h.symm.trans b
    · cases h.symm.trans stop
  case lines =>
    intro e
    have ends {t : State} (h : linesHigh g n s = t) : Ends e t := act_leaves running h
    have turns (h : sg.monitor = .unknown ∨ sg.monitor = .busy ∨ sg.monitor = .stuck) :
        (s.seg g).monitor ≠ .off ∧ (s.seg g).monitor ≠ .free := by
      rcases h with h | h | h <;> simp [show (s.seg g).monitor = _ from h]
    have served (busy : sg.monitor = .busy) (serves : sg.sc = .serving) (free : (s.seg g).holdsClock = false) :
        Ends e ((freed.endTransaction g n false).leaveServing g) := by
      obtain ⟨on, other⟩ := turns (.inr (.inl busy))
      have waits : (s.seg g).sc ≠ .contending := by simp [show (s.seg g).sc = _ from serves]
      refine ends ((linesHigh_serving n serves on other free).trans ((if_pos busy).trans ?_))
      rw [State.turnFree_waits waits]
    have service : (freed.seg g).service = sg.service := by simp [freed, sg]
    refine ⟨fun never => ?_, fun other none => ⟨fun waits => ?_, fun contends => ?_⟩,
      fun serves busy => ⟨fun m receiving => ?_, fun ix p current reading => ?_, fun idle => ?_⟩,
      fun serves other free => ?_, fun ix timer holds => ?_⟩
    · rcases never with off | ⟨free, other⟩
      · exact ends (linesHigh_off n off)
      · exact ends (linesHigh_free n free other)
    · obtain ⟨on, busy⟩ := turns other
      have free : (s.seg g).holdsClock = false := by simp [Segment.holdsClock, show (s.seg g).service = _ from none]
      have sc : (s.seg g).sc ≠ .serving ∧ (s.seg g).sc ≠ .fault ∧ (s.seg g).sc ≠ .contending := by
        rcases waits with h | h | h <;> simp [show (s.seg g).sc = _ from h]
      exact ends ((linesHigh_turns n on busy free sc.1 sc.2.1).trans (State.turnFree_waits sc.2.2))
    · obtain ⟨on, busy⟩ := turns other
      have free : (s.seg g).holdsClock = false := by simp [Segment.holdsClock, show (s.seg g).service = _ from none]
      have sc : (s.seg g).sc ≠ .serving ∧ (s.seg g).sc ≠ .fault := by simp [show (s.seg g).sc = _ from contends]
      exact ends ((linesHigh_turns n on busy free sc.1 sc.2).trans (State.turnFree_starts contends))
    · have free : (s.seg g).holdsClock = false := by simp [Segment.holdsClock, show (s.seg g).service = _ from receiving]
      rw [← State.endTransaction_receiving n false (service.trans receiving)]
      exact served busy serves free
    · have free : (s.seg g).holdsClock = false := by simp [Segment.holdsClock, show (s.seg g).service = _ from reading]
      rw [← State.endTransaction_reading n false (service.trans reading)]
      exact served busy serves free
    · have free : (s.seg g).holdsClock = false := by
        rcases idle with h | h <;> simp [Segment.holdsClock, show (s.seg g).service = _ from h]
      rw [← State.endTransaction_other (s := freed) (g := g) n false]
      · exact served busy serves free
      all_goals rcases idle with h | h <;> simp [service, h]
    · obtain ⟨on, busy⟩ := turns (other.imp_right .inr)
      have free : (s.seg g).holdsClock = false := by
        unfold Segment.holdsClock
        split
        · next ix timer holds => exact absurd holds (free ix timer)
        · rfl
      have notBusy : (s.seg g).monitor ≠ .busy := by
        rcases other with h | h <;> simp [show (s.seg g).monitor = _ from h]
      have waits : (s.seg g).sc ≠ .contending := by simp [show (s.seg g).sc = _ from serves]
      exact ends ((linesHigh_serving n serves on busy free).trans ((if_neg notBusy).trans (State.turnFree_waits waits)))
    · exact ends (linesHigh_holding n holds)

end Sys2Proof.Machine

/-!
Recovery (R61, R163) and the exits from FAULT (R161, R162).
-/

namespace Sys2Proof.Machine

-- Declarations that wait for one another's equations each hold a thread, and its memory; here they are taken in order.
set_option Elab.async false

/-- The outcome of a SEGMENT_RECOVER that is executed. -/
theorem exec_recover_answered {s : State} {tag : Byte} (takes : Takes s tag) (seg : Byte) :
    Answered (exec (.segmentRecover tag [seg]) s) 0x13 tag (runRecover [seg] s.hunting).2
      (runRecover [seg] s.hunting).1 :=
  answered_of_takes takes 0x13 _ (runRecover [seg]) rfl

theorem segOf_eq_none {b : Byte} (h : 4 ≤ b.toNat) : segOf b = none := dif_neg (Nat.not_lt.mpr h)

section RunRecover

variable {s : State} {seg : Byte} {g : Seg}

theorem runRecover_badValue (h : 4 ≤ seg.toNat) : runRecover [seg] s = (s, .refused .badValue) := by
  simp [runRecover, byteAt, segOf_eq_none h]

theorem runRecover_disabled (h : seg.toNat = g.val) (off : (s.seg g).sc = .disabled) :
    runRecover [seg] s = (s, .refused .segmentDisabled) := by
  simp [runRecover, byteAt, segOf_eq_some_iff.mpr h, off]

theorem runRecover_fault (h : seg.toNat = g.val) (fault : (s.seg g).sc = .fault) : runRecover [seg] s =
    (s.modSeg g fun sg => { sg with sc := .recovering, recoverRequested := true }, .ok []) := by
  simp [runRecover, byteAt, segOf_eq_some_iff.mpr h, fault]

theorem runRecover_busy (h : seg.toNat = g.val) (on : (s.seg g).sc ≠ .disabled) (other : (s.seg g).sc ≠ .fault) :
    runRecover [seg] s = (s, .refused .busy) := by
  cases sc : (s.seg g).sc with
  | disabled => exact absurd sc on
  | fault => exact absurd sc other
  | _ => simp [runRecover, byteAt, segOf_eq_some_iff.mpr h, sc]

end RunRecover

/-- Pulses that end nothing are counted (R61). -/
theorem recoveryResult_append {n : Nat} {pre rest : List RecoveryPulse} (ends : ∀ p ∈ pre, p = .dataLow ∨ p = .stopFailed)
    (few : pre.length ≤ n) : recoveryResult n (pre ++ rest) = recoveryResult (n - pre.length) rest := by
  induction pre generalizing n with
  | nil => rfl
  | cons p pre ih =>
    obtain ⟨first, others⟩ := List.forall_mem_cons.mp ends
    obtain ⟨m, rfl⟩ : ∃ m, n = m + 1 := Nat.exists_eq_add_one.mpr (Nat.lt_of_lt_of_le (by simp) few)
    have next := ih (n := m) others (by simpa using few)
    rcases first with rfl | rfl <;> simpa [recoveryResult] using next

section Recovery

variable {s : State} {g : Seg} {sg : Segment}

/-- What the monitor sees of a recovery that makes its stop (log entry 19). -/
theorem Segment.recoveryWatched_stopMade (pulses : List RecoveryPulse) : sg.recoveryWatched pulses .stopMade =
    if sg.monitor = .off then sg else { sg with monitor := .busy, stopSeen := true } := by
  simp only [Segment.recoveryWatched]
  by_cases off : sg.monitor = .off
  · simp [Segment.clockFall_off off, Segment.seeStop, off]
  · by_cases busy : sg.monitor = .busy
    · simp [Segment.clockFall, busy, Segment.seeStop]
    · simp [Segment.clockFall_on off busy, Segment.seeStop, off]

theorem Segment.recoveryWatched_dataHeld (pulses : List RecoveryPulse) : sg.recoveryWatched pulses .dataHeld =
    if .stopFailed ∈ pulses ∧ sg.monitor ≠ .off ∧ sg.monitor ≠ .busy then { sg with monitor := .busy, stopSeen := false }
    else sg := by
  simp only [Segment.recoveryWatched, List.contains_iff_mem]
  by_cases failed : RecoveryPulse.stopFailed ∈ pulses
  · by_cases off : sg.monitor = .off
    · simp [failed, off, Segment.clockFall_off]
    · by_cases busy : sg.monitor = .busy
      · simp [failed, busy, Segment.clockFall]
      · simp [failed, off, busy, Segment.clockFall_on]
  · simp [failed]

/-- The monitor alone watches a recovery. -/
theorem Segment.recoveryWatched_monitor (sg : Segment) (pulses : List RecoveryPulse) (r : RecoveryResult) :
    ∃ m seen, sg.recoveryWatched pulses r = { sg with monitor := m, stopSeen := seen } := by
  cases r with
  | stopMade =>
    rw [Segment.recoveryWatched_stopMade]
    split
    · exact ⟨sg.monitor, sg.stopSeen, rfl⟩
    · exact ⟨_, _, rfl⟩
  | dataHeld =>
    rw [Segment.recoveryWatched_dataHeld]
    split
    · exact ⟨_, _, rfl⟩
    · exact ⟨sg.monitor, sg.stopSeen, rfl⟩
  | clockHeld => exact ⟨_, _, rfl⟩

/-- The result of an activity leaves the service of its segment. -/
theorem State.Steady.activityOutcome (s : State) (g : Seg) (a : Activity) (r : TxRun) (w : TxWay) (eighth : Bool) :
    (s.activityOutcome g a r w eighth).Steady s := by
  cases a with
  | job i => exact (State.CalmJobs.jobOutcome s g i r w).toSteady
  | notice => exact (State.Calm.noticeOutcome s g r w).toCalmJobs.toSteady
  | enrol => exact (State.CalmEnrol.engineOutcome s g r w eighth).toSteady
  | probe entry a => exact (State.Calm.probeOutcome s g entry a w).toCalmJobs.toSteady

/-- The entry to FAULT of a segment without a service, its activity ended (R62). -/
theorem State.enterFault_taken {u : State} {line : BusLine} {cut : BusCut} (faulted : s.faultActivity g cut = u)
    (service : (s.seg g).service = .none) : s.enterFault g line cut =
      (u.modSeg g fun sg => { sg with sc := .fault, recoverRequested := false }).claimFault g
        (faultClaimAfterEntry · line) := by
  have kept : (u.seg g).service = .none := by
    rw [← faulted, ← service]
    unfold State.faultActivity
    split
    · rfl
    · exact ((State.Steady.activityOutcome _ g _ _ _ _).steadySeg g).service.trans (by rw [State.seg_modSeg_self])
  have passed : ((u.passTo g .fault).seg g).service = .none := by rw [State.passTo, State.seg_modSeg_self]; exact kept
  have gone : (u.passTo g .fault).abandonService g cut.sent = u.passTo g .fault := by
    rw [State.abandonService]
    simp only [passed]
    exact State.modSeg_id _ g (by rw [← passed])
  rw [State.enterFault, faulted, gone]
  rfl

/-- The exit from FAULT at 1 ms of high lines (R162). -/
theorem linesHigh_fault (n : Nat) (fault : (s.seg g).sc = .fault) (none : (s.seg g).service = .none)
    (on : (s.seg g).monitor ≠ .off) :
    linesHigh g n s = (if (s.seg g).monitor = .free then s else s.turnFree g).leaveFault g := by
  have rest : (s.seg g).linesCanRest = true := by simp [Segment.linesCanRest, on, Segment.holdsClock, none]
  have after : ((if (s.seg g).monitor = .free then s else s.turnFree g).seg g).sc = .fault := by
    split
    · exact fault
    · simp [State.turnFree_waits, fault]
  simp only [linesHigh, rest, if_true, after]

end Recovery

/-- Settles O44: the request, the pulses, the two results, the exits and the fault claim. -/
theorem recoveryAndFaultExits : Obligations.RecoveryAndFaultExits := by
  unfold Obligations.RecoveryAndFaultExits
  intro s g
  refine ⟨fun tag seg takes => ?request, fun pre ends => ⟨fun few => ?few, fun nine => ?nine⟩,
    fun pulses r running recovers service result => ?recovery, fun n running fault none on busy => ?linesBusy,
    fun n running fault none free => ?linesFree, fun f => ⟨fun none => ?place, fun c waits => ?update⟩,
    fun line => ⟨rfl, fun c => rfl⟩, rfl, fun c => rfl⟩
  case request =>
    intro a
    have answered := exec_recover_answered takes seg
    refine ⟨fun outside => ?_, fun here => ⟨fun off => ?_, fun fault => ?_, fun on other => ?_⟩⟩
    · rwa [runRecover_badValue outside] at answered
    · rwa [runRecover_disabled (s := s.hunting) here off] at answered
    · rwa [runRecover_fault (s := s.hunting) here fault] at answered
    · rwa [runRecover_busy (s := s.hunting) here on other] at answered
  case few =>
    obtain ⟨m, left⟩ : ∃ m, 9 - pre.length = m + 1 := ⟨8 - pre.length, by omega⟩
    have none := recoveryResult_append (rest := []) ends few.le
    rw [List.append_nil] at none
    rw [recoveryResult_append ends few.le, recoveryResult_append ends few.le, none, left]
    exact ⟨rfl, rfl, rfl⟩
  case nine =>
    have none := recoveryResult_append (rest := []) ends nine.le
    rw [List.append_nil] at none
    rw [none, nine]
    rfl
  case recovery =>
    intro e watched
    have watches : s.modSeg g (·.recoveryWatched pulses r) = watched := by
      refine State.modSeg_congr s g ?_
      cases r with
      | stopMade => exact Segment.recoveryWatched_stopMade pulses
      | dataHeld => exact Segment.recoveryWatched_dataHeld pulses
      | clockHeld => rfl
    obtain ⟨m, seen, fields⟩ := (s.seg g).recoveryWatched_monitor pulses r
    have here : watched.seg g = { s.seg g with monitor := m, stopSeen := seen } := by
      rw [← watches, State.seg_modSeg_self, fields]
    have ends {t : State} (h : watched.recoveryOutcome g r = t) : Ends e t := by
      refine act_leaves running ?_
      simp only [recoveryEnds, recovers, if_true, Config.recoveryPulses, result, watches, h]
    have handed : (watched.seg g).handed = (s.seg g).handed := by rw [here]
    refine ⟨fun made => ⟨fun own => ?_, fun requested idle => ?_⟩, fun line held => ?_⟩
    · subst made
      refine ends (t := State.markChoice _ g) ?_
      have own' : (watched.seg g).recoverRequested = false := by rw [here]; exact own
      simp only [State.recoveryOutcome, State.recovered, own', Bool.false_eq_true, if_false]
      refine congrArg (·.markChoice g) (State.modSeg_congr watched g ?_)
      cases (watched.seg g).handed <;> rfl
    · subst made
      refine ends ?_
      have requested' : (watched.seg g).recoverRequested = true := by rw [here]; exact requested
      simp only [State.recoveryOutcome, State.recovered, requested', if_true, handed, idle, State.passTo]
      rfl
    · intro fails dropped
      have enters {u : State} (faulted : watched.faultActivity g ⟨[], 0⟩ = u) : fails u := by
        have entered (line : BusLine) := State.enterFault_taken (line := line) faulted (by rw [here]; exact service)
        refine ends ?_
        rcases held with ⟨rfl, rfl⟩ | ⟨rfl, rfl⟩
        · exact entered .data
        · exact entered .clock
      refine ⟨fun none => enters ?_, fun a u hand taken => enters ?_⟩
      · simp only [State.faultActivity, handed, none]
      · have left : dropped.seg g = { s.seg g with monitor := m, stopSeen := seen, handed := none, stretch := none } := by
          rw [State.seg_modSeg_self, here]
        have soFar : watched.runSoFar g a ⟨[], 0⟩ = TxRun.start (watched.descOf g a) :=
          if_neg (by rw [here]; simp [recovers])
        simp only [State.faultActivity, handed, hand, soFar]
        refine taken.outcome (fun i => ?_) (by rw [left]) (by rw [left]) (by rw [left]) fun _ _ => ⟨rfl, rfl⟩
        rw [State.modSeg_jobAt, ← watches, State.modSeg_jobAt]
  case linesBusy =>
    refine act_leaves running ((linesHigh_fault n fault none on).trans ?_)
    rw [if_neg busy, State.turnFree_waits (by simp [fault])]
    rfl
  case linesFree =>
    refine act_leaves running ((linesHigh_fault n fault none (by simp [free])).trans ?_)
    rw [if_pos free]
    rfl
  case place =>
    have claimed : s.modSeg g (fun sg => { sg with faultClaim := some (f sg.faultClaim) }) =
        s.modSeg g fun sg => { sg with faultClaim := some (f Option.none) } := State.modSeg_congr s g (by rw [none])
    simp only [State.claimFault, claimed, none, Option.isSome_none, Bool.false_eq_true, if_false]
  case update =>
    have claimed : s.modSeg g (fun sg => { sg with faultClaim := some (f sg.faultClaim) }) =
        s.modSeg g fun sg => { sg with faultClaim := some (f (some c)) } := State.modSeg_congr s g (by rw [waits])
    simp only [State.claimFault, claimed, waits, Option.isSome_some, if_true]

end Sys2Proof.Machine

/-!
The target role: addresses matched, bytes received, the ends of services, and the replies of stations (Section Eight).
-/

namespace Sys2Proof.Machine

/-! ### Addresses -/

theorem addressOf_toNat (b : Byte) : (addressOf b).toNat = b.toNat / 2 := by
  have small : b.toNat / 2 < 128 := by omega
  simp [addressOf, Nat.shiftRight_succ, Nat.mod_eq_of_lt small]

theorem isRead_iff (b : Byte) : isRead b = true ↔ b.toNat % 2 = 1 := by
  simp [isRead, BitVec.getLsbD, Nat.testBit_zero]

/-- The first enabled station that holds the address (Table 8-2). -/
theorem SegConfig.stationAt_eq_some {c : SegConfig} {a : Addr} {ix : StationIx} (on : (c.station ix).enable = true)
    (here : (c.station ix).address = a)
    (before : ∀ k, k < ix → (c.station k).enable = false ∨ (c.station k).address ≠ a) : c.stationAt a = some ix := by
  match ix with
  | 0 => exact if_pos ⟨on, here⟩
  | 1 =>
    have zero : ¬ (c.station0.enable = true ∧ c.station0.address = a) := by
      rintro ⟨on, here⟩
      rcases before 0 (by decide) with off | other
      · cases on.symm.trans off
      · exact other here
    exact (if_neg zero).trans (if_pos ⟨on, here⟩)

theorem SegConfig.stationAt_eq_none {c : SegConfig} {a : Addr}
    (other : ∀ ix : StationIx, (c.station ix).enable = false ∨ (c.station ix).address ≠ a) : c.stationAt a = none := by
  have no (ix : StationIx) : ¬ ((c.station ix).enable = true ∧ (c.station ix).address = a) := by
    rintro ⟨on, here⟩
    rcases other ix with off | away
    · cases on.symm.trans off
    · exact away here
  exact (if_neg (no 0)).trans (if_neg (no 1))

section Decide

variable {sg : Segment} {b : Byte} {ix : StationIx}

theorem Segment.decide_write (station : sg.config.stationAt (addressOf b) = some ix) (write : isRead b = false) :
    sg.decide b = sg.writeDecision (recordOf ix) (addressOf b) := by
  simp [Segment.decide, station, write]

theorem Segment.decide_read (station : sg.config.stationAt (addressOf b) = some ix) (read : isRead b = true) :
    sg.decide b = sg.readDecision ix := by
  simp [Segment.decide, station, read]

theorem Segment.decide_broadcast (station : sg.config.stationAt (addressOf b) = none) (zero : addressOf b = 0)
    (write : isRead b = false) (accepts : sg.config.broadcastAccept = true) : sg.decide b = sg.writeDecision 2 0 := by
  rw [Segment.decide, station]
  exact if_pos ⟨zero, write, accepts⟩

theorem Segment.decide_noMatch (station : sg.config.stationAt (addressOf b) = none)
    (other : addressOf b ≠ 0 ∨ isRead b = true ∨ sg.config.broadcastAccept = false) : sg.decide b = .noMatch := by
  have no : ¬ (addressOf b = 0 ∧ isRead b = false ∧ sg.config.broadcastAccept = true) := by
    rintro ⟨zero, write, accepts⟩
    rcases other with h | h | h
    · exact h zero
    · cases h.symm.trans write
    · cases h.symm.trans accepts
  rw [Segment.decide, station]
  exact if_neg no

theorem Segment.writeDecision_room {r : RecordIx} {a : Addr} (room : (sg.inboundAt r).length < 4) :
    sg.writeDecision r a = .receive r a := if_pos room

theorem Segment.writeDecision_full {r : RecordIx} {a : Addr} (full : 4 ≤ (sg.inboundAt r).length) :
    sg.writeDecision r a = .refuse := if_neg (Nat.not_lt.mpr full)

theorem Segment.readDecision_posted {p : PostedReply} (posted : (sg.station ix).posted = some p) :
    sg.readDecision ix = .serve ix p := by
  simp [Segment.readDecision, posted]

theorem Segment.readDecision_hold (none : (sg.station ix).posted = none) (policy : (sg.config.station ix).policy = .hold) :
    sg.readDecision ix = .hold ix := by
  simp [Segment.readDecision, none, policy]

theorem Segment.readDecision_refuse (none : (sg.station ix).posted = none)
    (policy : (sg.config.station ix).policy = .refuse) : sg.readDecision ix = .refuse := by
  simp [Segment.readDecision, none, policy]

/-- Where the Segment Controller evaluates an address byte (R58). -/
theorem Segment.evaluates_iff :
    sg.evaluates = true ↔ sg.sc = .idle ∨ sg.sc = .contending ∨ (sg.sc = .serving ∧ sg.service = .awaiting) := by
  unfold Segment.evaluates
  cases sg.sc <;> simp

end Decide

section Address

variable {s : State} {g : Seg} {b : Byte}

theorem addressSeen_evaluated {d : Decision} (evaluates : (s.seg g).evaluates = true)
    (decision : (s.seg g).decide b = d) : addressSeen g b s = s.serveDecision g d := by
  rw [addressSeen, if_pos evaluates, decision]

theorem addressSeen_ignored (ignores : (s.seg g).evaluates = false) : addressSeen g b s = s := by
  simp [addressSeen, ignores]

end Address

/-! ### Bytes -/

section Bytes

variable {s : State} {g : Seg} {b : Byte} {m : Message}

/-- The bytes of a message that has been cut short are discarded (R126). -/
theorem byteArrives_truncated (service : (s.seg g).service = .receiving m) (cut : m.truncated = true) :
    byteArrives g b s = s := by
  simp [byteArrives, service, cut]

theorem byteArrives_full (service : (s.seg g).service = .receiving m) (whole : m.truncated = false)
    (full : 128 ≤ m.bytes.length) : byteArrives g b s =
      s.modSeg g fun sg => { sg with service := .receiving { m with truncated := true } } := by
  simp [byteArrives, service, whole, Config.maxMessage, full]

theorem byteArrives_noBlock (service : (s.seg g).service = .receiving m) (whole : m.truncated = false)
    (room : m.bytes.length < 128) (edge : m.bytes.length % 32 = 0) (empty : s.poolFree = 0) : byteArrives g b s =
      s.modSeg g fun sg => { sg with service := .receiving { m with truncated := true } } := by
  simp [byteArrives, service, whole, Config.maxMessage, Nat.not_le.mpr room, needsBlock, Config.blockBytes, edge, empty]

theorem byteArrives_newBlock (service : (s.seg g).service = .receiving m) (whole : m.truncated = false)
    (room : m.bytes.length < 128) (edge : m.bytes.length % 32 = 0) (free : 0 < s.poolFree) : byteArrives g b s =
      State.modSeg { s with poolFree := s.poolFree - 1 } g fun sg =>
        { sg with service := .receiving { m with bytes := m.bytes ++ [b] } } := by
  simp [byteArrives, service, whole, Config.maxMessage, Nat.not_le.mpr room, needsBlock, Config.blockBytes, edge,
    Nat.ne_of_gt free]

theorem byteArrives_stored (service : (s.seg g).service = .receiving m) (whole : m.truncated = false)
    (room : m.bytes.length < 128) (inside : m.bytes.length % 32 ≠ 0) : byteArrives g b s =
      s.modSeg g fun sg => { sg with service := .receiving { m with bytes := m.bytes ++ [b] } } := by
  simp [byteArrives, service, whole, Config.maxMessage, Nat.not_le.mpr room, needsBlock, Config.blockBytes, inside]

end Bytes

/-- Settles O45, by the state of the Segment Controller, the station that the address names, and the direction. -/
theorem addressMatchedAndBytesReceived : Obligations.AddressMatchedAndBytesReceived := by
  unfold Obligations.AddressMatchedAndBytesReceived
  intro s g b running sg a e serves
  have ends {t : State} (h : addressSeen g b s = t) : Ends e t := act_leaves running h
  have ignored (h : ¬ (sg.sc = .idle ∨ sg.sc = .contending ∨ (sg.sc = .serving ∧ sg.service = .awaiting))) : Ends e s :=
    ends (addressSeen_ignored (Bool.eq_false_iff.mpr fun on => h (Segment.evaluates_iff.mp on)))
  refine ⟨ends rfl, addressOf_toNat b, isRead_iff b, fun _ => rfl, fun other => ignored ?_, fun serving other => ignored ?_,
    fun here => ?evaluated, fun m service => ?bytes⟩
  · rcases other with h | h | h | h <;> simp [h]
  · simp [serving, other]
  case evaluated =>
    have decided {d : Decision} {t : State} (decision : sg.decide b = d) (h : s.serveDecision g d = t) : Ends e t :=
      ends ((addressSeen_evaluated (Segment.evaluates_iff.mpr here) decision).trans h)
    refine ⟨fun ix on address before => ?station, fun other => ⟨fun zero write accepts => ⟨fun room => ?_, fun full => ?_⟩,
      fun away => ⟨fun waits => ?_, fun serving => ?_⟩⟩⟩
    case station =>
      have station : sg.config.stationAt (addressOf b) = some ix := SegConfig.stationAt_eq_some on address before
      exact ⟨
        fun write room => decided ((Segment.decide_write station write).trans (Segment.writeDecision_room room)) rfl,
        fun write full => decided ((Segment.decide_write station write).trans (Segment.writeDecision_full full)) rfl,
        fun p read posted => decided ((Segment.decide_read station read).trans (Segment.readDecision_posted posted)) rfl,
        fun read empty policy =>
          decided ((Segment.decide_read station read).trans (Segment.readDecision_refuse empty policy)) rfl,
        fun read empty policy =>
          decided ((Segment.decide_read station read).trans (Segment.readDecision_hold empty policy)) rfl⟩
    all_goals have station : sg.config.stationAt (addressOf b) = none := SegConfig.stationAt_eq_none other
    · exact decided ((Segment.decide_broadcast station zero write accepts).trans (Segment.writeDecision_room room)) rfl
    · exact decided ((Segment.decide_broadcast station zero write accepts).trans (Segment.writeDecision_full full)) rfl
    · exact decided (Segment.decide_noMatch station away) (if_neg waits)
    · exact decided (Segment.decide_noMatch station away) (if_pos serving)
  case bytes =>
    intro e refused stored
    have ends {t : State} (h : byteArrives g b s = t) : Ends e t := act_leaves running h
    exact ⟨fun cut => ends (byteArrives_truncated service cut), fun whole =>
      ⟨fun full => ends (byteArrives_full service whole full),
      fun room edge empty => ends (byteArrives_noBlock service whole room edge empty),
      fun room edge free => ends (byteArrives_newBlock service whole room edge free),
      fun room inside => ends (byteArrives_stored service whole room inside)⟩⟩

/-! ### Stops and repeated starts -/

section ServiceEnds

variable {s : State} {g : Seg}

/-- No activity waits (R58). -/
theorem State.leaveServing_idle (none : (s.seg g).handed = none) :
    s.leaveServing g = (s.modSeg g fun sg => { sg with sc := .idle, service := .none }).markChoice g := by
  simp [State.leaveServing, none]

/-- The activity goes on waiting for a bus that is not FREE (R58). -/
theorem State.leaveServing_waits (waits : (s.seg g).handed ≠ none) (busy : (s.seg g).monitor ≠ .free) :
    s.leaveServing g = s.modSeg g fun sg => { sg with sc := .contending, service := .none } := by
  rw [State.leaveServing, if_pos (Option.isSome_iff_ne_none.mpr waits)]
  exact State.modSeg_congr s g (if_neg fun h => busy h.2)

/-- The activity drives its start on a FREE bus (R50, R58). -/
theorem State.leaveServing_starts (waits : (s.seg g).handed ≠ none) (free : (s.seg g).monitor = .free) :
    s.leaveServing g = s.modSeg g fun sg =>
      { sg with sc := .controlling, service := .none, monitor := .busy, stopSeen := false, stretch := none } := by
  rw [State.leaveServing, if_pos (Option.isSome_iff_ne_none.mpr waits)]
  exact State.modSeg_congr s g (if_pos ⟨rfl, free⟩)

theorem stopSeen_holding (n : Nat) (holds : (s.seg g).holdsClock = true) : stopSeen g n s = s := by
  simp [stopSeen, holds]

theorem repeatedStartSeen_holding (n : Nat) (holds : (s.seg g).holdsClock = true) : repeatedStartSeen g n s = s := by
  simp [repeatedStartSeen, holds]

/-- Outside SERVING a stop is the monitor's alone (R53). -/
theorem stopSeen_elsewhere (n : Nat) (free : (s.seg g).holdsClock = false) (other : (s.seg g).sc ≠ .serving) :
    stopSeen g n s = s.modSeg g (·.seeStop) := by
  have other' : ((s.modSeg g (·.seeStop)).seg g).sc ≠ .serving := by
    rw [State.seg_modSeg_self, seeStop_eq]
    exact other
  simp [stopSeen, free, other', -State.seg_modSeg_self]

theorem stopSeen_serving (n : Nat) (free : (s.seg g).holdsClock = false) (serves : (s.seg g).sc = .serving) :
    stopSeen g n s = ((s.modSeg g (·.seeStop)).endTransaction g n false).leaveServing g := by
  have serves' : ((s.modSeg g (·.seeStop)).seg g).sc = .serving := by
    rw [State.seg_modSeg_self, seeStop_eq]
    exact serves
  simp [stopSeen, free, serves', -State.seg_modSeg_self]

theorem repeatedStartSeen_elsewhere (n : Nat) (free : (s.seg g).holdsClock = false) (other : (s.seg g).sc ≠ .serving) :
    repeatedStartSeen g n s = s.modSeg g (·.startSeen) := by
  have other' : ((s.modSeg g (·.startSeen)).seg g).sc ≠ .serving := by
    rw [State.seg_modSeg_self, Segment.startSeen]
    split
    · exact other
    · exact other
  simp [repeatedStartSeen, free, other', -State.seg_modSeg_self]

theorem repeatedStartSeen_serving (n : Nat) (free : (s.seg g).holdsClock = false) (serves : (s.seg g).sc = .serving) :
    repeatedStartSeen g n s = ((s.modSeg g (·.startSeen)).endTransaction g n true).modSeg g fun sg =>
      { sg with service := .awaiting } := by
  have serves' : ((s.modSeg g (·.startSeen)).seg g).sc = .serving := by
    rw [State.seg_modSeg_self, Segment.startSeen]
    split
    · exact serves
    · exact serves
  simp [repeatedStartSeen, free, serves', -State.seg_modSeg_self]

theorem Segment.holdsClock_of_not_holding {sg : Segment} (other : ∀ ix timer, sg.service ≠ .holding ix timer) :
    sg.holdsClock = false := by
  unfold Segment.holdsClock
  split
  · next ix timer holds => exact absurd holds (other ix timer)
  · rfl

theorem Segment.holdsClock_of_holding {sg : Segment} {ix : StationIx} {timer : Nat}
    (holds : sg.service = .holding ix timer) : sg.holdsClock = true := by
  simp [Segment.holdsClock, holds]

end ServiceEnds

/-- Settles O46, by the service that the stop or the repeated start meets. -/
theorem servicesEndAtStopAndRepeatedStart : Obligations.ServicesEndAtStopAndRepeatedStart := by
  unfold Obligations.ServicesEndAtStopAndRepeatedStart
  intro s g n running stopped restarted awaits
  have stop {t : State} (h : stopSeen g n s = t) : Ends (exec (.busStopSeen g n) s) t := act_leaves running h
  have start {t : State} (h : repeatedStartSeen g n s = t) : Ends (exec (.busRepeatedStartSeen g n) s) t :=
    act_leaves running h
  have restart (on : (s.seg g).monitor ≠ .off) : s.modSeg g (·.startSeen) = restarted :=
    State.modSeg_congr s g (Segment.startSeen_on on)
  have stoppedService : (stopped.seg g).service = (s.seg g).service := by
    simp only [stopped, State.seg_modSeg_self]
    split <;> rfl
  have restartedService : (restarted.seg g).service = (s.seg g).service := by simp [restarted]
  refine ⟨fun ix p current reading => ?_, fun other none => ?elsewhere, fun ix timer holds => ?_, fun serves => ?stops,
    fun serves on => ?restarts, fun none => State.leaveServing_idle none, fun waits busy => State.leaveServing_waits waits busy,
    fun waits free => State.leaveServing_starts waits free⟩
  · exact act_leaves (f := fun s => s.endRead g n) running (State.endRead_reading n reading)
  case elsewhere =>
    have free : (s.seg g).holdsClock = false := Segment.holdsClock_of_not_holding (by simp [none])
    have seen := repeatedStartSeen_elsewhere n free other
    exact ⟨stop (stopSeen_elsewhere n free other), fun on => start (seen.trans (restart on)),
      fun off => start (seen.trans (State.modSeg_id s g (Segment.startSeen_off off)))⟩
  · exact ⟨stop (stopSeen_holding n (Segment.holdsClock_of_holding holds)),
      start (repeatedStartSeen_holding n (Segment.holdsClock_of_holding holds))⟩
  case stops =>
    have seen {t : State} (free : ∀ ix timer, (s.seg g).service ≠ .holding ix timer)
        (ended : stopped.endTransaction g n false = t) : Ends (exec (.busStopSeen g n) s) (t.leaveServing g) := by
      rw [← ended]
      exact stop (stopSeen_serving n (Segment.holdsClock_of_not_holding free) serves)
    refine ⟨fun m service => ?_, fun ix p current service => ?_, fun service => ?_⟩
    · exact seen (by simp [service]) (State.endTransaction_receiving n false (stoppedService.trans service))
    · exact seen (by simp [service]) (State.endTransaction_reading n false (stoppedService.trans service))
    · refine seen ?_ (State.endTransaction_other n false ?_ ?_) <;> rw [← stoppedService] at service <;>
        rcases service with h | h <;> simp [h, ← stoppedService]
  case restarts =>
    have seen {t : State} (free : ∀ ix timer, (s.seg g).service ≠ .holding ix timer)
        (ended : restarted.endTransaction g n true = t) : Ends (exec (.busRepeatedStartSeen g n) s) (awaits t) := by
      rw [← ended, ← restart on]
      exact start (repeatedStartSeen_serving n (Segment.holdsClock_of_not_holding free) serves)
    refine ⟨fun m service => ?_, fun ix p current service => ?_, fun service => ?_⟩
    · exact seen (by simp [service]) (State.endTransaction_receiving n true (restartedService.trans service))
    · exact seen (by simp [service]) (State.endTransaction_reading n true (restartedService.trans service))
    · refine seen ?_ (State.endTransaction_other n true ?_ ?_) <;> rw [← restartedService] at service <;>
        rcases service with h | h <;> simp [h, ← restartedService]

/-! ### Held reads and POST_REPLY -/

theorem holdExpires_holding {s : State} {g : Seg} {ix : StationIx} {timer : Nat}
    (holds : (s.seg g).service = .holding ix timer) : holdExpires g s =
      (s.modSeg g fun sg =>
        { sg.modStation ix (fun st => { st with expired := min (st.expired + 1) 255 }) with
          service := .passive }).placeClaimOnce (.station g ix .expired) := by
  simp [holdExpires, holds, bump, Config.countLimit]

section PostReply

variable {seg index mode : Byte} {bytes : List Byte}

theorem postedReplyOf_eq_some (known : mode.toNat < 2) (some : bytes ≠ []) (fits : bytes.length ≤ 64) :
    postedReplyOf (seg :: index :: mode :: bytes) = .some ⟨bytes, mode == 1⟩ := by
  have value : boolOf mode = .some (mode == 1) := boolOf_eq_some_iff.mpr ⟨Nat.not_le.mpr known, rfl⟩
  have size : 1 ≤ bytes.length := List.length_pos_of_ne_nil some
  simp [postedReplyOf, byteAt, value, size, Config.maxPosted, fits]

theorem postedReplyOf_eq_none (bad : 2 ≤ mode.toNat ∨ bytes = [] ∨ 64 < bytes.length) :
    postedReplyOf (seg :: index :: mode :: bytes) = none := by
  rcases bad with unknown | size
  · have value : boolOf mode = none :=
      Option.eq_none_iff_forall_ne_some.mpr fun v h => (boolOf_eq_some_iff.mp h).1 unknown
    simp [postedReplyOf, byteAt, value]
  · simp only [postedReplyOf, byteAt, Option.bind_eq_none_iff]
    intro v _
    refine if_pos ?_
    rcases size with empty | long
    · exact .inl (by simp [empty])
    · exact .inr (by simpa [Config.maxPosted] using long)

end PostReply

theorem Service.released_of_not_holding {sv : Service} {ix : StationIx} (p : PostedReply)
    (other : ∀ t, sv ≠ .holding ix t) : sv.released ix p = sv := by
  cases sv with
  | holding k t =>
    have away : k ≠ ix := fun same => other t (same ▸ rfl)
    simp [Service.released, away]
  | none | awaiting | passive | receiving | reading => rfl

/-- What R132 and R133 say of the service is what a posted reply makes of it. -/
theorem Service.eq_posted {sv sv' : Service} {ix : StationIx} {p : PostedReply}
    (holding : ∀ t, sv = .holding ix t → sv' = .reading ix p true)
    (reading : ∀ q c, sv = .reading ix q c → sv' = .reading ix q false)
    (other : (∀ t, sv ≠ .holding ix t) → (∀ q c, sv ≠ .reading ix q c) → sv' = sv) :
    sv' = (sv.outdated ix).released ix p := by
  by_cases held : ∃ t, sv = .holding ix t
  · obtain ⟨t, rfl⟩ := held
    rw [holding t rfl]
    simp [Service.outdated, Service.released]
  · have notHeld : ∀ t, sv ≠ .holding ix t := fun t h => held ⟨t, h⟩
    have after : sv' = sv.outdated ix := Service.eq_outdated reading (other notHeld)
    rw [← after, Service.released_of_not_holding p]
    intro t holds
    cases sv with
    | reading k q c =>
      rw [after, Service.outdated] at holds
      split at holds <;> cases holds
    | none | awaiting | passive | receiving | holding => exact notHeld t (after.symm.trans holds)

section RunPost

variable {s : State} {body : List Byte}

theorem runPost_badValue (bad : postedReplyOf body = none) : runPost body s = (s, .refused .badValue) := by
  simp [runPost, bad]

theorem runPost_badStation {p : PostedReply} {st : Status} (reply : postedReplyOf body = some p)
    (bad : s.checkStation body = .bad st) : runPost body s = (s, .refused st) := by
  simp [runPost, reply, bad]

theorem runPost_good {p : PostedReply} {g : Seg} {ix : StationIx} (reply : postedReplyOf body = some p)
    (good : s.checkStation body = .good g ix) : runPost body s = (s.modSeg g (·.post ix p),
      .ok [postFlags ((s.seg g).station ix).posted.isSome ((s.seg g).holdsReadOf ix)]) := by
  simp [runPost, reply, good]

end RunPost

/-- Settles O47, by the service of the segment and the checks of POST_REPLY. -/
theorem heldReadEndsByPostOrExpiry : Obligations.HeldReadEndsByPostOrExpiry := by
  unfold Obligations.HeldReadEndsByPostOrExpiry
  intro s
  refine ⟨fun g ix timer running holds => act_leaves running (holdExpires_holding holds),
    fun tag seg index mode bytes takes => ?post⟩
  case post =>
    intro a
    have answered : Answered (exec (.postReply tag (seg :: index :: mode :: bytes)) s) 0x38 tag
        (runPost (seg :: index :: mode :: bytes) s.hunting).2 (runPost (seg :: index :: mode :: bytes) s.hunting).1 :=
      answered_of_takes takes 0x38 _ (runPost (seg :: index :: mode :: bytes)) (by simp [sizeAtLeast])
    have gives {t : State} {x : Answer} (h : runPost (seg :: index :: mode :: bytes) s.hunting = (t, x)) : a x t := by
      rwa [h] at answered
    refine ⟨fun bad => gives ?badValue,
      fun g ix hg hix known some fits => ⟨fun off => gives ?notFound, fun on => ?posted⟩⟩
    case badValue =>
      cases reply : postedReplyOf (seg :: index :: mode :: bytes) with
      | none => exact runPost_badValue reply
      | some p =>
        refine runPost_badStation reply (State.checkStation_badValue _ ?_)
        rcases bad with h | h | h
        · exact .inl h
        · exact .inr h
        · cases reply.symm.trans (postedReplyOf_eq_none h)
    case notFound =>
      exact runPost_badStation (postedReplyOf_eq_some known some fits) (State.checkStation_notFound hg hix off)
    case posted =>
      intro p sv holding reading other replaced released
      refine gives ((runPost_good (s := s.hunting) (postedReplyOf_eq_some known some fits) (State.checkStation_good (s := s.hunting) hg hix on)).trans ?_)
      refine congrArg₂ Prod.mk (State.modSeg_congr _ g ?_) (congrArg (fun x => Answer.ok [x]) ?_)
      · rw [Service.eq_posted holding reading other]
        rfl
      · have code : boolCode ((s.seg g).station ix).posted.isSome = replaced := by
          cases posted : ((s.seg g).station ix).posted <;> simp [replaced, posted, boolCode]
        have held : 2 * boolCode ((s.seg g).holdsReadOf ix) = released := by
          unfold Segment.holdsReadOf
          simp only [released]
          cases (s.seg g).service with
          | holding k t => by_cases same : k = ix <;> simp [same, boolCode]
          | none | awaiting | passive | receiving | reading => rfl
        rw [show s.hunting.seg g = s.seg g from rfl, postFlags, flagsByte_eq, code, held]
        simp [boolCode]

end Sys2Proof.Machine

/-!
The requests of the Roster, what a removal does, and the results of probes (Section Six).
-/

namespace Sys2Proof.Machine

-- Declarations that wait for one another's equations each hold a thread, and its memory; here they are taken in order.
set_option Elab.async false

/-! ### Searches of the Roster -/

section Searches

variable {s : State}

theorem State.entryByAddress_eq_none_iff {g : Seg} {a : Addr} : s.entryByAddress g a = none ↔
    ∀ h e, s.entryAt h = some e → e.segment = g → e.address ≠ a := by
  refine find_finRange_eq_none_iff.trans (forall_congr' fun h => ?_)
  cases s.entryAt h <;> simp

theorem State.entryByAddress_isSome_iff {g : Seg} {a : Addr} : (s.entryByAddress g a).isSome = true ↔
    ∃ h e, s.entryAt h = some e ∧ e.segment = g ∧ e.address = a := by
  rw [Option.isSome_iff_ne_none, ne_eq, State.entryByAddress_eq_none_iff]
  push Not
  rfl

theorem State.entryByIdentity_eq_none_iff {d : Identity} : s.entryByIdentity d = none ↔
    ∀ h e, s.entryAt h = some e → e.identity ≠ some d := by
  refine find_finRange_eq_none_iff.trans (forall_congr' fun h => ?_)
  cases s.entryAt h <;> simp

/-- The one entry that holds an identity is found (R101). -/
theorem State.entryByIdentity_eq_some {d : Identity} {h : Handle} {e : Entry} (entry : s.entryAt h = some e)
    (holds : e.identity = some d) (alone : ∀ k c, s.entryAt k = some c → c.identity = some d → k = h) :
    s.entryByIdentity d = some h := by
  refine find_finRange_eq_some_iff.mpr ⟨by simp [entry, holds], fun k before => ?_⟩
  cases here : s.entryAt k with
  | none => rfl
  | some c =>
    have other : c.identity ≠ some d := fun same => absurd (alone k c here same) (Fin.ne_of_lt before)
    simpa using other

/-- The free handle with the lowest number (R88). -/
theorem State.freeHandle_eq_some {h : Handle} (free : s.entryAt h = none) (lowest : ∀ k, k < h → s.entryAt k ≠ none) :
    s.freeHandle = some h :=
  find_finRange_eq_some_iff.mpr ⟨by simp [free], fun k hk => by
    simpa [Option.isSome_iff_ne_none] using lowest k hk⟩

theorem State.freeHandle_eq_none_iff : s.freeHandle = none ↔ ∀ h, s.entryAt h ≠ none := by
  simp only [State.freeHandle, allHandles, find_finRange_eq_none_iff, Option.isNone_eq_false_iff,
    Option.isSome_iff_ne_none]

end Searches

/-! ### ROSTER_READ -/

theorem handleRange_eq (first count : Nat) : handleRange first count =
    (List.finRange 64).filter fun h => first ≤ h.val ∧ h.val < first + count := by
  simp only [handleRange, allHandles, Bool.decide_and]

section RosterRead

variable {s : State} {first count : Byte}

theorem runRosterRead_badValue (bad : 64 ≤ first.toNat ∨ count = 0 ∨ 17 ≤ count.toNat) :
    runRosterRead [first, count] s = (s, .refused .badValue) := by
  refine if_pos ?_
  rcases bad with h | h | h
  · exact .inl h
  · exact .inr (.inl (by simp [byteAt, h]))
  · exact .inr (.inr h)

theorem runRosterRead_lists (low : first.toNat < 64) (some : count ≠ 0) (few : count.toNat ≤ 16) :
    runRosterRead [first, count] s = (s, .ok (byteOf (s.readEntries (handleRange first.toNat count.toNat)).1 ::
      (s.readEntries (handleRange first.toNat count.toNat)).2)) := by
  refine if_neg ?_
  rintro (h | h | h)
  · exact absurd h (by simp [byteAt]; omega)
  · exact some (BitVec.eq_of_toNat_eq h)
  · exact absurd h (by simp [byteAt]; omega)

end RosterRead

/-! ### ROSTER_ADD_FIXED -/

section AddFixed

variable {s : State} {seg addr : Byte} {g : Seg} {x : Addr}

/-- The address of an address byte that is one (R92). -/
theorem setWidth_eq_addr (ha : addr.toNat = x.toNat) : addr.setWidth 7 = x :=
  BitVec.eq_of_toNat_eq (by rw [BitVec.toNat_setWidth, ha, Nat.mod_eq_of_lt x.isLt])

theorem runAddFixed_badValue (bad : 4 ≤ seg.toNat ∨ 0x80 ≤ addr.toNat) :
    runAddFixed [seg, addr] s = (s, .refused .badValue) := by
  unfold runAddFixed
  by_cases range : 4 ≤ seg.toNat
  · simp [segOf_eq_none (b := byteAt [seg, addr] 0) range]
  · have high : 0x7F < (byteAt [seg, addr] 1).toNat := bad.resolve_left range
    split
    · rfl
    · exact if_pos high

/-- The checks of Table 6-3 (R92). -/
theorem State.checkFixed_reserved (ha : addr.toNat = x.toNat)
    (unusable : x.toNat < 0x08 ∨ 0x77 < x.toNat ∨ x ∈ (s.seg g).config.reserved) :
    s.checkFixed g addr = some .reservedAddress := by
  have same := setWidth_eq_addr ha
  have stops : (!inAddrRange addr.toNat || (s.seg g).config.reserved.contains (addr.setWidth 7)) = true := by
    rcases unusable with h | h | h
    · simp [inAddrRange, ha, Nat.not_le.mpr h]
    · simp [inAddrRange, ha, Nat.not_le.mpr h]
    · simp [same, h]
  exact if_pos stops

theorem State.checkFixed_usable (ha : addr.toNat = x.toNat) (low : 0x08 ≤ x.toNat) (high : x.toNat ≤ 0x77)
    (free : x ∉ (s.seg g).config.reserved) : s.checkFixed g addr =
      if (s.entryByAddress g x).isSome || (s.seg g).engine.chosen == some x then some .conflict else none := by
  have same := setWidth_eq_addr ha
  have passes : ¬ (!inAddrRange addr.toNat || (s.seg g).config.reserved.contains (addr.setWidth 7)) = true := by
    simp [inAddrRange, ha, low, high, same, free]
  exact (if_neg passes).trans (by rw [same])

theorem runAddFixed_checked (hg : seg.toNat = g.val) (ha : addr.toNat = x.toNat) {st : Status}
    (check : s.checkFixed g addr = some st) : runAddFixed [seg, addr] s = (s, .refused st) := by
  have fits : ¬ 0x7F < addr.toNat := by omega
  have found : segOf seg = some g := segOf_eq_some_iff.mpr hg
  simp [runAddFixed, byteAt, found, fits, check]

theorem runAddFixed_full (hg : seg.toNat = g.val) (ha : addr.toNat = x.toNat)
    (check : s.checkFixed g addr = none) (full : s.freeHandle = none) :
    runAddFixed [seg, addr] s = (s, .refused .rosterFull) := by
  have fits : ¬ 0x7F < addr.toNat := by omega
  have found : segOf seg = some g := segOf_eq_some_iff.mpr hg
  simp [runAddFixed, byteAt, found, fits, check, full]

theorem runAddFixed_adds (hg : seg.toNat = g.val) (ha : addr.toNat = x.toNat)
    (check : s.checkFixed g addr = none) {h : Handle} (free : s.freeHandle = some h) :
    runAddFixed [seg, addr] s = (s.putEntry h (some (fixedEntry g x)), .ok [byteOf h.val]) := by
  have fits : ¬ 0x7F < addr.toNat := by omega
  have found : segOf seg = some g := segOf_eq_some_iff.mpr hg
  have same := setWidth_eq_addr ha
  simp [runAddFixed, byteAt, found, fits, check, free, same]

end AddFixed

/-! ### ROSTER_REMOVE -/

/-- The count of the jobs that are ENDED. -/
theorem State.endedCount_eq (s : State) :
    s.endedCount = (allSlots.filter fun i => (s.jobAt i).any (·.state == .ended)).length := by
  unfold State.endedCount
  congr 2
  funext i
  cases s.jobAt i <;> rfl

section Remove

variable {s : State} {handle force : Byte} {h : Handle} {e : Entry}

theorem runRemove_badValue (bad : 64 ≤ handle.toNat ∨ 2 ≤ force.toNat) :
    runRemove [handle, force] s = (s, .refused .badValue) := by
  have no : handleOf handle = none ∨ boolOf force = none := by
    refine bad.imp handleOf_eq_none fun unknown => Option.eq_none_iff_forall_ne_some.mpr fun v value => ?_
    exact (boolOf_eq_some_iff.mp value).1 unknown
  rcases no with h | h
  · simp [runRemove, byteAt, h]
  · cases hh : handleOf handle <;> simp [runRemove, byteAt, h, hh]

variable {forced : Bool}

theorem runRemove_notFound (hh : handleOf handle = some h) (hf : boolOf force = some forced)
    (free : s.entryAt h = none) : runRemove [handle, force] s = (s, .refused .notFound) := by
  simp [runRemove, byteAt, hh, hf, free]

theorem runRemove_stillPresent (hh : handleOf handle = some h) (hf : boolOf force = some forced)
    (entry : s.entryAt h = some e) (present : e.stillPresent = true) :
    runRemove [handle, force] s = (s, .refused .stillPresent) := by
  simp [runRemove, byteAt, hh, hf, entry, present]

theorem runRemove_inUse (hh : handleOf handle = some h) (hf : boolOf force = some false)
    (entry : s.entryAt h = some e) (away : e.stillPresent = false) (jobs : s.jobsNaming h ≠ []) :
    runRemove [handle, force] s = (s, .refused .inUse) := by
  simp [runRemove, byteAt, hh, hf, entry, away, jobs]

theorem runRemove_removes (hh : handleOf handle = some h) (hf : boolOf force = some forced)
    (entry : s.entryAt h = some e) (away : e.stillPresent = false) (may : s.jobsNaming h = [] ∨ forced = true) :
    runRemove [handle, force] s = s.removeEntry h (s.jobsNaming h) := by
  have passes : ¬ (s.jobsNaming h ≠ [] ∧ forced = false) := by
    rintro ⟨jobs, no⟩
    rcases may with none | yes
    · exact jobs none
    · cases no.symm.trans yes
  simp only [runRemove, byteAt, List.getD_cons_zero, List.getD_cons_succ, hh, hf, entry, away, passes, if_false]
  rfl

end Remove

/-! ### What a removal does -/

/-- An entry that has been removed loses its claim and its probe, and nothing else changes (R94, R100). -/
theorem State.dropEntry_entryAt_self (s : State) (h : Handle) : (s.dropEntry h).entryAt h = none :=
  State.entryAt_putEntry_self (s.withdrawClaim (.roster h)) h none

theorem State.dropEntry_entryAt_ne (s : State) {h k : Handle} (other : k ≠ h) :
    (s.dropEntry h).entryAt k = s.entryAt k :=
  State.entryAt_putEntry_ne (s.withdrawClaim (.roster h)) h k none other

theorem State.dropEntry_seg (s : State) (h : Handle) (g : Seg) : (s.dropEntry h).seg g = (s.seg g).forgetProbe h := by
  simp [State.dropEntry, State.seg]

theorem Segment.forgetProbe_probe {sg : Segment} {h : Handle} {x : Addr} (probes : sg.handed = some (.probe (some h) x)) :
    sg.forgetProbe h = { sg with handed := some (.probe none x) } := by
  simp [Segment.forgetProbe, probes]

theorem Segment.forgetProbe_other {sg : Segment} {h : Handle} (other : ∀ x, sg.handed ≠ some (.probe (some h) x)) :
    sg.forgetProbe h = sg := by
  unfold Segment.forgetProbe
  split
  · next k a probes =>
    refine if_neg ?_
    rintro rfl
    exact other a probes
  · rfl

/-- Where the records agree with the jobs' states, no job still waits on one that failed (R25). -/
theorem PlacesOk.waitsOnFailed {s : State} (places : PlacesOk s) (i : Slot) : s.waitsOnFailed i = false := by
  unfold State.waitsOnFailed
  cases job : s.jobAt i with
  | none => rfl
  | some j =>
    by_cases held : j.state = .held
    · cases predecessor : j.predecessor with
      | job id =>
        obtain ⟨gen, p, here, live⟩ := (s.liveId_iff id).mp (places.chain i j id job (.inl held) predecessor).1
        have none : p.outcome = none := by
          cases outcome : p.outcome with
          | none => rfl
          | some o => exact absurd ((places.jobs _ p here).outcome.mp (by simp [outcome])) live
        have fine : s.endedNotOk id = false := by simp [State.endedNotOk, here, none]
        simp [predecessor, fine]
      | _ => simp [predecessor]
    · simp [held]

theorem PlacesOk.cascade {s : State} (places : PlacesOk s) : s.cascade = s := by
  unfold State.cascade
  induction s.accepted with
  | nil => rfl
  | cons i rest ih => simpa [places.waitsOnFailed i] using ih

/-- An end of a job that has ended changes nothing (R15). -/
theorem PlacesOk.endJob_ended {s : State} (places : PlacesOk s) {i : Slot} {j : Job} {st : EndStatus} {c : EndCounts}
    (job : s.jobAt i = some j) (ended : j.state = .ended) (failed : st ≠ .ok) : s.endJob i st c = s := by
  rw [State.endJob, if_neg failed, State.endOne_ended job ended, places.cascade]

theorem State.removeReaches_active {s : State} {i : Slot} {j : Job} (job : s.jobAt i = some j) (active : j.state = .active) :
    s.removeReaches i = s.modJob i fun j => { j with removalPending := true } := by
  simp [State.removeReaches, job, active]

theorem State.removeReaches_other {s : State} {i : Slot} {j : Job} (job : s.jobAt i = some j) (other : j.state ≠ .active) :
    s.removeReaches i = s.endJob i .rosterRemoved .nothing := by
  simp [State.removeReaches, job, other]

theorem State.anyActive_iff (s : State) (is : List Slot) :
    s.anyActive is = true ↔ ∃ i ∈ is, ∃ j, s.jobAt i = some j ∧ j.state = .active := by
  simp [State.anyActive, Option.any_eq_true]

/-- Settles O49, request by request and check by check. -/
theorem rosterRequestsAnswered : Obligations.RosterRequestsAnswered := by
  unfold Obligations.RosterRequestsAnswered
  intro s tag takes
  refine ⟨fun first count => ?read, fun seg addr => ?add, fun handle force => ?remove, fun h => ?removal⟩
  case read =>
    intro a
    have answered : Answered (exec (.rosterRead tag [first, count]) s) 0x30 tag (runRosterRead [first, count] s.hunting).2
        (runRosterRead [first, count] s.hunting).1 :=
      answered_of_takes takes 0x30 _ (runRosterRead [first, count]) rfl
    refine ⟨fun bad => ?_, fun low some few => ?_⟩
    · rwa [runRosterRead_badValue bad] at answered
    · intro found
      rw [runRosterRead_lists low some few] at answered
      have same : (handleRange first.toNat count.toNat).filterMap
          (fun h => (s.entryAt h).map fun e => entryBytes h e) = found := by
        rw [handleRange_eq]
        refine congrArg (List.filterMap · _) (funext fun h => ?_)
        cases s.entryAt h with
        | none => rfl
        | some e =>
          simp only [Option.map_some, entryBytes, segCode, addrCode_eq, entryFlags, flagsByte_eq, Entry.isEnrolled]
          cases e.state <;> cases e.kind <;> cases e.probeDue <;> rfl
      have same' : s.hunting.readEntries (handleRange first.toNat count.toNat) = (found.length, found.flatten) := by
        rw [← same]
        rfl
      rwa [same'] at answered
  case add =>
    intro a
    have answered : Answered (exec (.rosterAddFixed tag [seg, addr]) s) 0x31 tag (runAddFixed [seg, addr] s.hunting).2
        (runAddFixed [seg, addr] s.hunting).1 :=
      answered_of_takes takes 0x31 _ (runAddFixed [seg, addr]) rfl
    have gives {t : State} {x : Answer} (h : runAddFixed [seg, addr] s.hunting = (t, x)) : a x t := by
      rwa [h] at answered
    refine ⟨fun bad => gives (runAddFixed_badValue bad), fun g x hg hx => ⟨fun unusable => ?_, fun low high free =>
      ⟨fun held => ?_, fun alone other => ?_⟩⟩⟩
    · exact gives (runAddFixed_checked hg hx (State.checkFixed_reserved hx unusable))
    · refine gives (runAddFixed_checked hg hx ((State.checkFixed_usable hx low high free).trans (if_pos ?_)))
      exact Bool.or_eq_true_iff.mpr
        (held.imp (State.entryByAddress_isSome_iff (s := s.hunting)).mpr fun chosen => beq_iff_eq.mpr chosen)
    · have check : s.hunting.checkFixed g addr = none := by
        refine (State.checkFixed_usable hx low high free).trans (if_neg ?_)
        exact fun held => (Bool.or_eq_true_iff.mp held).elim
          (fun found => Option.isSome_iff_ne_none.mp found (State.entryByAddress_eq_none_iff.mpr alone))
          fun chosen => other (beq_iff_eq.mp chosen)
      exact ⟨fun full => gives (runAddFixed_full hg hx check (State.freeHandle_eq_none_iff.mpr full)),
        fun h free lowest => gives (runAddFixed_adds hg hx check (State.freeHandle_eq_some free lowest))⟩
  case remove =>
    intro a
    have answered : Answered (exec (.rosterRemove tag [handle, force]) s) 0x32 tag (runRemove [handle, force] s.hunting).2
        (runRemove [handle, force] s.hunting).1 :=
      answered_of_takes takes 0x32 _ (runRemove [handle, force]) rfl
    have gives {t : State} {x : Answer} (h : runRemove [handle, force] s.hunting = (t, x)) : a x t := by
      rwa [h] at answered
    refine ⟨fun bad => gives (runRemove_badValue bad), fun h number known => ?_⟩
    have hh : handleOf handle = some h := handleOf_eq_some_iff.mpr number
    have hf : boolOf force = some (force == 1) := boolOf_eq_some_iff.mpr ⟨Nat.not_le.mpr known, rfl⟩
    refine ⟨fun free => gives (runRemove_notFound hh hf free), fun e entry =>
      ⟨fun enrolled present => gives (runRemove_stillPresent hh hf entry (by simp [Entry.stillPresent, enrolled, present])),
        fun away => ?_⟩⟩
    have gone : e.stillPresent = false := by
      rcases away with h | h <;> simp [Entry.stillPresent, h]
    refine ⟨fun none => gives ?_, fun jobs no => gives (runRemove_inUse hh (by rw [no]; rfl) entry gone jobs),
      fun jobs yes => ?_⟩
    · rw [runRemove_removes (s := s.hunting) hh hf entry gone (.inl none), show s.hunting.jobsNaming h = [] from none]
      have count : (s.hunting.dropEntry h).endedCount = s.hunting.endedCount := rfl
      simp [State.removeEntry, count, State.anyActive, boolCode, byteOf]
    · intro t ended
      refine gives ((runRemove_removes (s := s.hunting) hh (forced := true) (by rw [yes]; rfl) entry gone (.inr rfl)).trans ?_)
      have before : s.hunting.endedCount = ended s := s.endedCount_eq
      have after : t.endedCount = ended t := t.endedCount_eq
      rw [← before, ← after]
      rfl
  case removal =>
    refine ⟨?_, s.anyActive_iff _, fun u i j job => ⟨State.removeReaches_active job, fun other _ =>
      State.removeReaches_other job other, fun ended places => ?_⟩, ?_⟩
    · refine List.filter_congr fun i _ => ?_
      cases s.jobAt i <;> rfl
    · exact (State.removeReaches_other job (by simp [ended])).trans (places.endJob_ended job ended (by decide))
    · exact ⟨s.dropEntry_entryAt_self h, fun k other => s.dropEntry_entryAt_ne other, rfl, fun g =>
        ⟨fun x probes => (s.dropEntry_seg h g).trans (Segment.forgetProbe_probe probes),
          fun other => (s.dropEntry_seg h g).trans (Segment.forgetProbe_other other)⟩, rfl⟩

/-! ### Results that the bus brings -/

/-- The Roster does not see the bus. -/
@[simp] theorem State.stoppedAt_entryAt (s : State) (g : Seg) (h : Handle) : (s.stoppedAt g).entryAt h = s.entryAt h := by
  simp [State.stoppedAt]

@[simp] theorem State.stopFailedAt_entryAt (s : State) (g : Seg) (h : Handle) :
    (s.stopFailedAt g).entryAt h = s.entryAt h := by
  simp [State.stopFailedAt]

section TxEnd

variable {s : State} {g : Seg} {a : Activity} {bus : List BusAnswer} {stopMade : Bool}

/-- The bytes of the activity that is on the bus have ended. -/
theorem State.txEnd_ended {how : TxStop} (runs : (s.seg g).sc = .controlling) (handed : (s.seg g).handed = some a)
    (quiet : (s.seg g).stretch = none) (ended : (runTx (s.descOf g a) bus).phase = .ended how) :
    s.txEnd g a bus stopMade = some (runTx (s.descOf g a) bus, how.way stopMade) := by
  simp [State.txEnd, runs, handed, quiet, TxRun.way, ended, TxRun.afterStretch]

/-- A stretch timeout ends it wherever its bytes stand (R51). -/
theorem State.txEnd_stretched (runs : (s.seg g).sc = .controlling) (handed : (s.seg g).handed = some a)
    (late : (s.seg g).stretch ≠ none) : s.txEnd g a bus stopMade =
      some ((runTx (s.descOf g a) bus).afterStretch true, if stopMade then .stretchTimeout else .busFault true) := by
  have some : (s.seg g).stretch.isSome = true := Option.isSome_iff_ne_none.mpr late
  simp [State.txEnd, runs, handed, some, TxRun.way]

end TxEnd

/-! ### Probes -/

section Probes

variable {s : State} {g : Seg} {h : Handle} {d : Entry} {x : Addr}

/-- What a change of the entry's probe due leaves is written over by the signal that follows. -/
theorem State.modEntry_entryBecomes (f : Entry → Entry) (new : Entry) (old : EntryState) :
    (s.modEntry h f).entryBecomes h new old = s.entryBecomes h new old := by
  simp [State.entryBecomes, State.modEntry]

theorem State.entryBecomes_same {new : Entry} (entry : s.entryAt h = some d) {f : Entry → Entry} (made : f d = new)
    (state : new.state = d.state) : s.modEntry h f = s.entryBecomes h new d.state := by
  rw [State.entryBecomes, if_pos state, State.modEntry, entry, Option.map_some, made]

theorem State.probedEntry_found (entry : s.entryAt h = some d) (here : d.segment = g) (address : d.address = x) :
    s.probedEntry g (some h) x = some h := by
  simp [State.probedEntry, entry, here, address, Option.filter]

/-- The entry the probe was handed for has gone, moved or changed its address (R100). -/
theorem State.probedEntry_changed {entry : Option Handle}
    (changed : ∀ h d, entry = some h → s.entryAt h = some d → d.segment ≠ g ∨ d.address ≠ x) :
    s.probedEntry g entry x = none := by
  refine Option.filter_eq_none_iff.mpr fun h probed => ?_
  cases here : s.entryAt h with
  | none => simp
  | some d => rcases changed h d probed here with other | other <;> simp [other]

theorem State.probeOutcome_changed {entry : Option Handle} (w : TxWay) (changed : s.probedEntry g entry x = none) :
    s.probeOutcome g entry x w = s := by
  simp [State.probeOutcome, changed]

theorem State.probeOutcome_noEffect {entry : Option Handle} {w : TxWay} (finished : w ≠ .finished)
    (refused : w ≠ .addressRefused) : s.probeOutcome g entry x w = s := by
  unfold State.probeOutcome
  split
  · rfl
  · split
    · exact absurd rfl finished
    · exact absurd rfl refused
    · rfl

theorem State.probeOutcome_finished (entry : s.entryAt h = some d) (here : d.segment = g) (address : d.address = x) :
    s.probeOutcome g (some h) x .finished =
      s.entryBecomes h { d with probeDue := false, misses := 0, state := .present } d.state := by
  have read : (s.modEntry h fun e => { e with probeDue := false }).entryAt h = some { d with probeDue := false } := by
    simp [entry]
  rw [State.probeOutcome, State.probedEntry_found entry here address]
  exact (State.ackSignal_eq read).trans (State.modEntry_entryBecomes _ _ _)

theorem State.probeOutcome_refused (entry : s.entryAt h = some d) (here : d.segment = g) (address : d.address = x) :
    s.probeOutcome g (some h) x .addressRefused =
      (s.modEntry h fun e => { e with probeDue := false }).missSignal h := by
  rw [State.probeOutcome, State.probedEntry_found entry here address]

theorem probeEnds_eq {entry : Option Handle} {bus : List BusAnswer} {stopMade : Bool} {r : TxRun} {w : TxWay}
    (handed : (s.seg g).handed = some (.probe entry x)) (result : s.txEnd g (.probe entry x) bus stopMade = some (r, w)) :
    probeEnds g bus stopMade s = (s.leaveBus g w).probeOutcome g entry x w := by
  simp [probeEnds, handed, result]

/-- The bytes of a probe (R99): an address byte, and nothing after it. -/
theorem runTx_probe_ack (x : Addr) : (runTx (probeDesc x) [.ack]).phase = .ended .finished := rfl

theorem runTx_probe_nak (x : Addr) : (runTx (probeDesc x) [.nak]).phase = .ended .addressRefused := rfl

theorem runTx_probe_lost (x : Addr) {w : Byte} (lower : w.toNat < (addressByte x false).toNat) :
    (runTx (probeDesc x) [.lostTo w]).phase = .ended (.lostFirst w) :=
  congrArg TxRun.phase (if_pos ⟨rfl, lower⟩)

end Probes

/-- Settles O50: the way the probe ended, and the entry it was handed for as it stands. -/
theorem probeResultSignalsItsEntry : Obligations.ProbeResultSignalsItsEntry := by
  unfold Obligations.ProbeResultSignalsItsEntry
  intro s g entry x bus running runs handed e changed left
  have ends {stopMade : Bool} {r : TxRun} {w : TxWay} {t : State}
      (result : s.txEnd g (.probe entry x) bus stopMade = some (r, w))
      (h : (s.leaveBus g w).probeOutcome g entry x w = t) : Ends (e stopMade) t :=
    act_leaves running ((probeEnds_eq handed result).trans h)
  have stopped : s.leaveBus g .finished = s.stoppedAt g ∧ s.leaveBus g .addressRefused = s.stoppedAt g ∧
      s.leaveBus g .stretchTimeout = s.stoppedAt g :=
    ⟨State.leaveBus_stops rfl, State.leaveBus_stops rfl, State.leaveBus_stops rfl⟩
  obtain ⟨finished, refused, late⟩ := stopped
  have fails {r : TxRun} (result : s.txEnd g (.probe entry x) bus false = some (r, .busFault true)) :
      Ends (e false) (s.stopFailedAt g) :=
    ends result (State.probeOutcome_noEffect (by decide) (by decide))
  refine ⟨fun stretched => ⟨?_, fails (State.txEnd_stretched runs handed stretched)⟩,
    fun quiet w answer lower stopMade => ?lost, fun h d quiet named here on address => ⟨fun answer => ?acked,
      fun answer => ?missed⟩, fun quiet answer => ⟨fun gone => ?gone, ?fault⟩⟩
  · refine ends (State.txEnd_stretched runs handed stretched) ?_
    exact (State.probeOutcome_noEffect (w := .stretchTimeout) (by decide) (by decide)).trans late
  case lost =>
    subst answer
    refine ends (State.txEnd_ended runs handed quiet (runTx_probe_lost x lower)) ?_
    exact State.probeOutcome_noEffect (w := .lostFirst w) (by simp) (by simp)
  all_goals have acks : bus = [.ack] → (runTx (s.descOf g (.probe entry x)) bus).phase = .ended .finished := fun h =>
    h ▸ runTx_probe_ack x
  all_goals have naks : bus = [.nak] → (runTx (s.descOf g (.probe entry x)) bus).phase = .ended .addressRefused := fun h =>
    h ▸ runTx_probe_nak x
  case acked =>
    subst named
    have here' : (s.stoppedAt g).entryAt h = some d := (s.stoppedAt_entryAt g h).trans here
    refine ends (State.txEnd_ended runs handed quiet (acks answer)) ?_
    exact (congrArg (State.probeOutcome · g (some h) x .finished) finished).trans
      (State.probeOutcome_finished here' on address)
  case missed =>
    subst named
    have here' : (s.stoppedAt g).entryAt h = some d := (s.stoppedAt_entryAt g h).trans here
    have read : ((s.stoppedAt g).modEntry h fun e => { e with probeDue := false }).entryAt h =
        some { d with probeDue := false } := by
      simp [here']
    have misses {t : State} (counts : ((s.stoppedAt g).modEntry h fun e => { e with probeDue := false }).missSignal h = t) :
        Ends (e true) t := by
      refine ends (State.txEnd_ended runs handed quiet (naks answer)) ?_
      exact (congrArg (State.probeOutcome · g (some h) x .addressRefused) refused).trans
        ((State.probeOutcome_refused here' on address).trans counts)
    refine ⟨fun missing => misses ?_, fun other few => misses ?_, fun other many => misses ?_⟩
    · exact (State.missSignal_missing read missing).trans (State.entryBecomes_same here' rfl rfl)
    · exact (State.missSignal_counts read other few).trans (State.modEntry_entryBecomes _ _ _)
    · exact (State.missSignal_limit read other many).trans (State.modEntry_entryBecomes _ _ _)
  case gone =>
    have gone' : (s.stoppedAt g).probedEntry g entry x = none := State.probedEntry_changed (by simpa using gone)
    rcases answer with answer | answer
    · refine ends (State.txEnd_ended runs handed quiet (acks answer)) ?_
      exact (congrArg (State.probeOutcome · g entry x .finished) finished).trans (State.probeOutcome_changed _ gone')
    · refine ends (State.txEnd_ended runs handed quiet (naks answer)) ?_
      exact (congrArg (State.probeOutcome · g entry x .addressRefused) refused).trans (State.probeOutcome_changed _ gone')
  case fault =>
    rcases answer with answer | answer
    · exact fails (State.txEnd_ended runs handed quiet (acks answer))
    · exact fails (State.txEnd_ended runs handed quiet (naks answer))

end Sys2Proof.Machine

/-!
The Enrolment Engine (Section Seven): its requests, what it decides on an identity, and how it reads the results of its
commands.
-/

namespace Sys2Proof.Machine

-- Declarations that wait for one another's equations each hold a thread, and its memory; here they are taken in order.
set_option Elab.async false

/-! ### ENROL_SWEEP and ENROL_FORGET -/

section RunEnrol

variable {s : State} {seg : Byte} {g : Seg} {w : WorkKind}

theorem runEnrol_badValue (bad : 4 ≤ seg.toNat) : runEnrol w [seg] s = (s, .refused .badValue) := by
  simp [runEnrol, segOf_eq_none (b := byteAt [seg] 0) bad]

theorem runEnrol_disabled (hg : seg.toNat = g.val) (off : (s.seg g).sc = .disabled) :
    runEnrol w [seg] s = (s, .refused .segmentDisabled) := by
  have found : segOf (byteAt [seg] 0) = some g := segOf_eq_some_iff.mpr hg
  simp [runEnrol, found, Segment.enabled, off]

theorem runEnrol_busy (hg : seg.toNat = g.val) (on : (s.seg g).sc ≠ .disabled) (busy : (s.seg g).engine.state ≠ .none) :
    runEnrol w [seg] s = (s, .refused .busy) := by
  have found : segOf (byteAt [seg] 0) = some g := segOf_eq_some_iff.mpr hg
  simp [runEnrol, found, Segment.enabled, on, Engine.busy, busy]

theorem runEnrol_accepts (hg : seg.toNat = g.val) (on : (s.seg g).sc ≠ .disabled) (idle : (s.seg g).engine.state = .none) :
    runEnrol w [seg] s = ((s.modEngine g (·.accept w)).markChoice g, .ok [1]) := by
  have found : segOf (byteAt [seg] 0) = some g := segOf_eq_some_iff.mpr hg
  simp [runEnrol, found, Segment.enabled, on, Engine.busy, idle, sweepCode]

end RunEnrol

/-- Settles O52, for the two requests alike. -/
theorem enrolmentRequestsAnswered : Obligations.EnrolmentRequestsAnswered := by
  unfold Obligations.EnrolmentRequestsAnswered
  intro s tag seg c kind w takes which a
  have answered : Answered (exec c s) kind tag (runEnrol w [seg] s.hunting).2 (runEnrol w [seg] s.hunting).1 := by
    rcases which with ⟨rfl, rfl, rfl⟩ | ⟨rfl, rfl, rfl⟩
    · exact answered_of_takes takes 0x33 _ (runEnrol .sweep [seg]) rfl
    · exact answered_of_takes takes 0x34 _ (runEnrol .forget [seg]) rfl
  refine ⟨fun bad => ?_, fun g hg => ⟨fun off => ?_, fun on busy => ?_, fun on idle => ?_⟩⟩
  · rwa [runEnrol_badValue bad] at answered
  · rwa [runEnrol_disabled (s := s.hunting) hg off] at answered
  · rwa [runEnrol_busy (s := s.hunting) hg on busy] at answered
  · rwa [runEnrol_accepts (s := s.hunting) hg on idle] at answered

/-! ### What the Engine and the notice service keep while the target role acts -/

/-- Two segments whose engine and notice service stand alike, but for what the entry of a claim changes. -/
structure Segment.Aside (a b : Segment) : Prop where
  engine : a.engine = b.engine
  noticeLine : a.noticeLine = b.noticeLine
  retries : a.notice.retries = b.notice.retries
  noticeState : a.notice.state = b.notice.state ∨ (b.notice.state = .querying ∧ a.notice.state = .watching)

@[refl] theorem Segment.Aside.refl (a : Segment) : a.Aside a := ⟨rfl, rfl, rfl, .inl rfl⟩

theorem Segment.Aside.trans {a b c : Segment} (h : a.Aside b) (k : b.Aside c) : a.Aside c where
  engine := h.engine.trans k.engine
  noticeLine := h.noticeLine.trans k.noticeLine
  retries := h.retries.trans k.retries
  noticeState := by
    rcases h.noticeState with same | ⟨querying, watching⟩
    · rw [same]
      exact k.noticeState
    · rcases k.noticeState with same | ⟨_, watching'⟩
      · exact .inr ⟨same ▸ querying, watching⟩
      · cases querying.symm.trans watching'

theorem Segment.SameButClaims.aside {a b : Segment} (h : a.SameButClaims b) : a.Aside b :=
  ⟨h.engine, h.noticeLine, h.retries, h.noticeState⟩

/-- A change of the segment that leaves its engine and its notice service as they are. -/
theorem Segment.Aside.modSeg {s : State} {g : Seg} {f : Segment → Segment} (engine : ∀ sg, (f sg).engine = sg.engine)
    (notice : ∀ sg, (f sg).notice = sg.notice) (line : ∀ sg, (f sg).noticeLine = sg.noticeLine) :
    ((s.modSeg g f).seg g).Aside (s.seg g) := by
  rw [State.seg_modSeg_self]
  exact ⟨engine _, line _, congrArg _ (notice _), .inl (congrArg _ (notice _))⟩

theorem State.leaveServing_aside (s : State) (g : Seg) : ((s.leaveServing g).seg g).Aside (s.seg g) := by
  by_cases none : (s.seg g).handed = none
  · rw [State.leaveServing_idle none, State.markChoice_seg]
    exact .modSeg (fun _ => rfl) (fun _ => rfl) fun _ => rfl
  · by_cases free : (s.seg g).monitor = .free
    · rw [State.leaveServing_starts none free]
      exact .modSeg (fun _ => rfl) (fun _ => rfl) fun _ => rfl
    · rw [State.leaveServing_waits none free]
      exact .modSeg (fun _ => rfl) (fun _ => rfl) fun _ => rfl

/-- The target role evaluates the winner's address beside them (R49). -/
theorem addressSeen_aside (s : State) (g : Seg) (b : Byte) : ((addressSeen g b s).seg g).Aside (s.seg g) := by
  by_cases evaluates : (s.seg g).evaluates = true
  · rw [addressSeen_evaluated evaluates rfl]
    cases (s.seg g).decide b with
    | receive | serve | refuse => exact .modSeg (fun _ => rfl) (fun _ => rfl) fun _ => rfl
    | hold ix =>
      have claimed := ((State.placeClaimOnce_same (s.modSeg g fun sg =>
        { sg.modStation ix (fun st => { st with waits := bump st.waits }) with
          sc := .serving, service := .holding ix sg.config.holdLimit }) (.station g ix .waiting)).seg g).aside
      rw [State.seg_modSeg_self] at claimed
      exact ⟨claimed.engine, claimed.noticeLine, claimed.retries, claimed.noticeState⟩
    | noMatch =>
      simp only [State.serveDecision]
      split
      · exact s.leaveServing_aside g
      · rfl
  · rw [addressSeen_ignored (Bool.eq_false_iff.mpr evaluates)]

/-- They stand as they were when an activity leaves the bus. -/
theorem State.leaveBus_aside (s : State) (g : Seg) (w : TxWay) : ((s.leaveBus g w).seg g).Aside (s.seg g) := by
  have left : ((s.modSeg g (·.afterWay w)).seg g).Aside (s.seg g) := by
    rw [State.seg_modSeg_self]
    cases w <;> simp only [Segment.afterWay, seeStop_eq] <;> exact ⟨rfl, rfl, rfl, .inl rfl⟩
  unfold State.leaveBus
  simp only [State.markChoice_seg]
  cases w with
  | lostFirst b => exact (addressSeen_aside _ g b).trans left
  | _ => exact left

/-! ### The results of the Engine's commands -/

section Outcomes

variable {s : State} {g : Seg} {r : TxRun} {w : TxWay} {eighth : Bool}

/-- The result of the command that the sweep state issues. -/
theorem State.enrolEnds_eq {st : SweepState} {bus : List BusAnswer} {stopMade : Bool} (state : (s.seg g).engine.state = st)
    (result : s.txEnd g .enrol bus stopMade = some (r, w)) : s.enrolEnds st g bus stopMade =
      (s.leaveBus g w).engineOutcome g r w ((s.seg g).stretch == some true) := by
  simp [State.enrolEnds, state, result]

theorem State.modEngine_state {f : Engine → Engine} (h : ∀ e, (f e).state = e.state) :
    ((s.modEngine g f).seg g).engine.state = (s.seg g).engine.state := by
  simp [State.modEngine, h]

/-- Each command's result goes by the command's own rule (R109 to R119). -/
theorem State.engineOutcome_calling (state : (s.seg g).engine.state = .calling) :
    s.engineOutcome g r w eighth = (s.modEngine g (·.afterResult w)).callOutcome g r w := by
  simp only [State.engineOutcome, State.modEngine_state (Engine.afterResult_state · w), state]

theorem State.engineOutcome_identifying (state : (s.seg g).engine.state = .identifying) :
    s.engineOutcome g r w eighth = (s.modEngine g (·.afterResult w)).identifyOutcome g r w := by
  simp only [State.engineOutcome, State.modEngine_state (Engine.afterResult_state · w), state]

theorem State.engineOutcome_assigning (state : (s.seg g).engine.state = .assigning) :
    s.engineOutcome g r w eighth = (s.modEngine g (·.afterResult w)).assignOutcome g r w := by
  simp only [State.engineOutcome, State.modEngine_state (Engine.afterResult_state · w), state]

theorem State.engineOutcome_parking (state : (s.seg g).engine.state = .parking) :
    s.engineOutcome g r w eighth = (s.modEngine g (·.afterResult w)).parkOutcome g r w := by
  simp only [State.engineOutcome, State.modEngine_state (Engine.afterResult_state · w), state]

theorem State.engineOutcome_forgetting (state : (s.seg g).engine.state = .forgetting) :
    s.engineOutcome g r w eighth = (s.modEngine g (·.afterResult w)).forgetOutcome g r w eighth := by
  simp only [State.engineOutcome, State.modEngine_state (Engine.afterResult_state · w), state]

/-- A CALL (R109). -/
theorem State.callOutcome_answered (acked : r.checkAcked = true) :
    s.callOutcome g r .finished = s.modEngine g fun e => { e with state := .identifying } :=
  if_pos ⟨rfl, acked⟩

theorem State.callOutcome_notTaken (none : notTaken r w = true) : s.callOutcome g r w = s.endSweep g .complete := by
  have other : ¬ (w = .finished ∧ r.checkAcked = true) := by
    rintro ⟨rfl, acked⟩
    simp [notTaken, TxWay.refused, acked] at none
  exact (if_neg other).trans (if_pos none)

/-- An IDENTIFY (R110). -/
theorem State.identifyOutcome_matched (matched : r.matched = true) : s.identifyOutcome g r .finished =
    (s.modEngine g (·.keep (foundIn r.read))).decideIdentity g (foundIn r.read) :=
  (if_pos rfl).trans (if_pos matched)

theorem State.identifyOutcome_again (other : r.matched = false) (few : (s.seg g).engine.identRetries < 3) :
    s.identifyOutcome g r .finished = s.modEngine g fun e => { e with identRetries := e.identRetries + 1 } :=
  (if_pos rfl).trans ((if_neg (by simp [other])).trans (if_pos few))

theorem State.identifyOutcome_corrupt (other : r.matched = false) (many : 3 ≤ (s.seg g).engine.identRetries) :
    s.identifyOutcome g r .finished = s.endSweep g .corrupt :=
  (if_pos rfl).trans ((if_neg (by simp [other])).trans (if_neg (Nat.not_lt.mpr many)))

theorem State.identifyOutcome_refused (refused : w.refused = true) : s.identifyOutcome g r w = s.endSweep g .complete := by
  cases w <;> first | rfl | cases refused

end Outcomes

/-- The identity and the class code that were read. -/
theorem foundIn_eq {read : List Byte} {f : Found} (identity : ∀ k (h : k < 8), f.identity[k] = read.getD k 0)
    (cls : f.cls = read.getD 8 0) : foundIn read = f := by
  have same : (foundIn read).identity = f.identity := Vector.ext fun k h => by
    simp only [foundIn, Vector.getElem_ofFn]
    exact (identity k h).symm
  cases f
  simp only [foundIn, Found.mk.injEq]
  exact ⟨same, cls.symm⟩

/-- Settles O53, by the command and by how its bytes ended. -/
theorem callAndIdentifyRead : Obligations.CallAndIdentifyRead := by
  unfold Obligations.CallAndIdentifyRead
  intro s g bus how running runs handed quiet r ended stopped refused
  have engine : ((s.stoppedAt g).seg g).engine = (s.seg g).engine := by simp [State.stoppedAt]
  have result : s.txEnd g .enrol bus true = some (r, how.way true) := State.txEnd_ended runs handed quiet ended
  have way (h : refused) : how.way true = .addressRefused ∨ how.way true = .dataRefused :=
    h.imp (fun h => by rw [h]; rfl) fun h => by rw [h]; rfl
  refine ⟨fun state => ?calling, fun state => ?identifying⟩
  case calling =>
    intro e
    have ends {w : TxWay} {t : State} (way : how.way true = w) (stops : w.stops = true)
        (h : ((s.stoppedAt g).modEngine g (·.afterResult w)).callOutcome g r w = t) : Ends e t := by
      refine act_leaves (f := (·.enrolEnds .calling g bus true)) running ((State.enrolEnds_eq state result).trans ?_)
      rw [way, State.leaveBus_stops stops]
      exact (State.engineOutcome_calling (engine ▸ state)).trans h
    refine ⟨fun finished acked => ends (w := .finished) (by rw [finished]; rfl) rfl ?_,
      fun finished none => ends (w := .finished) (by rw [finished]; rfl) rfl ?_, fun refuses => ?_⟩
    · exact (State.callOutcome_answered acked).trans (State.modSeg_modSeg ..)
    · exact State.callOutcome_notTaken (by simp [notTaken, none])
    · rcases way refuses with w | w
      · exact ends w rfl (State.callOutcome_notTaken rfl)
      · exact ends w rfl (State.callOutcome_notTaken rfl)
  case identifying =>
    intro e
    have ends {w : TxWay} {t : State} (way : how.way true = w) (stops : w.stops = true)
        (h : ((s.stoppedAt g).modEngine g (·.afterResult w)).identifyOutcome g r w = t) : Ends e t := by
      refine act_leaves (f := (·.enrolEnds .identifying g bus true)) running ((State.enrolEnds_eq state result).trans ?_)
      rw [way, State.leaveBus_stops stops]
      exact (State.engineOutcome_identifying (engine ▸ state)).trans h
    have retries : (((s.stoppedAt g).modEngine g (·.afterResult .finished)).seg g).engine.identRetries =
        (s.seg g).engine.identRetries := by
      simp [State.modEngine, engine, Engine.afterResult]
    refine ⟨fun finished matched f identity cls => ends (w := .finished) (by rw [finished]; rfl) rfl ?_,
      fun finished other => ⟨fun few => ends (w := .finished) (by rw [finished]; rfl) rfl ?_,
        fun many => ends (w := .finished) (by rw [finished]; rfl) rfl ?_⟩, fun refuses => ?_⟩
    · rw [State.identifyOutcome_matched matched, foundIn_eq identity cls]
      exact congrArg (·.decideIdentity g f) (State.modSeg_modSeg ..)
    · exact (State.identifyOutcome_again other (retries ▸ few)).trans (State.modSeg_modSeg ..)
    · exact State.identifyOutcome_corrupt other (retries ▸ many)
    · rcases way refuses with w | w
      · exact ends w rfl (State.identifyOutcome_refused rfl)
      · exact ends w rfl (State.identifyOutcome_refused rfl)

/-! ### The decision on an identity -/

section Decide

variable {s : State} {g : Seg}

theorem State.poolOffers_iff {a : Addr} : s.poolOffers g a = true ↔
    (s.seg g).config.poolFirst.toNat ≤ a.toNat ∧ a.toNat ≤ (s.seg g).config.poolLast.toNat ∧
      (∀ h e, s.entryAt h = some e → e.segment = g → e.address ≠ a) ∧ a ∉ (s.seg g).config.reserved := by
  simp [State.poolOffers, ← State.entryByAddress_eq_none_iff, and_assoc]

/-- The lowest address of the pool that is offered (R112). -/
theorem State.poolAddress_eq_some {a : Addr} (offers : s.poolOffers g a = true)
    (lowest : ∀ b, b.toNat < a.toNat → s.poolOffers g b = false) : s.poolAddress g = some a := by
  have found : (List.range 128).find? (fun n => s.poolOffers g (BitVec.ofNat 7 n)) = some a.toNat := by
    refine List.find?_range_eq_some.mpr ⟨by simpa using offers, List.mem_range.mpr a.isLt, fun n below => ?_⟩
    have number : (BitVec.ofNat 7 n).toNat = n := by
      rw [BitVec.toNat_ofNat, Nat.mod_eq_of_lt (below.trans a.isLt)]
    simpa using lowest (BitVec.ofNat 7 n) (by omega)
  rw [State.poolAddress, allAddrs, List.find?_map]
  exact (congrArg (Option.map _) found).trans (congrArg some (by simp))

theorem State.poolAddress_eq_none (none : ∀ a, s.poolOffers g a = false) : s.poolAddress g = Option.none := by
  simp [State.poolAddress, none]

/-- An address is chosen from the pool, or the sweep ends POOL_EXHAUSTED (R112). -/
theorem State.chooseAddress_some {a : Addr} (pool : s.poolAddress g = some a) :
    s.chooseAddress g = s.modEngine g (·.assign a) := by
  simp [State.chooseAddress, pool]

theorem State.chooseAddress_none (pool : s.poolAddress g = none) : s.chooseAddress g = s.endSweep g .poolExhausted := by
  simp [State.chooseAddress, pool]

variable {f : Found} {h : Handle} {e : Entry}

/-- The lines of Table 7-4 (R111). -/
theorem State.decideIdentity_here (found : s.entryByIdentity f.identity = some h) (entry : s.entryAt h = some e)
    (here : e.segment = g) : s.decideIdentity g f = s.modEngine g (·.assign e.address) := by
  simp [State.decideIdentity, found, entry, here]

theorem State.decideIdentity_moves (found : s.entryByIdentity f.identity = some h) (entry : s.entryAt h = some e)
    (away : e.segment ≠ g) (missing : e.state = .missing) : s.decideIdentity g f = s.chooseAddress g := by
  simp [State.decideIdentity, found, entry, away, missing]

theorem State.decideIdentity_parks (found : s.entryByIdentity f.identity = some h) (entry : s.entryAt h = some e)
    (away : e.segment ≠ g) (there : e.state ≠ .missing) : s.decideIdentity g f =
      (s.claimConflict g f h e.segment).modEngine g fun e => { e with state := .parking } := by
  simp [State.decideIdentity, found, entry, away, there]

theorem State.decideIdentity_new (new : s.entryByIdentity f.identity = none) {free : Handle}
    (room : s.freeHandle = some free) : s.decideIdentity g f = s.chooseAddress g := by
  simp [State.decideIdentity, new, room]

theorem State.decideIdentity_full (new : s.entryByIdentity f.identity = none) (full : s.freeHandle = none) :
    s.decideIdentity g f = s.endSweep g .rosterFull := by
  simp [State.decideIdentity, new, full]

end Decide

/-- Settles O54, by the line of Table 7-4. -/
theorem identityDecidedByTable : Obligations.IdentityDecidedByTable := by
  unfold Obligations.IdentityDecidedByTable
  intro s g f assigns offers chooses
  have chosen {t : State} (h : t = s.chooseAddress g) : chooses t := by
    subst h
    refine ⟨fun a offered lowest => ?_, fun none => ?_⟩
    · exact State.chooseAddress_some (State.poolAddress_eq_some (State.poolOffers_iff.mpr offered)
        fun b below => Bool.eq_false_iff.mpr fun o => lowest b below (State.poolOffers_iff.mp o))
    · exact State.chooseAddress_none (State.poolAddress_eq_none
        fun a => Bool.eq_false_iff.mpr fun o => none a (State.poolOffers_iff.mp o))
  refine ⟨fun h e entry holds alone => ?known, fun none => ?new⟩
  case known =>
    have found : s.entryByIdentity f.identity = some h := State.entryByIdentity_eq_some entry holds alone
    refine ⟨State.decideIdentity_here found entry, fun away missing => chosen (State.decideIdentity_moves found entry away missing),
      fun away there => ⟨fun fresh => ?_, fun c waiting => ?_⟩⟩
    · rw [State.decideIdentity_parks found entry away there]
      have same : (s.modSeg g fun sg =>
          { sg with conflictClaim := some (conflictClaimAfter sg.conflictClaim f h e.segment) }) =
          s.modSeg g fun sg => { sg with conflictClaim := some ⟨f, h, e.segment, 1⟩ } :=
        State.modSeg_congr s g (by rw [fresh]; rfl)
      rw [State.claimConflict, fresh, same]
      rfl
    · rw [State.decideIdentity_parks found entry away there]
      have same : (s.modSeg g fun sg =>
          { sg with conflictClaim := some (conflictClaimAfter sg.conflictClaim f h e.segment) }) =
          s.modSeg g fun sg => { sg with conflictClaim := some ⟨f, h, e.segment, min (c.conflicts + 1) 255⟩ } :=
        State.modSeg_congr s g (by rw [waiting]; rfl)
      rw [State.claimConflict, waiting, Option.isSome_some, if_pos rfl, same]
      exact State.modSeg_modSeg ..
  case new =>
    have new : s.entryByIdentity f.identity = Option.none := State.entryByIdentity_eq_none_iff.mpr none
    refine ⟨fun ⟨h, free⟩ => ?_, fun full => State.decideIdentity_full new (State.freeHandle_eq_none_iff.mpr full)⟩
    cases room : s.freeHandle with
    | none => exact absurd free (State.freeHandle_eq_none_iff.mp room h)
    | some k => exact chosen (State.decideIdentity_new new room)

/-! ### Losses, and the end of the work -/

/-- A result that is neither an end of the command's bytes nor read by the command's own rule (R113 to R115, R119). -/
theorem Engine.reads_unread {e : Engine} {r : TxRun} {w : TxWay} {eighth : Bool} (busy : e.state ≠ .none)
    (begun : e.state ≠ .pending) (notFinished : w ≠ .finished) (notRefused : w.refused = false)
    (untaken : e.state = .assigning ∨ e.state = .parking → taken r w = false)
    (unreached : e.state = .forgetting → forgetReached r eighth w = false) : e.reads r w eighth = false := by
  have none : notTaken r w = false := by simp [notTaken, notRefused, notFinished]
  unfold Engine.reads
  cases state : e.state with
  | none => exact absurd state busy
  | pending => exact absurd state begun
  | calling => simp [none, notFinished]
  | identifying => simp [notRefused, notFinished]
  | assigning => simp [none, untaken (.inl state)]
  | parking => simp [none, untaken (.inr state)]
  | forgetting => exact unreached state

/-- A loss in the first address byte is counted, or ends the work at the ninth (R115). -/
theorem State.engineOutcome_lostFirst {s : State} {g : Seg} {r : TxRun} {b : Byte} {eighth : Bool}
    (other : (s.seg g).engine.reads r (.lostFirst b) eighth = false) : s.engineOutcome g r (.lostFirst b) eighth =
      if (s.seg g).engine.losses < 8 then s.modSeg g fun sg => { sg with engine := { sg.engine with
        losses := (s.seg g).engine.losses + 1, retryWait := some sg.config.backoffUnit } }
      else s.endSweep g .interrupted := by
  have same : s.modEngine g (·.afterResult (.lostFirst b)) = s := State.modSeg_id s g rfl
  rw [State.engineOutcome_other other, same]
  by_cases few : (s.seg g).engine.losses < 8
  · exact (if_pos few).trans ((State.modSeg_congr s g rfl).trans (if_pos few).symm)
  · exact (if_neg few).trans (if_neg few).symm

/-- The command that names the end of the work in hand. -/
theorem exec_enrolEnds {s : State} {g : Seg} {bus : List BusAnswer} {stopMade : Bool} {c : Instr}
    (command : ((s.seg g).engine.state, c) ∈ [(SweepState.calling, Instr.callEnd g bus stopMade),
      (.identifying, .identifyEnd g bus stopMade), (.assigning, .assignEnd g bus stopMade),
      (.parking, .parkEnd g bus stopMade), (.forgetting, .forgetEnd g bus stopMade)]) :
    (s.seg g).engine.state ≠ .none ∧ (s.seg g).engine.state ≠ .pending ∧
      exec c s = act (·.enrolEnds (s.seg g).engine.state g bus stopMade) s := by
  simp only [List.mem_cons, Prod.mk.injEq, List.not_mem_nil, or_false] at command
  rcases command with ⟨state, rfl⟩ | ⟨state, rfl⟩ | ⟨state, rfl⟩ | ⟨state, rfl⟩ | ⟨state, rfl⟩ <;>
    exact ⟨by simp [state], by simp [state], by rw [state]; rfl⟩

/-- Settles O56, by how the transaction ended. -/
theorem enrolmentLossesAndEnd : Obligations.EnrolmentLossesAndEnd := by
  unfold Obligations.EnrolmentLossesAndEnd
  refine ⟨fun s g bus stopMade c running runs handed command => ?results, fun s g cause => ?ends⟩
  case results =>
    intro r left taken' reached
    obtain ⟨busy, begun, named⟩ := exec_enrolEnds command
    have ends {r' : TxRun} {w : TxWay} {t : State} (result : s.txEnd g .enrol bus stopMade = some (r', w))
        (h : (s.leaveBus g w).engineOutcome g r' w ((s.seg g).stretch == some true) = t) : Ends (exec c s) t := by
      rw [named]
      exact act_leaves (f := (·.enrolEnds _ g bus stopMade)) running ((State.enrolEnds_eq rfl result).trans h)
    have engine (w : TxWay) : ((s.leaveBus g w).seg g).engine = (s.seg g).engine := (s.leaveBus_aside g w).engine
    have acked {r' : TxRun} (same : r'.checkAcked = r.checkAcked) {w : TxWay}
        (untaken : ¬ taken' ∨ w ≠ .busFault true) (other : w ≠ .finished) :
        (s.seg g).engine.state = .assigning ∨ (s.seg g).engine.state = .parking → taken r' w = false := by
      intro state
      rcases untaken with no | no
      · have none : r.checkAcked = false := Bool.eq_false_iff.mpr fun acked => no ⟨state, acked⟩
        simp [taken, same, none]
      · simp [taken, no, other]
    refine ⟨fun quiet => ⟨fun w lost => ?first, fun lost => ?later, fun how fails ended notLater notFirst untaken unreached =>
      ?failed⟩, fun stretched unreached => ⟨fun made => ?timeout, fun fails untaken => ?timeoutFailed⟩⟩
    case first =>
      have unread : ((s.leaveBus g (.lostFirst w)).seg g).engine.reads r (.lostFirst w)
          ((s.seg g).stretch == some true) = false := by
        rw [engine]
        exact Engine.reads_unread busy begun (by simp) rfl (acked rfl (.inr (by simp)) (by simp)) fun _ => rfl
      have outcome := State.engineOutcome_lostFirst unread
      rw [engine] at outcome
      have result := State.txEnd_ended (stopMade := stopMade) runs handed quiet lost
      exact ⟨fun few => ends result (outcome.trans (if_pos few)),
        fun many => ends result (outcome.trans (if_neg (Nat.not_lt.mpr many)))⟩
    case later =>
      refine ends (State.txEnd_ended runs handed quiet lost) (State.engineOutcome_interrupted (w := .lostLater) ?_ (by simp))
      rw [engine]
      exact Engine.reads_unread busy begun (by simp) rfl (acked rfl (.inr (by simp)) (by simp)) fun _ => rfl
    case failed =>
      have way : how.way stopMade = .busFault true := by
        subst fails
        cases how with
        | lostFirst w => exact absurd rfl (notFirst w)
        | lostLater => exact absurd rfl notLater
        | _ => rfl
      have result := State.txEnd_ended (stopMade := stopMade) runs handed quiet ended
      rw [way] at result
      refine ends result (State.engineOutcome_interrupted (w := .busFault true) ?_ (by simp))
      rw [engine]
      refine Engine.reads_unread busy begun (by simp) rfl (acked rfl (.inl untaken) (by simp)) fun state => ?_
      have unsent : (runTx (s.descOf g .enrol) bus).checkSent = false :=
        Bool.eq_false_iff.mpr fun sent => unreached ⟨state, .inl sent⟩
      simp [forgetReached, checkByteSent, unsent, quiet]
    all_goals
      have unsent (state : (s.seg g).engine.state = .forgetting) :
          checkByteSent (r.afterStretch true) ((s.seg g).stretch == some true) = false := by
        have unsent : r.checkSent = false := Bool.eq_false_iff.mpr fun sent => unreached ⟨state, .inl sent⟩
        have unheld : ¬ (r.phase = .checkOut ∧ (s.seg g).stretch = some true) := fun held => unreached ⟨state, .inr held⟩
        simpa [checkByteSent, TxRun.afterStretch, unsent] using unheld
    case timeout =>
      subst made
      have result : s.txEnd g .enrol bus true = some (r.afterStretch true, .stretchTimeout) :=
        State.txEnd_stretched runs handed stretched
      rw [← State.leaveBus_stops (w := .stretchTimeout) rfl]
      refine ends result (State.engineOutcome_interrupted ?_ (by simp))
      rw [engine]
      exact Engine.reads_unread busy begun (by simp) rfl (acked rfl (.inr (by simp)) (by simp)) unsent
    case timeoutFailed =>
      subst fails
      have result : s.txEnd g .enrol bus false = some (r.afterStretch true, .busFault true) :=
        State.txEnd_stretched runs handed stretched
      refine ends result (State.engineOutcome_interrupted (w := .busFault true) ?_ (by simp))
      rw [engine]
      exact Engine.reads_unread busy begun (by simp) rfl (acked rfl (.inl untaken) (by simp)) unsent
  case ends =>
    intro cleared
    refine ⟨fun fresh => ?_, fun c waiting => ?_⟩
    · have same : (s.modSeg g fun sg => { sg with
          engine := Engine.reset, sweepClaim := some (sweepClaimAfter sg.sweepClaim cause sg.engine.assigned) }) =
          cleared ⟨cause, (s.seg g).engine.assigned, 1⟩ := State.modSeg_congr s g (by rw [fresh]; rfl)
      rw [State.endSweep, fresh, same]
      rfl
    · have same : (s.modSeg g fun sg => { sg with
          engine := Engine.reset, sweepClaim := some (sweepClaimAfter sg.sweepClaim cause sg.engine.assigned) }) =
          cleared ⟨cause, (s.seg g).engine.assigned, min (c.ends + 1) 255⟩ :=
        State.modSeg_congr s g (by rw [waiting]; rfl)
      rw [State.endSweep, waiting, same]
      rfl

end Sys2Proof.Machine

/-!
How the Enrolment Engine reads the results of ASSIGN, PARK and FORGET (R113, R114, R119).
-/

namespace Sys2Proof.Machine

/-- A result other than a loss in the first address byte makes the loss count 0 (R115). -/
theorem State.modEngine_afterResult (s : State) (g : Seg) {w : TxWay} (notFirst : ∀ b, w ≠ .lostFirst b) :
    s.modEngine g (·.afterResult w) = s.modSeg g fun sg => { sg with engine := { sg.engine with losses := 0 } } := by
  cases w with
  | lostFirst b => exact absurd rfl (notFirst b)
  | _ => rfl

/-! ### A command that was taken, or refused -/

section Read

variable {s : State} {g : Seg} {bus : List BusAnswer} {stopMade : Bool} {base : State}

/-- How a result reaches the Engine: the way it ended, the state once its activity has left the bus, and that a loss count
ends with it. -/
structure State.EngineReads (s : State) (g : Seg) (bus : List BusAnswer) (stopMade : Bool) (base : State) (r : TxRun)
    (w : TxWay) : Prop where
  result : s.txEnd g .enrol bus stopMade = some (r, w)
  left : s.leaveBus g w = base
  notFirst : ∀ b, w ≠ .lostFirst b

variable {r : TxRun} {w : TxWay} {st : SweepState}

theorem State.EngineReads.enrolEnds (reads : s.EngineReads g bus stopMade base r w) (state : (s.seg g).engine.state = st) :
    s.enrolEnds st g bus stopMade = base.engineOutcome g r w ((s.seg g).stretch == some true) := by
  rw [State.enrolEnds_eq state reads.result, reads.left]

/-- The result of a command whose check byte was acknowledged, also where the stop after it failed (R113, R114). -/
theorem State.engineReads_taken (runs : (s.seg g).sc = .controlling) (handed : (s.seg g).handed = some .enrol)
    (finished : (runTx (s.descOf g .enrol) bus).phase = .ended .finished)
    (acked : (runTx (s.descOf g .enrol) bus).checkAcked = true)
    (stop : (stopMade = true ∧ (s.seg g).stretch = none ∧ base = s.stoppedAt g) ∨
      (stopMade = false ∧ base = s.stopFailedAt g)) :
    ∃ r w, s.EngineReads g bus stopMade base r w ∧ taken r w = true := by
  rcases stop with ⟨rfl, quiet, rfl⟩ | ⟨rfl, rfl⟩
  · exact ⟨_, .finished, ⟨State.txEnd_ended runs handed quiet finished, State.leaveBus_stops rfl, by simp⟩,
      by simp [taken, acked]⟩
  · by_cases quiet : (s.seg g).stretch = none
    · exact ⟨_, .busFault true, ⟨State.txEnd_ended runs handed quiet finished, rfl, by simp⟩, by simp [taken, acked]⟩
    · exact ⟨_, .busFault true, ⟨State.txEnd_stretched runs handed quiet, rfl, by simp⟩,
        by simp [taken, TxRun.afterStretch, acked]⟩

/-- The result of a command that the devices refused (R113, R114). -/
theorem State.engineReads_refused (runs : (s.seg g).sc = .controlling) (handed : (s.seg g).handed = some .enrol)
    (quiet : (s.seg g).stretch = none)
    (refused : (runTx (s.descOf g .enrol) bus).phase = .ended .addressRefused ∨
      (runTx (s.descOf g .enrol) bus).phase = .ended .dataRefused ∨
      ((runTx (s.descOf g .enrol) bus).phase = .ended .finished ∧ (runTx (s.descOf g .enrol) bus).checkAcked = false)) :
    ∃ r w, s.EngineReads g bus true (s.stoppedAt g) r w ∧ taken r w = false ∧ notTaken r w = true := by
  rcases refused with ended | ended | ⟨ended, none⟩
  · exact ⟨_, .addressRefused, ⟨State.txEnd_ended runs handed quiet ended, State.leaveBus_stops rfl, by simp⟩,
      by simp [taken], rfl⟩
  · exact ⟨_, .dataRefused, ⟨State.txEnd_ended runs handed quiet ended, State.leaveBus_stops rfl, by simp⟩,
      by simp [taken], rfl⟩
  · exact ⟨_, .finished, ⟨State.txEnd_ended runs handed quiet ended, State.leaveBus_stops rfl, by simp⟩,
      by simp [taken, none], by simp [notTaken, none]⟩

/-- The result of a FORGET that reached the devices (R119). -/
theorem State.engineReads_reached (runs : (s.seg g).sc = .controlling) (handed : (s.seg g).handed = some .enrol)
    (stop : (stopMade = true ∧ base = s.stoppedAt g) ∨ (stopMade = false ∧ base = s.stopFailedAt g))
    (ended : (s.seg g).stretch = none → stopMade = true ∧
        ((runTx (s.descOf g .enrol) bus).phase = .ended .finished ∨
          (runTx (s.descOf g .enrol) bus).phase = .ended .addressRefused ∨
          (runTx (s.descOf g .enrol) bus).phase = .ended .dataRefused) ∨
      stopMade = false ∧ (runTx (s.descOf g .enrol) bus).phase = .ended .finished ∧
        (runTx (s.descOf g .enrol) bus).checkSent = true)
    (late : (s.seg g).stretch ≠ none → (runTx (s.descOf g .enrol) bus).checkSent = true ∨
      ((runTx (s.descOf g .enrol) bus).phase = .checkOut ∧ (s.seg g).stretch = some true)) :
    ∃ r w, s.EngineReads g bus stopMade base r w ∧ forgetReached r ((s.seg g).stretch == some true) w = true := by
  by_cases quiet : (s.seg g).stretch = none
  · rcases ended quiet with ⟨rfl, phase⟩ | ⟨rfl, phase, sent⟩
    · obtain rfl : base = s.stoppedAt g := by simpa using stop
      rcases phase with phase | phase | phase
      · exact ⟨_, .finished, ⟨State.txEnd_ended runs handed quiet phase, State.leaveBus_stops rfl, by simp⟩, rfl⟩
      · exact ⟨_, .addressRefused, ⟨State.txEnd_ended runs handed quiet phase, State.leaveBus_stops rfl, by simp⟩, rfl⟩
      · exact ⟨_, .dataRefused, ⟨State.txEnd_ended runs handed quiet phase, State.leaveBus_stops rfl, by simp⟩, rfl⟩
    · obtain rfl : base = s.stopFailedAt g := by simpa using stop
      exact ⟨_, .busFault true, ⟨State.txEnd_ended runs handed quiet phase, rfl, by simp⟩,
        by simp [forgetReached, checkByteSent, sent]⟩
  · have sent : checkByteSent ((runTx (s.descOf g .enrol) bus).afterStretch true) ((s.seg g).stretch == some true) = true := by
      simpa [checkByteSent, TxRun.afterStretch] using late quiet
    rcases stop with ⟨rfl, rfl⟩ | ⟨rfl, rfl⟩
    · exact ⟨_, .stretchTimeout, ⟨State.txEnd_stretched runs handed quiet, State.leaveBus_stops rfl, by simp⟩, sent⟩
    · exact ⟨_, .busFault true, ⟨State.txEnd_stretched runs handed quiet, rfl, by simp⟩, sent⟩

end Read

/-! ### What the commands make of it -/

section Commands

variable {s : State} {g : Seg} {r : TxRun} {w : TxWay}

/-- A refused command is issued again, or the sweep ends CORRUPT (R113, R114). -/
theorem State.enrolRefused_again (few : (s.seg g).engine.cmdRetries < 3) :
    s.enrolRefused g = s.modEngine g fun e => { e with cmdRetries := e.cmdRetries + 1 } := if_pos few

theorem State.enrolRefused_corrupt (many : 3 ≤ (s.seg g).engine.cmdRetries) : s.enrolRefused g = s.endSweep g .corrupt :=
  if_neg (Nat.not_lt.mpr many)

theorem State.assignOutcome_taken (took : taken r w = true) : s.assignOutcome g r w = s.assignTaken g := if_pos took

theorem State.assignOutcome_refused (untaken : taken r w = false) (refused : notTaken r w = true) :
    s.assignOutcome g r w = s.enrolRefused g := by
  simp [State.assignOutcome, untaken, refused]

theorem State.parkOutcome_taken (took : taken r w = true) :
    s.parkOutcome g r w = s.modEngine g fun e => { e with current := none, state := .identifying } := if_pos took

theorem State.parkOutcome_refused (untaken : taken r w = false) (refused : notTaken r w = true) :
    s.parkOutcome g r w = s.enrolRefused g := by
  simp [State.parkOutcome, untaken, refused]

theorem State.forgetOutcome_reached {eighth : Bool} (reached : forgetReached r eighth w = true) :
    s.forgetOutcome g r w eighth = (allHandles.foldl (State.forgetEntry g) s).endSweep g .forgotten := if_pos reached

/-- The record of an assignment (R113). -/
theorem State.assignTaken_records {t : State} {f : Found} {x : Addr} (current : (s.seg g).engine.current = some f)
    (chosen : (s.seg g).engine.chosen = some x) (records : s.recordAssign g x f = some t) :
    s.assignTaken g = t.afterAssign g := by
  simp [State.assignTaken, current, chosen, records]

theorem State.assignTaken_full {f : Found} {x : Addr} (current : (s.seg g).engine.current = some f)
    (chosen : (s.seg g).engine.chosen = some x) (full : s.recordAssign g x f = none) :
    s.assignTaken g = (s.modEngine g (·.counted)).endSweep g .rosterFull := by
  simp [State.assignTaken, current, chosen, full]

/-- The sweep goes on, or ends SWEEP_LIMIT (R113). -/
theorem State.afterAssign_goesOn (few : (s.seg g).engine.assigned + 1 < 32) : s.afterAssign g =
    (s.modEngine g (·.counted)).modEngine g fun e => { e with state := .identifying } := by
  refine if_pos ?_
  simpa [State.modEngine, Engine.counted, Config.sweepLimit] using few

theorem State.afterAssign_limit (many : 32 ≤ (s.seg g).engine.assigned + 1) :
    s.afterAssign g = (s.modEngine g (·.counted)).endSweep g .sweepLimit := by
  refine if_neg ?_
  simpa [State.modEngine, Engine.counted, Config.sweepLimit] using many

variable {f : Found} {x : Addr} {h : Handle} {d : Entry}

/-- The roster's side of an assignment: a device found on the segment, found on another, or new (R113). -/
theorem State.recordAssign_here (found : s.entryByIdentity f.identity = some h) (entry : s.entryAt h = some d)
    (here : d.segment = g) : s.recordAssign g x f = some (s.updateEntry h d
      { d with segment := g, address := x, kind := .enrolled f, state := .present, misses := 0 }) := by
  simp [State.recordAssign, found, entry, here, Entry.reassigned]

theorem State.recordAssign_moves (found : s.entryByIdentity f.identity = some h) (entry : s.entryAt h = some d)
    (away : d.segment ≠ g) : s.recordAssign g x f = some ((s.putEntry h (some
      { d with segment := g, address := x, kind := .enrolled f, state := .present, misses := 0, probeDue := false
        })).rosterChange h false true) := by
  simp [State.recordAssign, found, entry, away, Entry.reassigned]

theorem State.recordAssign_new (new : s.entryByIdentity f.identity = none) (free : s.freeHandle = some h) :
    s.recordAssign g x f = some ((s.putEntry h (some (enrolledEntry g x f))).rosterChange h true false) := by
  simp [State.recordAssign, new, free]

theorem State.recordAssign_full (new : s.entryByIdentity f.identity = none) (full : s.freeHandle = none) :
    s.recordAssign g x f = none := by
  simp [State.recordAssign, new, full]

/-- A change of an entry leaves the engines as they are. -/
theorem State.rosterChange_engine (s : State) (h k : Handle) (e : Option Entry) (created moved : Bool) (g : Seg) :
    (((s.putEntry k e).rosterChange h created moved).seg g).engine = (s.seg g).engine := by
  unfold State.rosterChange
  split
  · simp
  · simp only
    split
    · simp
    · rw [((State.placeClaim_same _ _).seg g).engine]
      simp

end Commands

/-! ### FORGET -/

/-- An entry without its probe and its claim. -/
def Entry.bare (e : Entry) : Entry :=
  { e with probeDue := false, claimWaiting := false, created := false, moved := false, changes := 0 }

/-- What a FORGET makes of an entry (R119). -/
def Entry.afterForget (e : Entry) (g : Seg) : Entry :=
  if e.segment = g ∧ e.isEnrolled = true ∧ e.state = .present then { e with state := .missing, misses := 0 } else e

theorem Entry.bare_afterForget (e : Entry) (g : Seg) : (e.afterForget g).bare = e.bare.afterForget g := by
  have enrolled : e.bare.isEnrolled = e.isEnrolled := rfl
  simp only [Entry.afterForget, enrolled]
  split
  · next gone => exact (if_pos gone).symm
  · next stays => exact (if_neg stays).symm

theorem Entry.afterForget_afterForget (e : Entry) (g : Seg) : (e.afterForget g).afterForget g = e.afterForget g := by
  by_cases gone : e.segment = g ∧ e.isEnrolled = true ∧ e.state = .present
  · have after : e.afterForget g = { e with state := .missing, misses := 0 } := if_pos gone
    rw [after]
    exact if_neg fun again => by cases again.2.2
  · have after : e.afterForget g = e := if_neg gone
    rw [after, after]

/-- What the Roster says of a handle, but for its probe and its claim. -/
def State.bareAt (s : State) (h : Handle) : Option Entry := (s.entryAt h).map Entry.bare

theorem State.SameButClaims.bareAt {t s : State} (same : t.SameButClaims s) (h : Handle) : t.bareAt h = s.bareAt h := by
  have entry := congrArg (Option.map fun v : Seg × Addr × EntryKind × EntryState × Nat × Bool =>
    (⟨v.1, v.2.1, v.2.2.1, v.2.2.2.1, v.2.2.2.2.1, false, false, false, false, 0⟩ : Entry)) (same.entry h)
  rw [Option.map_map, Option.map_map] at entry
  exact entry

theorem State.putEntry_bareAt (s : State) (h k : Handle) (e : Entry) :
    (s.putEntry h (some e)).bareAt k = if k = h then some e.bare else s.bareAt k := by
  by_cases same : k = h
  · subst same
    simp [State.bareAt]
  · simp [State.bareAt, State.entryAt_putEntry_ne _ _ _ _ same, same]

/-- A written entry reads as it was written, whatever claim the writing places (R91). -/
theorem State.updateEntry_bareAt (s : State) (h k : Handle) (old new : Entry) : (s.updateEntry h old new).bareAt k =
    if k = h then some new.bare else s.bareAt k := by
  have noted : (new.noteChange false false).bare = new.bare := by
    unfold Entry.noteChange
    split <;> rfl
  have written := s.putEntry_bareAt h k new
  have claimed := s.putEntry_bareAt h k (new.noteChange false false)
  rw [noted] at claimed
  have entry : (s.putEntry h (some new)).entryAt h = some new := State.entryAt_putEntry_self ..
  simp only [State.updateEntry, State.rosterChange, entry, State.putEntry_putEntry]
  split
  · exact written
  · split
    · exact claimed
    · exact ((State.placeClaim_same _ _).bareAt k).trans claimed

theorem State.forgetEntry_bareAt (s : State) (g : Seg) (h k : Handle) : (s.forgetEntry g h).bareAt k =
    if k = h then (s.bareAt k).map (·.afterForget g) else s.bareAt k := by
  cases entry : s.entryAt h with
  | none =>
    have stays : s.forgetEntry g h = s := by simp [State.forgetEntry, entry]
    rw [stays]
    split
    · next same => simp [State.bareAt, same, entry]
    · rfl
  | some e =>
    have bare : k = h → s.bareAt k = some e.bare := fun same => by simp [State.bareAt, same, entry]
    by_cases gone : e.segment = g ∧ e.isEnrolled = true ∧ e.state = .present
    · have written : s.forgetEntry g h = s.updateEntry h e (e.afterForget g) := by
        simp [State.forgetEntry, entry, gone, Entry.afterForget]
      rw [written, State.updateEntry_bareAt, Entry.bare_afterForget]
      split
      · next same => rw [bare same, Option.map_some]
      · rfl
    · have stays : s.forgetEntry g h = s := by simp [State.forgetEntry, entry, gone]
      have same' : e.bare.afterForget g = e.bare := if_neg gone
      rw [stays]
      split
      · next same => rw [bare same, Option.map_some, same']
      · rfl

/-- Every entry named is forgotten, and no other changes (R119). -/
theorem State.forgetAll_bareAt (g : Seg) (hs : List Handle) (s : State) (k : Handle) :
    (hs.foldl (State.forgetEntry g) s).bareAt k =
      if k ∈ hs then (s.bareAt k).map (·.afterForget g) else s.bareAt k := by
  induction hs generalizing s with
  | nil => simp
  | cons h rest ih =>
    rw [List.foldl_cons, ih, State.forgetEntry_bareAt]
    by_cases same : k = h
    · by_cases again : k ∈ rest
      · rw [if_pos again, if_pos same, if_pos (List.mem_cons_of_mem _ again), Option.map_map]
        exact congrArg (Option.map · _) (funext fun e => e.afterForget_afterForget g)
      · rw [if_neg again, if_pos same, if_pos (same ▸ List.mem_cons_self)]
    · simp [same]

/-- Settles O55, by the command and by what its result says of the devices. -/
theorem assignParkAndForgetRead : Obligations.AssignParkAndForgetRead := by
  unfold Obligations.AssignParkAndForgetRead
  intro s g bus running runs handed r en read counted goesOn refused again takenAt
  have engineStopped : ((s.stoppedAt g).seg g).engine = en := by simp [State.stoppedAt, en]
  have engineFailed : ((s.stopFailedAt g).seg g).engine = en := by simp [State.stopFailedAt, en]
  have refusal {st : SweepState} (state : en.state = st) {e : Host.Outcome State Fault Refusal}
      (command : e = act (·.enrolEnds st g bus true) s)
      (refuses : ∀ {t : State} {r w}, (t.seg g).engine.state = st → taken r w = false → notTaken r w = true →
        ∀ eighth, t.engineOutcome g r w eighth = (t.modEngine g (·.afterResult w)).enrolRefused g) (h : refused) :
      again e := by
    obtain ⟨quiet, how⟩ := h
    obtain ⟨r', w, reads, untaken, none⟩ := State.engineReads_refused runs handed quiet how
    have ends {t : State} (h : ((s.stoppedAt g).modEngine g (·.afterResult w)).enrolRefused g = t) : Ends e t := by
      rw [command]
      exact act_leaves (f := (·.enrolEnds st g bus true)) running ((reads.enrolEnds state).trans
        ((refuses (by rw [engineStopped]; exact state) untaken none _).trans h))
    have after := (s.stoppedAt g).modEngine_afterResult g reads.notFirst
    have retries : (((s.stoppedAt g).modEngine g (·.afterResult w)).seg g).engine.cmdRetries = en.cmdRetries := by
      rw [after, State.seg_modSeg_self, ← engineStopped]
    refine ⟨fun few => ends ?_, fun many => ends ?_⟩
    · rw [State.enrolRefused_again (retries ▸ few), after]
      exact State.modSeg_modSeg ..
    · rw [State.enrolRefused_corrupt (retries ▸ many), after]
      rfl
  refine ⟨fun state => ⟨refusal state rfl ?_, fun stopMade base f x took current chosen => ?assign⟩,
    fun state => ⟨refusal state rfl ?_, fun stopMade base took => ?park⟩,
    fun state stopMade base stop ended late => ?forget⟩
  · intro t r w state untaken none eighth
    rw [State.engineOutcome_assigning state, State.assignOutcome_refused untaken none]
  case assign =>
    intro e taken writes
    obtain ⟨finished, acked, stop⟩ := took
    obtain ⟨r', w, reads, took⟩ := State.engineReads_taken runs handed finished acked stop
    have left : (base.seg g).engine = en ∧ ∀ h, base.entryAt h = s.entryAt h := by
      rcases stop with ⟨_, _, rfl⟩ | ⟨_, rfl⟩
      · exact ⟨engineStopped, s.stoppedAt_entryAt g⟩
      · exact ⟨engineFailed, s.stopFailedAt_entryAt g⟩
    have engine : (taken.seg g).engine = { en with losses := 0 } := by
      rw [← left.1]
      exact congrArg Segment.engine (State.seg_modSeg_self base g _)
    have entryAt (h : Handle) : taken.entryAt h = s.entryAt h := left.2 h
    have gives {t : State} (h : taken.assignTaken g = t) : Ends e t := by
      refine act_leaves (f := (·.enrolEnds .assigning g bus stopMade)) running ((reads.enrolEnds state).trans ?_)
      rw [State.engineOutcome_assigning (by rw [left.1]; exact state), State.assignOutcome_taken took,
        base.modEngine_afterResult g reads.notFirst]
      exact h
    have current' : (taken.seg g).engine.current = some f := by rw [engine]; exact current
    have chosen' : (taken.seg g).engine.chosen = some x := by rw [engine]; exact chosen
    have records {t : State} (record : taken.recordAssign g x f = some t)
        (same : (t.seg g).engine = (taken.seg g).engine) : writes t := by
      have count : (t.seg g).engine.assigned = en.assigned := by rw [same, engine]
      have taken' := State.assignTaken_records current' chosen' record
      exact ⟨fun few => gives (taken'.trans (State.afterAssign_goesOn (count ▸ few))),
        fun many => gives (taken'.trans (State.afterAssign_limit (count ▸ many)))⟩
    refine ⟨fun h d entry holds alone => ?found, fun none => ⟨fun h free lowest => ?new, fun full => ?full⟩⟩
    case found =>
      intro new
      have entry' : taken.entryAt h = some d := (entryAt h).trans entry
      have found : taken.entryByIdentity f.identity = some h :=
        State.entryByIdentity_eq_some entry' holds fun k c there => alone k c ((entryAt k).symm.trans there)
      refine ⟨fun here present => records ((State.recordAssign_here found entry' here).trans ?_) (by simp),
        fun here other => records ((State.recordAssign_here found entry' here).trans ?_)
          (State.rosterChange_engine taken h h _ _ _ g),
        fun away => records (State.recordAssign_moves (d := d) found entry' away) (State.rosterChange_engine taken h h _ _ _ g)⟩
      · exact congrArg some (if_pos present)
      · exact congrArg some (if_neg other)
    case new =>
      have new : taken.entryByIdentity f.identity = Option.none :=
        State.entryByIdentity_eq_none_iff.mpr fun k c there => none k c ((entryAt k).symm.trans there)
      have room : taken.freeHandle = some h :=
        State.freeHandle_eq_some ((entryAt h).trans free) fun k below => (entryAt k).trans_ne (lowest k below)
      exact records (State.recordAssign_new new room) (State.rosterChange_engine taken h h _ _ _ g)
    case full =>
      have new : taken.entryByIdentity f.identity = Option.none :=
        State.entryByIdentity_eq_none_iff.mpr fun k c there => none k c ((entryAt k).symm.trans there)
      have noRoom : taken.freeHandle = Option.none :=
        State.freeHandle_eq_none_iff.mpr fun k => (entryAt k).trans_ne (full k)
      exact gives (State.assignTaken_full current' chosen' (State.recordAssign_full new noRoom))
  · intro t r w state untaken none eighth
    rw [State.engineOutcome_parking state, State.parkOutcome_refused untaken none]
  case park =>
    obtain ⟨finished, acked, stop⟩ := took
    obtain ⟨r', w, reads, took⟩ := State.engineReads_taken runs handed finished acked stop
    have engine : (base.seg g).engine = en := by
      rcases stop with ⟨_, _, rfl⟩ | ⟨_, rfl⟩
      · exact engineStopped
      · exact engineFailed
    refine act_leaves (f := (·.enrolEnds .parking g bus stopMade)) running ((reads.enrolEnds state).trans ?_)
    rw [State.engineOutcome_parking (by rw [engine]; exact state), State.parkOutcome_taken took,
      base.modEngine_afterResult g reads.notFirst]
    exact State.modSeg_modSeg ..
  case forget =>
    intro gone t
    obtain ⟨r', w, reads, reached⟩ := State.engineReads_reached runs handed stop ended late
    have left : (base.seg g).engine = en ∧ ∀ h, base.entryAt h = s.entryAt h := by
      rcases stop with ⟨_, rfl⟩ | ⟨_, rfl⟩
      · exact ⟨engineStopped, s.stoppedAt_entryAt g⟩
      · exact ⟨engineFailed, s.stopFailedAt_entryAt g⟩
    have each : gone = State.forgetEntry g := by
      funext u h
      simp only [gone, State.forgetEntry]
      cases u.entryAt h with
      | none => rfl
      | some d =>
        by_cases reaches : d.segment = g ∧ d.isEnrolled = true ∧ d.state = .present
        · simp only [State.updateEntry_eq_entryBecomes, reaches.2.2]
        · simp only [if_neg reaches]
    have all : t = allHandles.foldl (State.forgetEntry g) (read base id) := by
      simp only [t, each]
      rfl
    refine ⟨?_, fun h => ?_⟩
    · refine act_leaves (f := (·.enrolEnds .forgetting g bus stopMade)) running ((reads.enrolEnds state).trans ?_)
      rw [State.engineOutcome_forgetting (by rw [left.1]; exact state), State.forgetOutcome_reached reached,
        base.modEngine_afterResult g reads.notFirst, all]
      rfl
    · have bare := State.forgetAll_bareAt g allHandles (read base id) h
      rw [← all, if_pos (show h ∈ allHandles from List.mem_finRange h), show (read base id).bareAt h = s.bareAt h from congrArg _ (left.2 h)] at bare
      have view := congrArg (Option.map fun e : Entry => (e.segment, e.address, e.kind, e.state, e.misses)) bare
      simp only [State.bareAt, Option.map_map] at view
      refine view.trans (congrArg (Option.map · (s.entryAt h)) (funext fun e => ?_))
      simp only [Function.comp, ← Entry.bare_afterForget]
      unfold Entry.afterForget
      split <;> rfl

end Sys2Proof.Machine

/-!
The Notice Monitor (Section Nine): the results of its queries, and its line.
-/

namespace Sys2Proof.Machine

/-! ### The states of the notice service -/

/-- The notice service passes to a state with a retry count (R139). -/
def State.noticeBecomes (s : State) (g : Seg) (st : NoticeState) (n : Nat) : State :=
  s.modSeg g fun sg => { sg with notice := { sg.notice with state := st, retries := n } }

/-- The notice claim is placed in a state of the service (R145). -/
def State.noticeClaims (s : State) (g : Seg) (st : NoticeState) (c : NoticeClaim) : State :=
  (s.modSeg g fun sg => { sg with notice := { state := st, retries := 0, claim := some c } }).placeClaimOnce (.notice g)

section Notices

variable {s : State} {g : Seg} {st : NoticeState} {c : NoticeClaim} {n : Nat}

theorem State.noticeBecomes_self (state : (s.seg g).notice.state = st) (retries : (s.seg g).notice.retries = n) :
    s.noticeBecomes g st n = s :=
  State.modSeg_id s g (by rw [← state, ← retries])

theorem State.claimNotice_eq (state : (s.seg g).notice.state = st) (c : NoticeClaim) :
    s.claimNotice g c = s.noticeClaims g st c :=
  congrArg (·.placeClaimOnce (.notice g)) (State.modSeg_congr s g (by simp only [state]))

/-- The service after the entry of claims: its retry count is 0, and it stays off where it was off. -/
theorem State.noticeClaims_aside : ((s.noticeClaims g st c).seg g).Aside
    { s.seg g with notice := { state := st, retries := 0, claim := some c } } := by
  have same := (State.placeClaimOnce_same (s.modSeg g fun sg => { sg with notice :=
    { state := st, retries := 0, claim := some c } }) (.notice g)).seg g
  rw [State.seg_modSeg_self] at same
  exact same.aside

/-- A query's result with a retry count returns the service to WATCHING (R139), whose choice point is due already. -/
theorem State.noticeResume_watches (on : (s.seg g).notice.state ≠ .off) (due : g ∈ s.choiceDue)
    (quiet : (s.seg g).noticeLine = true ∨ n = 0) :
    (s.modNotice g fun m => { m with retries := n }).noticeResume g = s.noticeBecomes g .watching n := by
  have on' : ((s.modNotice g fun m => { m with retries := n }).seg g).notice.state ≠ .off := by
    simpa [State.modNotice] using on
  rw [State.noticeResume_on on']
  by_cases line : (s.seg g).noticeLine = true
  · rw [State.enterWatching_asserted (by simpa [State.modNotice] using line), State.modNotice, State.modSeg_modSeg]
    simp [State.markChoice, due, State.noticeBecomes]
  · rw [State.enterWatching_quiet (by simpa [State.modNotice] using line)
      (by simpa [State.modNotice] using quiet.resolve_left line), State.modNotice, State.modSeg_modSeg]
    rfl

theorem State.noticeResume_claims (on : (s.seg g).notice.state ≠ .off) (line : (s.seg g).noticeLine = false) (counted : 0 < n) :
    (s.modNotice g fun m => { m with retries := n }).noticeResume g =
      s.noticeClaims g .watching (.unclaimed true false) := by
  have on' : ((s.modNotice g fun m => { m with retries := n }).seg g).notice.state ≠ .off := by
    simpa [State.modNotice] using on
  rw [State.noticeResume_on on', State.enterWatching_claims (by simpa [State.modNotice] using line)
    (by simpa [State.modNotice] using counted), State.modNotice, State.modSeg_modSeg]
  rfl

/-- The service that was turned off stays OFF with retry count 0 (R139). -/
theorem State.noticeResume_stays (off : (s.seg g).notice.state = .off) (f : Notice → Notice)
    (keeps : ∀ m, (f m).state = m.state ∧ (f m).claim = m.claim) :
    (s.modNotice g f).noticeResume g = s.noticeBecomes g .off 0 := by
  have off' : ((s.modNotice g f).seg g).notice.state = .off := by
    simpa [State.modNotice, (keeps _).1] using off
  rw [State.noticeResume_off off', State.modNotice, State.modSeg_modSeg]
  exact State.modSeg_congr s g (by simp only [(keeps _).2])

theorem State.modNotice_retries (retries : (s.seg g).notice.retries = n) :
    (s.modNotice g fun m => { m with retries := n }) = s :=
  State.modSeg_id s g (by rw [← retries])

/-- A query that went unclaimed (R142). -/
theorem State.noticePause_on (on : st ≠ .off) : (s.noticeClaims g st c).noticePause g =
    (s.noticeClaims g st c).modSeg g fun sg => { sg with notice := { sg.notice with
      state := if (s.seg g).noticeLine then .paused else .watching } } := by
  have aside := s.noticeClaims_aside (g := g) (st := st) (c := c)
  have on' : ((s.noticeClaims g st c).seg g).notice.state ≠ .off := by
    rcases aside.noticeState with same | ⟨_, watching⟩
    · rw [same]
      exact on
    · rw [watching]
      decide
  have line : ((s.noticeClaims g st c).seg g).noticeLine = (s.seg g).noticeLine := aside.noticeLine
  rw [State.noticePause, if_neg on', line]
  split
  · next asserted => exact State.modSeg_congr _ g rfl
  · next released =>
    have released' : ((s.noticeClaims g st c).seg g).noticeLine = false := line.trans (Bool.eq_false_iff.mpr released)
    rw [State.enterWatching_quiet released' aside.retries]

theorem State.noticePause_off : (s.noticeClaims g .off c).noticePause g = s.noticeClaims g .off c := by
  have aside := s.noticeClaims_aside (g := g) (st := .off) (c := c)
  have off : ((s.noticeClaims g .off c).seg g).notice.state = .off := by
    rcases aside.noticeState with same | ⟨querying, _⟩
    · exact same
    · cases querying
  rw [State.noticePause, if_pos off]
  exact State.noticeBecomes_self off aside.retries

/-- A mismatch, or what is read like one, by the retry count (R143). -/
theorem State.noticeMismatch_few {stretched : Bool} (retries : (s.seg g).notice.retries = n) (few : n < 2) :
    s.noticeMismatch g stretched = (s.modNotice g fun m => { m with retries := n + 1 }).noticeResume g := by
  have same : (s.modNotice g fun m => { m with retries := m.retries + 1 }) = s.modNotice g fun m => { m with retries := n + 1 } :=
    State.modSeg_congr s g (by simp only [retries])
  rw [State.noticeMismatch, retries, if_pos few, same]

theorem State.noticeMismatch_many {stretched : Bool} (state : (s.seg g).notice.state = st)
    (many : 2 ≤ (s.seg g).notice.retries) :
    s.noticeMismatch g stretched = (s.noticeClaims g st (.unclaimed true stretched)).noticePause g := by
  rw [State.noticeMismatch, if_neg (Nat.not_lt.mpr many), State.claimNotice_eq state]

/-- The query was refused (R142). -/
theorem State.noticeOutcome_refused {r : TxRun} (state : (s.seg g).notice.state = st) :
    s.noticeOutcome g r .addressRefused =
      (s.noticeClaims g st (.unclaimed (decide (0 < (s.seg g).notice.retries)) false)).noticePause g :=
  congrArg (·.noticePause g) (State.claimNotice_eq state _)

theorem State.noticeOutcome_mismatch {r : TxRun} (other : r.matched = false) :
    s.noticeOutcome g r .finished = s.noticeMismatch g false := if_neg (by simp [other])

theorem State.noticeOutcome_failed {r : TxRun} (other : r.matched = false) :
    s.noticeOutcome g r (.busFault true) = s.noticeResume g := if_neg (by simp [other])

/-- A good answer (R141), also where the stop after it failed. -/
theorem State.noticeOutcome_good {r : TxRun} {w : TxWay} {a cause : Byte} (way : w = .finished ∨ w = .busFault true)
    (matched : r.matched = true) (read : r.read = [a, cause]) (state : (s.seg g).notice.state = st) :
    s.noticeOutcome g r w = s.noticeClaims g st
      (.notice (a.setWidth 7) cause (s.entryByAddress g (a.setWidth 7)) (s.seg g).notice.retries) := by
  have good : s.noticeOutcome g r w = s.noticeGood g r := by
    rcases way with rfl | rfl
    · exact if_pos matched
    · exact if_pos matched
  rw [good, State.noticeGood, State.claimNotice_eq state, read]
  rfl

end Notices

/-- The entry that holds an address is the one with the lowest handle. -/
theorem State.entryByAddress_eq (s : State) (g : Seg) (a : Addr) : s.entryByAddress g a =
    (List.finRange 64).find? fun h => (s.entryAt h).any fun d => d.segment == g && d.address == a := by
  refine congrArg (List.find? · allHandles) (funext fun h => ?_)
  cases s.entryAt h <;> rfl

theorem State.entryByAddress_congr {s t : State} (same : ∀ h, t.entryAt h = s.entryAt h) (g : Seg) (a : Addr) :
    t.entryByAddress g a = s.entryByAddress g a := by
  simp only [State.entryByAddress_eq, same]

/-- The end of a query that is on the bus. -/
theorem queryEnds_eq {s : State} {g : Seg} {bus : List BusAnswer} {stopMade : Bool} {r : TxRun} {w : TxWay}
    (result : s.txEnd g .notice bus stopMade = some (r, w)) :
    queryEnds g bus stopMade s = (s.leaveBus g w).noticeOutcome g r w := by
  simp [queryEnds, result]

/-- Only the check byte that a read receives is compared, and it ends the transaction (R64, R72). -/
theorem TxRun.answer_matched (d : TxDesc) (r : TxRun) (a : BusAnswer) :
    (r.answer d a).matched = r.matched ∨ (r.answer d a).phase = .ended .finished := by
  unfold TxRun.answer
  cases phase : r.phase with
  | checkIn =>
    cases a with
    | byte b => exact .inr rfl
    | _ => exact .inl rfl
  | ended how => exact .inl rfl
  | data bytes rest =>
    left
    cases bytes with
    | nil => rfl
    | cons b bytes => cases a <;> cases bytes <;> simp only [TxRun.goTo_eq] <;> split <;> rfl
  | _ =>
    left
    cases a <;> simp only [TxRun.goTo_eq, TxRun.lostRead] <;> (repeat' split) <;> rfl

theorem runTx_matched {d : TxDesc} {bus : List BusAnswer} (other : (runTx d bus).phase ≠ .ended .finished) :
    (runTx d bus).matched = false := by
  induction bus using List.reverseRecOn with
  | nil => rfl
  | append_singleton bus a ih =>
    rw [runTx_concat] at other ⊢
    have going : (runTx d bus).phase ≠ .ended .finished := by
      intro ended
      have same : (runTx d bus).answer d a = runTx d bus := by simp [TxRun.answer, ended]
      exact other (same.symm ▸ ended)
    rcases (runTx d bus).answer_matched d a with same | ended
    · exact same.trans (ih going)
    · exact absurd ended other

/-- An activity that leaves the bus is a choice-point event of its segment (R29). -/
theorem State.leaveBus_due (s : State) (g : Seg) (w : TxWay) : g ∈ (s.leaveBus g w).choiceDue := by
  unfold State.leaveBus
  simp only
  split <;> exact State.mem_markChoice ..

/-- Settles O57: the way the query ended, with the service on or off, and the line. -/
theorem noticeQueriesAndLine : Obligations.NoticeQueriesAndLine := by
  unfold Obligations.NoticeQueriesAndLine
  intro s g running count low service becomes claims pauses watches
  refine ⟨fun bus runs handed => ?query, fun released => ?asserts, fun asserted => ?releases⟩
  case query =>
    intro r e stopped faulted seen answer
    have ends {stopMade : Bool} {r : TxRun} {w : TxWay} {t u : State}
        (result : s.txEnd g .notice bus stopMade = some (r, w)) (left : s.leaveBus g w = t)
        (h : t.noticeOutcome g r w = u) : Ends (e stopMade) u :=
      act_leaves running ((queryEnds_eq result).trans ((congrArg (State.noticeOutcome · g r w) left).trans h))
    have aside {w : TxWay} {t : State} (left : s.leaveBus g w = t) : (t.seg g).Aside (s.seg g) := left ▸ s.leaveBus_aside g w
    have due {w : TxWay} {t : State} (left : s.leaveBus g w = t) : g ∈ t.choiceDue := left ▸ s.leaveBus_due g w
    have watched {o : Host.Outcome State Fault Refusal} {w : TxWay} {t : State} {n : Nat} (on : service = .querying)
        (left : s.leaveBus g w = t)
        (h : ∀ u, (t.modNotice g fun m => { m with retries := n }).noticeResume g = u → Ends o u) : watches o t n := by
      have on' : (t.seg g).notice.state ≠ .off := by
        rcases (aside left).noticeState with same | ⟨_, watching⟩
        · rw [same, show (s.seg g).notice.state = _ from on]
          decide
        · rw [watching]
          decide
      have line : (t.seg g).noticeLine = low := (aside left).noticeLine
      exact ⟨fun quiet => h _ (State.noticeResume_watches on' (due left) (line ▸ quiet)),
        fun released counted => h _ (State.noticeResume_claims on' (line.trans released) counted)⟩
    have resumed {w : TxWay} {t : State} (left : s.leaveBus g w = t) :
        (t.modNotice g fun m => { m with retries := count }) = t := State.modNotice_retries (aside left).retries
    have stays {w : TxWay} {t : State} (off : service = .off) (left : s.leaveBus g w = t) :
        (t.seg g).notice.state = .off := by
      rcases (aside left).noticeState with same | ⟨querying, _⟩
      · exact same.trans off
      · cases off.symm.trans querying
    have leftStopped {w : TxWay} (stops : w.stops = true) : s.leaveBus g w = stopped := State.leaveBus_stops stops
    have leftFaulted : s.leaveBus g (.busFault true) = faulted := rfl
    have service' {t : State} (base : t = stopped ∨ t = faulted) {st : NoticeState} (was : service = st) :
        (t.seg g).notice.state = st ∧ (t.seg g).notice.retries = count ∧ (t.seg g).noticeLine = low := by
      rcases base with rfl | rfl
      · simp [stopped, State.stoppedAt, ← was, service, count, low]
      · simp [faulted, State.stopFailedAt, ← was, service, count, low]
    have good {t : State} (base : t = stopped ∨ t = faulted) {w : TxWay} (way : w = .finished ∨ w = .busFault true)
        {st : NoticeState} (was : service = st) {a cause : Byte} (matched : r.matched = true) (read : r.read = [a, cause]) :
        t.noticeOutcome g r w = claims t st (answer a cause) := by
      have entryAt (h : Handle) : t.entryAt h = s.entryAt h := by
        rcases base with rfl | rfl
        · exact s.stoppedAt_entryAt g h
        · exact s.stopFailedAt_entryAt g h
      obtain ⟨state, retries, _⟩ := service' base was
      rw [State.noticeOutcome_good way matched read state, State.entryByAddress_congr entryAt, State.entryByAddress_eq, retries]
      rfl
    have paused {c : NoticeClaim} (was : service = .querying) : (stopped.noticeClaims g .querying c).noticePause g =
        pauses stopped c := by
      rw [State.noticePause_on (by decide), (service' (.inl rfl) was).2.2]
      rfl
    refine ⟨fun how quiet phase on => ?on, fun late on => ?late, fun off none => ⟨fun how quiet phase => ?off, fun late =>
      ?offLate⟩⟩
    case on =>
      have result (stopMade : Bool) : s.txEnd g .notice bus stopMade = some (r, how.way stopMade) :=
        State.txEnd_ended runs handed quiet phase
      obtain ⟨state, retries, _⟩ := service' (.inl rfl) on
      refine ⟨?_, ?_, ?_, ?_, ?_, ?_⟩
      · rintro a cause rfl matched read
        exact ⟨ends (result true) (leftStopped rfl) (good (.inl rfl) (.inl rfl) on matched read),
          ends (result false) leftFaulted (good (.inr rfl) (.inr rfl) on matched read)⟩
      · rintro rfl
        refine ends (result true) (leftStopped rfl) ((State.noticeOutcome_refused state).trans ?_)
        rw [retries]
        exact paused on
      · rintro rfl other
        have mismatch := State.noticeOutcome_mismatch (s := stopped) (g := g) other
        refine ⟨fun few => watched on (leftStopped (w := .finished) rfl) fun u h => ?_, fun many => ?_⟩
        · exact ends (result true) (leftStopped rfl) (mismatch.trans ((State.noticeMismatch_few retries few).trans h))
        · exact ends (result true) (leftStopped rfl)
            (mismatch.trans ((State.noticeMismatch_many state (retries ▸ many)).trans (paused on)))
      · rintro rfl stopMade
        refine watched on (State.leaveBus_lostLater (s := s)) fun u h => ends (result stopMade) rfl ?_
        rwa [resumed (State.leaveBus_lostLater (s := s))] at h
      · rintro w stopMade rfl
        refine watched on (State.leaveBus_lostFirst (s := s) w) fun u h => ends (result stopMade) rfl ?_
        rwa [resumed (State.leaveBus_lostFirst (s := s) w)] at h
      · intro fails
        refine watched on leftFaulted fun u h => ?_
        rw [resumed leftFaulted] at h
        rcases fails with rfl | ⟨rfl, other⟩
        · have other : r.matched = false := runTx_matched (by simp [r, phase])
          exact ends (result false) leftFaulted ((State.noticeOutcome_failed other).trans h)
        · exact ends (result false) leftFaulted ((State.noticeOutcome_failed other).trans h)
    case late =>
      have result (stopMade : Bool) : s.txEnd g .notice bus stopMade =
          some (r.afterStretch true, if stopMade then .stretchTimeout else .busFault true) :=
        State.txEnd_stretched runs handed late
      obtain ⟨state, retries, _⟩ := service' (.inl rfl) on
      refine ⟨fun few => watched on (leftStopped (w := .stretchTimeout) rfl) fun u h => ?_, fun many => ?_,
        watched on leftFaulted fun u h => ?_⟩
      · exact ends (result true) (leftStopped rfl) ((State.noticeMismatch_few retries few).trans h)
      · exact ends (result true) (leftStopped rfl)
          ((State.noticeMismatch_many state (retries ▸ many)).trans (paused on))
      · rw [resumed leftFaulted] at h
        exact ends (result false) leftFaulted ((State.noticeOutcome_failed rfl).trans h)
    all_goals
      have stayed {t : State} {w : TxWay} (left : s.leaveBus g w = t) : t.noticeResume g = becomes t .off 0 := by
        have same := State.noticeResume_stays (stays off left) (fun m => { m with retries := count }) fun m => ⟨rfl, rfl⟩
        rwa [resumed left] at same
      obtain ⟨state, retries, _⟩ := service' (.inl rfl) off
      have few : count < 2 := by omega
      have mismatch (stretched : Bool) : stopped.noticeMismatch g stretched = becomes stopped .off 0 := by
        rw [State.noticeMismatch_few retries few]
        exact State.noticeResume_stays state _ fun m => ⟨rfl, rfl⟩
    case off =>
      have result (stopMade : Bool) : s.txEnd g .notice bus stopMade = some (r, how.way stopMade) :=
        State.txEnd_ended runs handed quiet phase
      refine ⟨?_, ?_, ?_, ?_, ?_, ?_⟩
      · rintro a cause rfl matched read
        exact ⟨ends (result true) (leftStopped rfl) (good (.inl rfl) (.inl rfl) off matched read),
          ends (result false) leftFaulted (good (.inr rfl) (.inr rfl) off matched read)⟩
      · rintro rfl
        refine ends (result true) (leftStopped rfl) ((State.noticeOutcome_refused state).trans ?_)
        rw [retries, none]
        exact State.noticePause_off
      · rintro rfl other
        exact ends (result true) (leftStopped rfl) ((State.noticeOutcome_mismatch other).trans (mismatch false))
      · rintro rfl stopMade
        refine ends (result stopMade) (State.leaveBus_lostLater (s := s)) ((stayed (State.leaveBus_lostLater (s := s))).trans ?_)
        exact State.noticeBecomes_self (stays off (State.leaveBus_lostLater (s := s)))
          ((aside (State.leaveBus_lostLater (s := s))).retries.trans none)
      · rintro w stopMade rfl
        exact ends (result stopMade) (State.leaveBus_lostFirst (s := s) w) (stayed (State.leaveBus_lostFirst (s := s) w))
      · intro fails
        have other : r.matched = false := by
          rcases fails with rfl | ⟨_, other⟩
          · exact runTx_matched (by simp [r, phase])
          · exact other
        have way : how.way false = .busFault true := by rcases fails with rfl | ⟨rfl, _⟩ <;> rfl
        exact ends (way ▸ result false) leftFaulted ((State.noticeOutcome_failed other).trans (stayed leftFaulted))
    case offLate =>
      have result (stopMade : Bool) : s.txEnd g .notice bus stopMade =
          some (r.afterStretch true, if stopMade then .stretchTimeout else .busFault true) :=
        State.txEnd_stretched runs handed late
      exact ⟨ends (result true) (leftStopped rfl) (mismatch true),
        ends (result false) leftFaulted ((State.noticeOutcome_failed rfl).trans (stayed leftFaulted))⟩
  case asserts =>
    intro asserted
    have event {f : State → State} {t : State} (h : f asserted = t) : Ends (act f asserted) t := act_leaves (f := f) running h
    have enters : exec (.noticeLineAsserted g) s = act (lineAsserted g) asserted := if_neg (by simp [show (s.seg g).noticeLine = _ from released])
    have state : (asserted.seg g).notice.state = service := by simp [asserted, service]
    rw [enters]
    exact ⟨fun watching => event (if_pos (state.trans watching)), fun other => event (if_neg (state ▸ other))⟩
  case releases =>
    intro released e
    have leaves : e = act (lineReleased g) released := if_pos asserted
    have here : (released.seg g).notice = (s.seg g).notice ∧ (released.seg g).noticeLine = false := by simp [released]
    have event {t : State} (h : lineReleased g released = t) : Ends e t := by
      rw [leaves]
      exact act_leaves running h
    refine ⟨fun paused none => event ?_, fun watching none => event ?_, fun watching counted => event ?_, fun other => event ?_⟩
    · have state : (released.seg g).notice.state = .paused := by rw [here.1]; exact paused
      simp only [lineReleased, state]
      rw [State.enterWatching_quiet here.2 (by rw [here.1]; exact none)]
      exact State.modSeg_congr _ g (by rw [here.1]; simp only [show (s.seg g).notice.retries = _ from none])
    · have state : (released.seg g).notice.state = .watching := by rw [here.1]; exact watching
      simp only [lineReleased, state]
      exact if_neg (by rw [here.1]; exact Nat.not_lt.mpr none.le)
    · have state : (released.seg g).notice.state = .watching := by rw [here.1]; exact watching
      simp only [lineReleased, state]
      exact (if_pos (by rw [here.1]; exact counted)).trans (State.claimNotice_eq state _)
    · have state : (released.seg g).notice.state = service := by rw [here.1]
      rcases other with off | querying
      · simp only [lineReleased, state, off]
      · simp only [lineReleased, state, querying]

end Sys2Proof.Machine

/-!
SEGMENT_CONFIGURE: the items of Table 11-1, the tests of R155 and the change (R153 to R156).
-/

namespace Sys2Proof.Machine

/-! ### The items of Table 11-1 -/

/-- A decoder takes the values of a range, each the code of what it stands for, and no other. -/
structure CodedBy {α : Type} (f : Byte → Option α) (code : α → Byte) (lo hi : Nat) : Prop where
  inside : ∀ v, lo ≤ v.toNat ∧ v.toNat ≤ hi → ∃ x, f v = some x ∧ code x = v
  outside : ∀ v, ¬ (lo ≤ v.toNat ∧ v.toNat ≤ hi) → f v = none

theorem byte_eq_of_toNat {v : Byte} {n : Nat} (h : v.toNat = n) : v = byteOf n := by
  rw [← h, byteOf, BitVec.ofNat_toNat, BitVec.setWidth_eq]

theorem boolOf_coded : CodedBy boolOf boolCode 0 1 where
  inside v h := by
    obtain zero | one : v.toNat = 0 ∨ v.toNat = 1 := by omega
    · exact ⟨false, by rw [byte_eq_of_toNat zero]; rfl, (byte_eq_of_toNat zero).symm⟩
    · exact ⟨true, by rw [byte_eq_of_toNat one]; rfl, (byte_eq_of_toNat one).symm⟩
  outside v h := by
    have zero : v ≠ 0 := by rintro rfl; exact h (by decide)
    have one : v ≠ 1 := by rintro rfl; exact h (by decide)
    exact (if_neg zero).trans (if_neg one)

theorem policyOf_coded : CodedBy policyOf policyCode 0 1 where
  inside v h := by
    obtain zero | one : v.toNat = 0 ∨ v.toNat = 1 := by omega
    · exact ⟨.refuse, by rw [byte_eq_of_toNat zero]; rfl, (byte_eq_of_toNat zero).symm⟩
    · exact ⟨.hold, by rw [byte_eq_of_toNat one]; rfl, (byte_eq_of_toNat one).symm⟩
  outside v h := by
    have zero : v ≠ 0 := by rintro rfl; exact h (by decide)
    have one : v ≠ 1 := by rintro rfl; exact h (by decide)
    exact (if_neg zero).trans (if_neg one)

theorem profileOf_coded : CodedBy profileOf profileCode 0 2 where
  inside v h := by
    obtain zero | one | two : v.toNat = 0 ∨ v.toNat = 1 ∨ v.toNat = 2 := by omega
    · exact ⟨.p100, by rw [byte_eq_of_toNat zero]; rfl, (byte_eq_of_toNat zero).symm⟩
    · exact ⟨.p400, by rw [byte_eq_of_toNat one]; rfl, (byte_eq_of_toNat one).symm⟩
    · exact ⟨.p1000, by rw [byte_eq_of_toNat two]; rfl, (byte_eq_of_toNat two).symm⟩
  outside v h := by
    have zero : v ≠ 0 := by rintro rfl; exact h (by decide)
    have one : v ≠ 1 := by rintro rfl; exact h (by decide)
    have two : v ≠ 2 := by rintro rfl; exact h (by decide)
    exact (if_neg zero).trans ((if_neg one).trans (if_neg two))

theorem inAddrRange_iff (n : Nat) : inAddrRange n = true ↔ 0x08 ≤ n ∧ n ≤ 0x77 := by simp [inAddrRange]

theorem addrOf_coded : CodedBy addrOf addrCode 0x08 0x77 where
  inside v h := by
    refine ⟨v.setWidth 7, if_pos ((inAddrRange_iff _).mpr h), BitVec.eq_of_toNat_eq ?_⟩
    rw [addrCode, BitVec.toNat_setWidth, BitVec.toNat_setWidth]
    omega
  outside v h := if_neg fun range => h ((inAddrRange_iff _).mp range)

/-- An item takes the values of its range, each as its byte in item-code order, and no other. -/
def SegConfig.ItemTaken (c : SegConfig) (k : Nat) (v : Byte) (range : Nat × Nat) (o : Option SegConfig) : Prop :=
  (range.1 ≤ v.toNat ∧ v.toNat ≤ range.2 → ∃ new, o = some new ∧ new.items = c.items.set k v) ∧
  (¬ (range.1 ≤ v.toNat ∧ v.toNat ≤ range.2) → o = none)

section Items

variable {c : SegConfig} {k : Nat} {v : Byte} {lo hi : Nat}

theorem SegConfig.itemTaken_coded {α : Type} {f : Byte → Option α} {code : α → Byte} (coded : CodedBy f code lo hi)
    {set : α → SegConfig} (items : ∀ x, (set x).items = c.items.set k (code x)) : c.ItemTaken k v (lo, hi) ((f v).map set) := by
  refine ⟨fun inside => ?_, fun outside => ?_⟩
  · obtain ⟨x, value, same⟩ := coded.inside v inside
    exact ⟨set x, by rw [value, Option.map_some], by rw [items, same]⟩
  · rw [coded.outside v outside, Option.map_none]

theorem SegConfig.itemTaken_number {set : Nat → SegConfig} (items : ∀ n, (set n).items = c.items.set k (byteOf n)) :
    c.ItemTaken k v (lo, hi) (if lo ≤ v.toNat ∧ v.toNat ≤ hi then some (set v.toNat) else none) :=
  ⟨fun inside => ⟨_, if_pos inside, by rw [items, ← byte_eq_of_toNat rfl]⟩, fun outside => if_neg outside⟩

end Items

/-- The ranges of Table 11-1. -/
def itemRange (item : Nat) : Nat × Nat :=
  match item with
  | 0x00 => (0, 2)
  | 0x01 => (1, 100)
  | 0x02 => (1, 40)
  | 0x03 | 0x06 | 0x0B | 0x0C | 0x0D | 0x0F => (0x08, 0x77)
  | 0x04 | 0x05 | 0x07 | 0x08 | 0x0A | 0x0E => (0, 1)
  | 0x09 => (1, 200)
  | 0x10 => (0, 255)
  | _ => (1, 0)

theorem SegConfig.setItem_taken (c : SegConfig) (item v : Byte) :
    c.ItemTaken item.toNat v (itemRange item.toNat) (c.setItem item v) := by
  unfold SegConfig.setItem
  simp only
  split
  next h => rw [h]; exact itemTaken_coded profileOf_coded fun _ => rfl
  next h => rw [h]; exact itemTaken_number (set := fun n => { c with stretchLimit := n }) fun _ => rfl
  next h => rw [h]; exact itemTaken_number (set := fun n => { c with backoffUnit := n }) fun _ => rfl
  next h => rw [h]; exact itemTaken_coded addrOf_coded fun _ => rfl
  next h => rw [h]; exact itemTaken_coded boolOf_coded fun _ => rfl
  next h => rw [h]; exact itemTaken_coded policyOf_coded fun _ => rfl
  next h => rw [h]; exact itemTaken_coded addrOf_coded fun _ => rfl
  next h => rw [h]; exact itemTaken_coded boolOf_coded fun _ => rfl
  next h => rw [h]; exact itemTaken_coded policyOf_coded fun _ => rfl
  next h => rw [h]; exact itemTaken_number (set := fun n => { c with holdLimit := n }) fun _ => rfl
  next h => rw [h]; exact itemTaken_coded boolOf_coded fun _ => rfl
  next h => rw [h]; exact itemTaken_coded addrOf_coded fun _ => rfl
  next h => rw [h]; exact itemTaken_coded addrOf_coded fun _ => rfl
  next h => rw [h]; exact itemTaken_coded addrOf_coded fun _ => rfl
  next h => rw [h]; exact itemTaken_coded boolOf_coded fun _ => rfl
  next h => rw [h]; exact itemTaken_coded addrOf_coded fun _ => rfl
  next h =>
    have every : 0 ≤ v.toNat ∧ v.toNat ≤ 255 := ⟨Nat.zero_le _, Nat.le_of_lt_succ v.isLt⟩
    have taken : c.ItemTaken 0x10 v (0, 255) _ := itemTaken_number (set := fun n => { c with rollInterval := n }) fun _ => rfl
    rw [if_pos every] at taken
    rw [h]
    exact taken
  next =>
    have outside : itemRange item.toNat = (1, 0) := by
      unfold itemRange
      split <;> first | rfl | simp_all
    rw [outside]
    exact ⟨fun inside => absurd inside (by simp; omega), fun _ => rfl⟩

/-! ### The checks of R154 and R155 -/

theorem newConfig_eq_some {c new : SegConfig} {items : List (Byte × Byte)} (distinct : (items.map (·.1)).Nodup)
    (set : c.setItems items = some new) (pool : new.poolFirst.toNat ≤ new.poolLast.toNat) :
    newConfig c items = some new := by
  simp [newConfig, itemsDistinct, distinct, set, pool, Option.filter]

theorem newConfig_eq_none {c : SegConfig} {items : List (Byte × Byte)}
    (bad : ¬ (items.map (·.1)).Nodup ∨ c.setItems items = none) : newConfig c items = none := by
  rcases bad with twice | unset
  · simp [newConfig, itemsDistinct, twice]
  · simp [newConfig, unset]

theorem newConfig_badPool {c new : SegConfig} {items : List (Byte × Byte)} (set : c.setItems items = some new)
    (pool : new.poolLast.toNat < new.poolFirst.toNat) : newConfig c items = none := by
  simp [newConfig, set, Option.filter, Nat.not_le.mpr pool]

/-- The tests of R155. -/
theorem State.configConflict_iff {s : State} {g : Seg} {c : SegConfig} : s.configConflict g c = true ↔
    ¬ c.reserved.Nodup ∨ (∃ h e, s.entryAt h = some e ∧ e.segment = g ∧ e.address ∈ c.reserved) ∨
    (∃ i j x, s.jobAt i = some j ∧ j.state ≠ .ended ∧ j.segment = g ∧ j.target = .raw x ∧ x ∈ c.reserved) := by
  have entries : (c.reserved.any fun a => (s.entryByAddress g a).isSome) = true ↔
      ∃ h e, s.entryAt h = some e ∧ e.segment = g ∧ e.address ∈ c.reserved := by
    simp only [List.any_eq_true, State.entryByAddress_isSome_iff]
    constructor
    · rintro ⟨a, reserved, h, e, entry, here, rfl⟩
      exact ⟨h, e, entry, here, reserved⟩
    · rintro ⟨h, e, entry, here, reserved⟩
      exact ⟨e.address, reserved, h, e, entry, here, rfl⟩
  have jobs : s.rawJobAt g c.reserved = true ↔
      ∃ i j x, s.jobAt i = some j ∧ j.state ≠ .ended ∧ j.segment = g ∧ j.target = .raw x ∧ x ∈ c.reserved := by
    simp only [State.rawJobAt, List.any_eq_true]
    constructor
    · rintro ⟨i, -, names⟩
      cases job : s.jobAt i with
      | none => simp [job] at names
      | some j =>
        cases target : j.target with
        | handle h => simp [job, target] at names
        | raw x =>
          simp only [job, target, Job.live, Bool.and_eq_true, bne_iff_ne, beq_iff_eq, List.contains_iff_mem] at names
          obtain ⟨⟨live, here⟩, reserved⟩ := names
          exact ⟨i, j, x, job, live, here, target, reserved⟩
    · rintro ⟨i, j, x, job, live, here, target, reserved⟩
      exact ⟨i, List.mem_finRange i, by simp [job, target, Job.live, live, here, reserved]⟩
  simp only [State.configConflict, Bool.or_eq_true, Bool.not_eq_true', decide_eq_false_iff_not, entries, jobs, or_assoc]

/-- Only the notice service item and the roll interval are taken on an enabled segment (Table 11-1). -/
theorem liveItems_iff {items : List (Byte × Byte)} :
    (items.any fun p => !liveItem p.1) = true ↔ ∃ p ∈ items, p.1 ≠ 0x0E ∧ p.1 ≠ 0x10 := by
  simp [liveItem]

section RunConfigure

variable {s : State} {body : List Byte} {g : Seg} {new : SegConfig}

theorem runConfigure_badSegment (bad : 4 ≤ (byteAt body 0).toNat) : runConfigure body s = (s, .refused .badValue) := by
  simp [runConfigure, segOf_eq_none bad]

variable (hg : (byteAt body 0).toNat = g.val)
include hg

theorem runConfigure_badList (bad : newConfig (s.seg g).config (itemList body) = none) :
    runConfigure body s = (s, .refused .badValue) := by
  simp [runConfigure, segOf_eq_some_iff.mpr hg, bad]

variable (list : newConfig (s.seg g).config (itemList body) = some new)
include list

theorem runConfigure_enabled (on : (s.seg g).sc ≠ .disabled) (other : ∃ p ∈ itemList body, p.1 ≠ 0x0E ∧ p.1 ≠ 0x10) :
    runConfigure body s = (s, .refused .segmentEnabled) := by
  have stops : (s.seg g).enabled = true ∧ ((itemList body).any fun p => !liveItem p.1) = true :=
    ⟨by simp [Segment.enabled, on], liveItems_iff.mpr other⟩
  simp only [runConfigure, segOf_eq_some_iff.mpr hg, list]
  exact if_pos stops

theorem runConfigure_passes (may : (s.seg g).sc = .disabled ∨ ∀ p ∈ itemList body, p.1 = 0x0E ∨ p.1 = 0x10) :
    runConfigure body s = if s.configConflict g new then (s, .refused .conflict)
      else (s.configure g new, .ok (segCode g :: new.items)) := by
  have passes : ¬ ((s.seg g).enabled = true ∧ ((itemList body).any fun p => !liveItem p.1) = true) := by
    rintro ⟨on, other⟩
    rcases may with off | live
    · simp [Segment.enabled, off] at on
    · obtain ⟨p, here, notService, notRoll⟩ := liveItems_iff.mp other
      exact (live p here).elim notService notRoll
  simp only [runConfigure, segOf_eq_some_iff.mpr hg, list]
  exact if_neg passes

end RunConfigure

/-! ### The change -/

section Change

variable {sg : Segment} {old new : SegConfig} {ix k : StationIx}

/-- The station record after a change of one. -/
theorem Segment.modStation_station (sg : Segment) (ix k : StationIx) (f : Station → Station) :
    (sg.modStation ix f).station k = if k = ix then f (sg.station ix) else sg.station k := by
  by_cases same : k = ix
  · subst same
    simp [Segment.modStation, Segment.station]
  · have other : ix.val ≠ k.val := fun h => same (Fin.ext h.symm)
    simp [Segment.modStation, Segment.station, same, Vector.getElem_set_ne, other]

theorem Segment.dropPosted_station (sg : Segment) (old new : SegConfig) (ix k : StationIx) :
    (sg.dropPosted old new ix).station k =
      if k = ix ∧ (old.station ix).enable = true ∧ (new.station ix).enable = false then
        { sg.station k with posted := none } else sg.station k := by
  unfold Segment.dropPosted
  by_cases turned : (old.station ix).enable = true ∧ (new.station ix).enable = false
  · rw [if_pos turned, Segment.modStation_station]
    by_cases same : k = ix
    · subst same
      rw [if_pos rfl, if_pos ⟨rfl, turned⟩]
    · rw [if_neg same, if_neg fun h => same h.1]
  · rw [if_neg turned, if_neg fun h => turned h.2]

theorem Segment.dropPosted_both (sg : Segment) (old new : SegConfig) : (sg.dropPosted old new 0).dropPosted old new 1 =
    { sg with stations := ((sg.dropPosted old new 0).dropPosted old new 1).stations } := by
  unfold Segment.dropPosted
  split <;> split <;> rfl

/-- A station whose enable stays keeps its posted reply. -/
theorem Segment.dropPosted_stays (same : (new.station ix).enable = (old.station ix).enable) :
    sg.dropPosted old new ix = sg := by
  refine if_neg ?_
  rintro ⟨on, off⟩
  cases on.symm.trans (same.symm.trans off)

/-- The segment's side of a change (R154, R156). -/
def Segment.reconfigured (sg : Segment) (new : SegConfig) : Segment :=
  (({ sg with config := new }.dropPosted sg.config new 0).dropPosted sg.config new 1).rollItem sg.config new

/-- On a disabled segment the posted reply of a station that is turned off is removed, and nothing else changes
(R156). -/
theorem Segment.reconfigured_disabled (off : sg.sc = .disabled) :
    sg.reconfigured new = { sg with config := new, stations := (sg.reconfigured new).stations } ∧
    ∀ ix, (sg.reconfigured new).station ix = { sg.station ix with
      posted := if (sg.config.station ix).enable = true ∧ (new.station ix).enable = false then none
        else (sg.station ix).posted } := by
  have rest (t : Segment) (here : t.sc = .disabled) : t.rollItem sg.config new = t := by
    simp [Segment.rollItem, Segment.enabled, here]
  have dropped : sg.reconfigured new =
      ({ sg with config := new }.dropPosted sg.config new 0).dropPosted sg.config new 1 := by
    refine rest _ ?_
    rw [Segment.dropPosted_both]
    exact off
  rw [dropped]
  refine ⟨?_, fun ix => ?_⟩
  · exact Segment.dropPosted_both _ _ _
  · have station : ({ sg with config := new } : Segment).station ix = sg.station ix := rfl
    rw [Segment.dropPosted_station, Segment.dropPosted_station, station]
    match ix with
    | 0 => simp; split <;> simp [*]
    | 1 => simp; split <;> simp [*]

/-- On an enabled segment the stations keep their enables, and the roll timer follows a changed interval (R97, log
entry 23). -/
theorem Segment.reconfigured_enabled (on : sg.sc ≠ .disabled)
    (same : ∀ ix, (new.station ix).enable = (sg.config.station ix).enable) :
    sg.reconfigured new = { sg with
      config := new
      rollTimer := if new.rollInterval = sg.config.rollInterval then sg.rollTimer
        else if new.rollInterval = 0 then none else some new.rollInterval } := by
  unfold Segment.reconfigured
  rw [Segment.dropPosted_stays (same 0), Segment.dropPosted_stays (same 1)]
  by_cases interval : new.rollInterval = sg.config.rollInterval
  · rw [if_pos interval]
    exact if_pos (.inr interval.symm)
  · have enabled : ({ sg with config := new } : Segment).enabled = true := by simp [Segment.enabled, on]
    rw [if_neg interval]
    refine if_neg ?_
    rintro (off | same)
    · cases off.symm.trans enabled
    · exact interval same.symm

/-- The live items change no station (Table 11-1). -/
theorem SegConfig.setItem_live {c new : SegConfig} {item v : Byte} (live : item = 0x0E ∨ item = 0x10)
    (set : c.setItem item v = some new) (ix : StationIx) : new.station ix = c.station ix := by
  rcases live with rfl | rfl
  · obtain ⟨x, -, rfl⟩ := Option.map_eq_some_iff.mp (show (boolOf v).map _ = some new from set)
    rfl
  · obtain rfl := Option.some.inj (show some _ = some new from set)
    rfl

theorem SegConfig.setItems_live {c new : SegConfig} {items : List (Byte × Byte)}
    (live : ∀ p ∈ items, p.1 = 0x0E ∨ p.1 = 0x10) (set : c.setItems items = some new) (ix : StationIx) :
    new.station ix = c.station ix := by
  induction items generalizing c with
  | nil =>
    obtain rfl := Option.some.inj (show some c = some new from set)
    rfl
  | cons p rest ih =>
    obtain ⟨d, one, others⟩ := Option.bind_eq_some_iff.mp (show (c.setItem p.1 p.2).bind _ = some new from set)
    rw [ih (fun q hq => live q (List.mem_cons_of_mem _ hq)) others,
      SegConfig.setItem_live (live p List.mem_cons_self) one]

variable {s : State} {g : Seg}

theorem State.configure_eq (s : State) (g : Seg) (new : SegConfig) : s.configure g new =
    (s.modSeg g (·.reconfigured new)).noticeItem g (s.seg g).config new :=
  congrArg (State.noticeItem · g (s.seg g).config new) (State.modSeg_congr s g rfl)

theorem State.noticeItem_stays (same : (s.seg g).sc = .disabled ∨ old.noticeService = new.noticeService) :
    s.noticeItem g old new = s :=
  if_pos (same.imp_left fun off => by simp [Segment.enabled, off])

theorem State.noticeItem_off (on : (s.seg g).sc ≠ .disabled) (was : old.noticeService = true) (is : new.noticeService = false) :
    s.noticeItem g old new = s.modNotice g (·.off) := by
  simp [State.noticeItem, Segment.enabled, on, was, is]

theorem State.noticeItem_on (on : (s.seg g).sc ≠ .disabled) (was : old.noticeService = false) (is : new.noticeService = true) :
    s.noticeItem g old new =
      if (s.seg g).handed = some .notice then s.modNotice g fun n => { n with state := .querying } else s.enterWatching g := by
  simp [State.noticeItem, Segment.enabled, on, was, is]

/-- The notice service item leaves the configuration as it is written. -/
theorem State.noticeItem_config (s : State) (g : Seg) (old new : SegConfig) :
    ((s.noticeItem g old new).seg g).config = (s.seg g).config := by
  unfold State.noticeItem
  repeat' split
  · rfl
  · exact ((State.Calm.modNotice s g _).stillSeg g).config
  · exact ((State.Calm.enterWatching s g).stillSeg g).config
  · exact ((State.Calm.modNotice s g _).stillSeg g).config

end Change

/-- Settles O58: the checks in order, the change on a disabled and on an enabled segment, and the items. -/
theorem configureChangesAllOrNothing : Obligations.ConfigureChangesAllOrNothing := by
  unfold Obligations.ConfigureChangesAllOrNothing
  refine ⟨fun s tag seg count pairs takes size => ?request, fun c item v => ?items⟩
  case request =>
    intro a
    have fits : configureSize (seg :: count :: pairs) = true := by
      simp [configureSize, sizeAtLeast, sizeIs, byteAt, size]; omega
    have answered : Answered (exec (.segmentConfigure tag (seg :: count :: pairs)) s) 0x10 tag
        (runConfigure (seg :: count :: pairs) s.hunting).2 (runConfigure (seg :: count :: pairs) s.hunting).1 :=
      answered_of_takes takes 0x10 _ (runConfigure (seg :: count :: pairs)) fits
    have gives {t : State} {x : Answer} (h : runConfigure (seg :: count :: pairs) s.hunting = (t, x)) : a x t := by
      rwa [h] at answered
    refine ⟨fun bad => gives (runConfigure_badSegment bad), fun g hg => ?_⟩
    intro items old
    have list : itemList (seg :: count :: pairs) = items := by
      have read := pairsOf_drop (body := pairs) (n := count.toNat) (off := 0) (by omega)
      simp only [Nat.zero_add, List.drop_zero] at read
      refine read.trans (List.map_congr_left fun k _ => ?_)
      simp [byteAt, Nat.add_comm]
    refine ⟨fun bad => gives (runConfigure_badList hg (newConfig_eq_none (list ▸ bad))), fun new distinct set =>
      ⟨fun pool => gives (runConfigure_badList hg (newConfig_badPool (list ▸ set) pool)), fun pool => ?_⟩⟩
    intro conflict
    have accepts : newConfig (s.hunting.seg g).config (itemList (seg :: count :: pairs)) = some new :=
      newConfig_eq_some (list ▸ distinct) (list ▸ set) pool
    refine ⟨fun on other => gives (runConfigure_enabled hg accepts on (list ▸ other)), fun may => ?_⟩
    have passes := runConfigure_passes (s := s.hunting) (g := g) (body := seg :: count :: pairs) hg accepts (list ▸ may)
    refine ⟨fun clash => gives (passes.trans (if_pos (State.configConflict_iff.mpr clash))), fun fine => ?_⟩
    refine ⟨s.hunting.configure g new,
      gives (passes.trans (if_neg fun clash => fine (State.configConflict_iff.mp clash))), ?_⟩
    rw [State.configure_eq]
    have here : ((s.hunting.modSeg g (·.reconfigured new)).seg g) = (s.seg g).reconfigured new :=
      State.seg_modSeg_self s.hunting g _
    have config : ((s.seg g).reconfigured new).config = new := by
      by_cases off : (s.seg g).sc = .disabled
      · rw [(Segment.reconfigured_disabled off).1]
      · rw [Segment.reconfigured_enabled off
          fun ix => congrArg _ (SegConfig.setItems_live (may.resolve_left off) set ix)]
    refine ⟨by rw [State.noticeItem_config, here, config], fun off => ?_, fun on => ?_⟩
    · obtain ⟨changed, stations⟩ := Segment.reconfigured_disabled (new := new) off
      have sc : ((s.hunting.modSeg g (·.reconfigured new)).seg g).sc = .disabled := by rw [here, changed]; exact off
      rw [State.noticeItem_stays (.inl sc), here]
      exact ⟨State.modSeg_congr s.hunting g changed, stations⟩
    · intro rolled service
      have enables (ix : StationIx) : (new.station ix).enable = (old.station ix).enable :=
        congrArg _ (SegConfig.setItems_live (may.resolve_left on) set ix)
      have changed : s.hunting.modSeg g (·.reconfigured new) = rolled :=
        State.modSeg_congr s.hunting g (Segment.reconfigured_enabled on enables)
      have there : rolled.seg g = (s.seg g).reconfigured new := changed ▸ here
      rw [Segment.reconfigured_enabled on enables] at there
      have sc : (rolled.seg g).sc ≠ .disabled := by rw [there]; exact on
      rw [changed]
      refine ⟨fun same => State.noticeItem_stays (.inr same.symm), fun was is => State.noticeItem_off sc was is,
        fun was is => ?_⟩
      have item := State.noticeItem_on (s := rolled) sc was is
      rw [show (rolled.seg g).handed = (s.seg g).handed by rw [there]] at item
      refine ⟨fun query => item.trans (if_pos query), fun other low => ?_, fun other low none => ?_⟩
      · exact (item.trans (if_neg other)).trans (State.enterWatching_asserted (by rw [there]; exact low))
      · exact (item.trans (if_neg other)).trans
          (State.enterWatching_quiet (by rw [there]; exact low) (by rw [there]; exact none))
  case items =>
    intro range inRange flag station
    have taken := c.setItem_taken item v
    have ranges : itemRange item.toNat = range := rfl
    rw [ranges] at taken
    refine ⟨?_, ?_, taken.1, taken.2, rfl, ?_, ?_⟩
    · simp only [SegConfig.items, addrCode_eq]
      have policy (p : ReadPolicy) : policyCode p = if p = .hold then 1 else 0 := by cases p <;> rfl
      rw [policy, policy]
      rfl
    · simp only [SegConfig.reserved]
      cases on0 : c.station0.enable <;> cases on1 : c.station1.enable <;> simp [on0, on1]
    · intro rest none
      exact congrArg (Option.bind · _) none
    · intro rest new set
      exact congrArg (Option.bind · _) set

end Sys2Proof.Machine

/-!
Laws of the blocks behind the Host Link. Such a law reads nothing that a Host Link action changes, so every step keeps it
when the changes that requests bring, the events and the choice points do.
-/

namespace Sys2Proof.Machine

/-- What the laws of the blocks behind the Host Link are about. -/
def State.core (s : State) := (s.slots, s.heldSet, s.accepted, s.segs, s.roster, s.poolFree)

/-- Claims enter the queue as the room allows (R172). -/
theorem State.Calm.fillQueue (s : State) : s.fillQueue.Calm s := by
  have laws := takeClaims_keepsLaws s.claims.length s
  refine (State.fillQueue_same s).calm ⟨laws.inbound, laws.entries⟩ fun h => ?_
  have idle : s.fillQueue = s := by
    refine State.fillQueue_idle ?_
    by_cases none : s.claims = []
    · exact .inr none
    · exact .inl (h.claims none).ge
  rwa [idle]

/-- What a request can make of the blocks behind the Host Link. -/
inductive BlockChange (s : State) : State → Prop
  | configure {g c items} : newConfig (s.seg g).config items = some c →
      ¬ ((s.seg g).enabled = true ∧ items.any (fun p => !liveItem p.1) = true) →
      ¬ s.configConflict g c = true → BlockChange s (s.configure g c)
  | enable {g} : ¬ (s.seg g).enabled = true → BlockChange s (s.enable g)
  | flush {g} : ¬ (s.seg g).enabled = true → BlockChange s (s.flush g)
  | disable {g} (flush cut) : (s.seg g).enabled = true → BlockChange s (s.disable g flush cut)
  | recover {g} : (s.seg g).sc = .fault →
      BlockChange s (s.modSeg g fun sg => { sg with sc := .recovering, recoverRequested := true })
  | submit {body r t g i} : submitReqOf body = some r → s.checkTarget r.target = .good t g →
      s.checkPredecessor r.predecessor = none → s.freeSlotNumber = some i → ¬ s.poolFree < r.blocks + Config.inboundReserve →
      BlockChange s ((s.takeSlot i (newJob r t g (s.recordedPredecessor r.predecessor))).placeIfComplete i)
  | append {i j data} : s.jobAt i = some j → j.state = .staging → j.staged + data.length ≤ j.writeTotal →
      BlockChange s ((s.modJob i (·.stage data)).placeIfComplete i)
  | cancel {i j} : s.jobAt i = some j → j.state ≠ .ended → BlockChange s (s.cancelJob i j)
  | addFixed {g : Seg} {a : Byte} {h} : a.toNat ≤ 0x7F → s.checkFixed g a = none → s.freeHandle = some h →
      BlockChange s (s.putEntry h (some (fixedEntry g (a.setWidth 7))))
  | remove {h} : (s.entryAt h).isSome → BlockChange s (((s.jobsNaming h).foldl State.removeReaches s).dropEntry h)
  | enrol {g} (w) : (s.seg g).enabled ≠ false → ¬ (s.seg g).engine.busy = true →
      BlockChange s ((s.modEngine g (·.accept w)).markChoice g)
  | post (g ix p) : BlockChange s (s.modSeg g (·.post ix p))
  | withdraw (g ix) : BlockChange s (s.modSeg g (·.withdraw ix))

/-- The change that an execution brings: none behind the Host Link, the acknowledgement of reports, or one of these. -/
theorem RequestRun.change {run : State → State × Answer} (h : RequestRun run) (s : State) :
    (run s).1.core = s.core ∨ (∃ (gone left : List Report) (attn : Bool),
      (run s).1 = (gone.foldl State.tellOwner { s with reports := left, attn := attn }).fillQueue) ∨
    BlockChange s (run s).1 := by
  cases h with
  | status | unknown | sync => exact .inl rfl
  | restart body =>
    left
    unfold runRestart
    split <;> rfl
  | ack body =>
    unfold runAck
    simp only
    split
    · exact .inr (.inl ⟨_, _, _, rfl⟩)
    · exact .inl rfl
  | resend body =>
    left
    unfold runResend
    simp only
    split <;> rfl
  | query body => exact .inl (by rw [runQuery_state])
  | rosterRead body => exact .inl (by rw [runRosterRead_state])
  | configure body =>
    rcases runConfigure_cases body s with same | ⟨g, c, list, live, fine, changed⟩
    · exact .inl (by rw [same])
    · exact .inr (.inr (changed ▸ .configure list live fine))
  | enable body =>
    rcases runEnable_cases body s with same | ⟨g, off, changed⟩
    · exact .inl (by rw [same])
    · exact .inr (.inr (changed ▸ .enable off))
  | disable body cut =>
    rcases runDisable_cases body cut s with same | ⟨g, ⟨changed, off⟩ | ⟨flush, changed, on⟩⟩
    · exact .inl (by rw [same])
    · exact .inr (.inr (changed ▸ .flush off))
    · exact .inr (.inr (changed ▸ .disable flush cut on))
  | recover body =>
    rcases runRecover_cases body s with same | ⟨g, fault, changed⟩
    · exact .inl (by rw [same])
    · exact .inr (.inr (changed ▸ .recover fault))
  | submit body =>
    rcases runSubmit_cases body s with same | ⟨r, t, g, i, req, target, predecessor, slot, pool, changed⟩
    · exact .inl (by rw [same])
    · exact .inr (.inr (changed ▸ .submit req target predecessor slot pool))
  | append body =>
    rcases runAppend_cases body s with same | ⟨i, j, data, job, staging, fits, changed⟩
    · exact .inl (by rw [same])
    · exact .inr (.inr (changed ▸ .append job staging fits))
  | cancel body =>
    rcases runCancel_cases body s with same | ⟨i, j, job, live, changed⟩
    · exact .inl (by rw [same])
    · exact .inr (.inr (changed ▸ .cancel job live))
  | addFixed body =>
    rcases runAddFixed_cases body s with same | ⟨g, a, h, small, checked, free, changed⟩
    · exact .inl (by rw [same])
    · exact .inr (.inr (changed ▸ .addFixed small checked free))
  | remove body =>
    rcases runRemove_cases body s with same | ⟨h, entry, changed⟩
    · exact .inl (by rw [same])
    · exact .inr (.inr (changed ▸ .remove entry))
  | enrol w body =>
    rcases runEnrol_cases w body s with same | ⟨g, on, idle, changed⟩
    · exact .inl (by rw [same])
    · exact .inr (.inr (changed ▸ .enrol w on idle))
  | post body =>
    rcases runPost_cases body s with same | ⟨g, ix, p, changed⟩
    · exact .inl (by rw [same])
    · exact .inr (.inr (changed ▸ .post g ix p))
  | withdraw body =>
    rcases runWithdraw_cases body s with same | ⟨g, ix, changed⟩
    · exact .inl (by rw [same])
    · exact .inr (.inr (changed ▸ .withdraw g ix))

/-- A law of the blocks behind the Host Link, with what keeps it. -/
structure CoreLaw (I : State → Prop) : Prop where
  /-- The law reads the blocks behind the Host Link alone. -/
  blind : ∀ s t : State, t.core = s.core → I s → I t
  /-- It reads no claim, no notice service, no presence and no bookkeeping of a sweep. -/
  calm : ∀ s t : State, t.Calm s → I s → I t
  cold : ∀ s : State, I (s.cleared false)
  warm : ∀ s : State, I s → I (s.cleared true)
  owner : ∀ (s : State) (r : Report), I s → I (s.tellOwner r)
  block : ∀ s t : State, BlockChange s t → I s → I t
  event : ∀ (f : State → State) (s : State), Event f → I s → I (f s)
  choice : ∀ (s : State) (g : Seg), I s → I (s.choicePoint g)

section CoreLaw

variable {I : State → Prop} (law : CoreLaw I) {s : State}
include law

theorem CoreLaw.transmit (h : I s) : I s.transmit := by
  refine law.blind s _ ?_ h
  obtain e | ⟨f, rest, -, e⟩ | ⟨old, r, new, -, -, -, -, e⟩ := s.transmit_cases <;> rw [e] <;> rfl

theorem CoreLaw.tellOwners (gone : List Report) (h : I s) : I (gone.foldl State.tellOwner s) := by
  induction gone generalizing s with
  | nil => exact h
  | cons r gone ih => exact ih (law.owner s r h)

theorem CoreLaw.run {run : State → State × Answer} (hrun : RequestRun run) (h : I s) : I (run s).1 := by
  rcases hrun.change s with same | ⟨gone, left, attn, acked⟩ | changed
  · exact law.blind s _ same h
  · rw [acked]
    exact law.calm _ _ (State.Calm.fillQueue _) (law.tellOwners gone (law.blind s _ rfl h))
  · exact law.block s _ changed h

theorem CoreLaw.request (kind tag : Byte) (sizeOk : Bool) {run : State → State × Answer} (hrun : RequestRun run) (h : I s) :
    I (takeFrame kind tag sizeOk run s) := by
  have hunting : I s.hunting := law.blind s _ rfl h
  unfold takeFrame
  simp only
  repeat' split
  case h_2.isFalse.isTrue => exact law.blind (run s.hunting).1 _ rfl (law.run hrun hunting)
  all_goals exact law.blind s _ rfl h

theorem CoreLaw.settleChoices (n : Nat) (h : I s) : I (State.settleChoices n s) := by
  induction n generalizing s with
  | zero => exact h
  | succ n ih =>
    unfold State.settleChoices
    split
    · exact h
    · exact ih (law.choice _ _ (law.blind s _ rfl h))

/-- Every step keeps a law of the blocks behind the Host Link. -/
theorem CoreLaw.keeps : Keeps I where
  pending s _ h := law.blind s _ rfl h
  rx s _ h := law.blind s _ rfl h
  line s g asserted h := law.calm s _ (State.Calm.setNoticeLine s g asserted) h
  powerOn s := law.transmit (law.blind (s.cleared false) _ rfl (law.cold s))
  rstAssert s := law.blind (s.cleared false) _ rfl (law.cold s)
  rstRelease s _ h := law.transmit (law.blind s _ rfl h)
  restarted s m _ h := by
    cases m with
    | cold => exact law.transmit (s := (s.cleared false).started .cold) (law.blind (s.cleared false) _ rfl (law.cold s))
    | warm => exact law.transmit (s := (s.cleared true).started .warm) (law.blind (s.cleared true) _ rfl (law.warm s h))
  frameSent s _ h := law.blind s _ rfl h
  request kind tag sizeOk _ _ hrun _ h := law.request kind tag sizeOk hrun h
  event f s hf _ h := law.event f s hf h
  settle _ _ h := law.transmit (law.settleChoices _ h)

end CoreLaw

end Sys2Proof.Machine

/-!
The laws of the Roster (R89) are kept by every step. Most changes leave every entry at its place and every ASSIGN in hand
as it is (`RosterLess`); an entry is written at an address that was checked, or at the address that the ASSIGN in hand
holds, where the laws of the chosen address say that no other entry stands.
-/

namespace Sys2Proof.Machine

/-! ### Fewer entries, and no other address chosen -/

/-- An entry stands where the entry `d` stood, and meets its laws if that one did. -/
structure Entry.StandsFor (e d : Entry) : Prop where
  segment : e.segment = d.segment
  address : e.address = d.address
  identity : e.identity = d.identity
  ok : EntryOk d → EntryOk e

theorem EntryCalm.standsFor {a b : Option Entry} (h : EntryCalm a b) {e : Entry} (he : a = some e) :
    ∃ d, b = some d ∧ e.StandsFor d := by
  subst he
  cases b with
  | none => cases h.place
  | some d =>
    have place := h.place
    simp only [Option.map_some, Option.some.injEq, Entry.place, Prod.mk.injEq] at place
    obtain ⟨segment, address, kind⟩ := place
    exact ⟨d, rfl, segment, address, by rw [Entry.identity, Entry.identity, kind],
      fun ok => h.ok (fun c hc => by cases hc; exact ok) e rfl⟩

/-- Every entry of `t` stands for one of `s`, under the configurations of `s`, and `t` holds a chosen address only where
`s` does. -/
structure State.RosterLess (t s : State) : Prop where
  entry : ∀ h e, t.entryAt h = some e → ∃ d, s.entryAt h = some d ∧ e.StandsFor d
  config : ∀ g, (t.seg g).config = (s.seg g).config
  engine : ∀ g, (t.seg g).engine.chosen = none ∨ (t.seg g).Still (s.seg g)

theorem State.Still.rosterLess {t s : State} (h : t.Still s) : t.RosterLess s :=
  ⟨fun k _ => (h.entry k).standsFor, fun g => (h.stillSeg g).config, fun g => .inr (h.stillSeg g)⟩

/-- Nothing that the Roster looks at has changed. -/
theorem State.RosterLess.of_same {t s : State} (roster : t.roster = s.roster) (segs : ∀ g, (t.seg g).Still (s.seg g)) :
    t.RosterLess s :=
  ⟨fun h e he => ⟨e, by rwa [State.entryAt, ← roster], rfl, rfl, rfl, id⟩, fun g => (segs g).config, fun g => .inr (segs g)⟩

section Less

variable {s t : State}

theorem ChosenOk.less (less : t.RosterLess s) {g : Seg} (h : ChosenOk s g) : ChosenOk t g := by
  intro a ha
  rcases less.engine g with none | still
  · cases none.symm.trans ha
  · rcases still.engine with none | ⟨same, goesOn⟩
    · cases none.symm.trans ha
    · obtain ⟨assigning, enabled, free, range, only⟩ := h a (same.symm.trans ha)
      refine ⟨(goesOn assigning).1, still.enabled enabled, less.config g ▸ free, range, fun k e he on here => ?_⟩
      obtain ⟨d, hd, stands⟩ := less.entry k e he
      rw [stands.identity, (goesOn assigning).2]
      exact only k d hd (stands.segment ▸ on) (stands.address ▸ here)

theorem RosterOk.less (less : t.RosterLess s) (h : RosterOk s) : RosterOk t where
  entries k e he := by
    obtain ⟨d, hd, stands⟩ := less.entry k e he
    exact stands.ok (h.entries k d hd)
  identities k m e f he hf some same := by
    obtain ⟨d, hd, de⟩ := less.entry k e he
    obtain ⟨c, hc, cf⟩ := less.entry m f hf
    rw [de.identity] at some same
    exact h.identities k m d c hd hc some (same.trans cf.identity)
  addresses k m e f he hf on here := by
    obtain ⟨d, hd, de⟩ := less.entry k e he
    obtain ⟨c, hc, cf⟩ := less.entry m f hf
    rw [de.segment, cf.segment] at on
    rw [de.address, cf.address] at here
    exact h.addresses k m d c hd hc on here
  reserved k e he := by
    obtain ⟨d, hd, stands⟩ := less.entry k e he
    rw [stands.address, stands.segment, less.config]
    exact h.reserved k d hd
  chosen g := (h.chosen g).less less
  pool g := less.config g ▸ h.pool g

theorem RosterOk.still (still : t.Still s) (h : RosterOk s) : RosterOk t := h.less still.rosterLess

/-- Only an ASSIGN in hand holds an address (R112). -/
theorem RosterOk.chosen_eq_none {g : Seg} (h : RosterOk s) (other : (s.seg g).engine.state ≠ .assigning) :
    (s.seg g).engine.chosen = none :=
  Option.eq_none_iff_forall_ne_some.mpr fun a ha => other (h.chosen g a ha).1

end Less

/-! ### Entries written -/

section Put

variable {s : State} {g : Seg}

theorem State.entryAt_putEntry (s : State) (h k : Handle) (o : Option Entry) :
    (s.putEntry h o).entryAt k = if k = h then o else s.entryAt k := by
  split
  · next same => rw [same, State.entryAt_putEntry_self]
  · next other => exact State.entryAt_putEntry_ne s h k o other

/-- An entry written at an address of its own, under an identity of its own. -/
theorem RosterOk.putEntry {new : Entry} (h : RosterOk s) (k : Handle) (ok : EntryOk new)
    (identity : ∀ m e, m ≠ k → s.entryAt m = some e → new.identity.isSome → e.identity ≠ new.identity)
    (address : ∀ m e, m ≠ k → s.entryAt m = some e → e.segment = new.segment → e.address ≠ new.address)
    (free : new.address ∉ (s.seg new.segment).config.reserved ∧ 0x08 ≤ new.address.toNat ∧ new.address.toNat ≤ 0x77)
    (chosen : (s.seg new.segment).engine.chosen = some new.address →
      new.identity.isSome ∧ new.identity = (s.seg new.segment).engine.current.map (·.identity)) :
    RosterOk (s.putEntry k (some new)) where
  entries m e he := by
    rw [State.entryAt_putEntry] at he
    split at he
    · cases he; exact ok
    · exact h.entries m e he
  identities m n e f he hf some same := by
    rw [State.entryAt_putEntry] at he hf
    split at he <;> split at hf
    case isTrue.isTrue here there => exact here.trans there.symm
    case isTrue.isFalse here there => cases he; exact absurd same.symm (identity n f there hf some)
    case isFalse.isTrue here there => cases hf; exact absurd same (identity m e here he (same ▸ some))
    case isFalse.isFalse => exact h.identities m n e f he hf some same
  addresses m n e f he hf on here := by
    rw [State.entryAt_putEntry] at he hf
    split at he <;> split at hf
    case isTrue.isTrue one two => exact one.trans two.symm
    case isTrue.isFalse one two => cases he; exact absurd here.symm (address n f two hf on.symm)
    case isFalse.isTrue one two => cases hf; exact absurd here (address m e one he on)
    case isFalse.isFalse => exact h.addresses m n e f he hf on here
  reserved m e he := by
    rw [State.entryAt_putEntry] at he
    split at he
    · cases he; exact free
    · exact h.reserved m e he
  chosen g a ha := by
    obtain ⟨assigning, enabled, usable, range, only⟩ := h.chosen g a ha
    refine ⟨assigning, enabled, usable, range, fun m e he on here => ?_⟩
    rw [State.entryAt_putEntry] at he
    split at he
    · cases he
      subst on here
      exact chosen ha
    · exact only m e he on here
  pool := h.pool

/-- The Engine has chosen an address that no other entry of the segment holds (R112). -/
theorem RosterOk.assign {a : Addr} (h : RosterOk s) (on : (s.seg g).enabled = true)
    (free : a ∉ (s.seg g).config.reserved) (range : 0x08 ≤ a.toNat ∧ a.toNat ≤ 0x77)
    (only : ∀ k e, s.entryAt k = some e → e.segment = g → e.address = a →
      e.identity.isSome ∧ e.identity = (s.seg g).engine.current.map (·.identity)) :
    RosterOk (s.modEngine g (·.assign a)) := by
  have config : ∀ k, ((s.modEngine g (·.assign a)).seg k).config = (s.seg k).config := by
    refine State.forall_seg_modSeg (R := fun x y => x.config = y.config) (fun _ => rfl) s g rfl
  refine ⟨h.entries, h.identities, h.addresses, fun k e he => config e.segment ▸ h.reserved k e he, fun k b hb => ?_,
    fun k => config k ▸ h.pool k⟩
  by_cases here : k = g
  · subst here
    simp only [State.modEngine, State.seg_modSeg_self] at hb ⊢
    cases hb
    exact ⟨rfl, on, free, range, only⟩
  · rw [State.modEngine, State.seg_modSeg_ne _ _ _ _ here] at hb ⊢
    exact h.chosen k b hb

/-- A FIXED entry at an address that Table 6-3 passes (R92). -/
theorem RosterOk.addFixed {a : Byte} {k : Handle} (h : RosterOk s) (small : a.toNat ≤ 0x7F)
    (checked : s.checkFixed g a = none) :
    RosterOk (s.putEntry k (some (fixedEntry g (a.setWidth 7)))) := by
  have width : (a.setWidth 7).toNat = a.toNat := by rw [BitVec.toNat_setWidth]; omega
  unfold State.checkFixed at checked
  simp only [Bool.or_eq_true, Bool.not_eq_true', List.contains_eq_mem, decide_eq_true_eq, beq_iff_eq] at checked
  split at checked
  · cases checked
  · next usable =>
    split at checked
    · cases checked
    · next alone =>
      rw [not_or, Bool.not_eq_false, inAddrRange_iff] at usable
      rw [not_or, Bool.not_eq_true, Option.isSome_eq_false_iff, Option.isNone_iff_eq_none,
        State.entryByAddress_eq_none_iff] at alone
      refine h.putEntry k ⟨Nat.zero_le 2, nofun, nofun, fun _ => ⟨rfl, rfl, rfl⟩⟩
        (fun _ _ _ _ some => by cases some) (fun m e _ he on => alone.1 m e he on)
        ⟨usable.2, width ▸ usable.1⟩ (fun chosen => absurd chosen alone.2)

end Put

/-! ### The Enrolment Engine -/

section Engine

variable {s : State} {g : Seg}

theorem State.entryByIdentity_some {d : Identity} {h : Handle} (found : s.entryByIdentity d = some h) :
    ∃ e, s.entryAt h = some e ∧ e.identity = some d := by
  have holds := (find_finRange_eq_some_iff.mp found).1
  cases here : s.entryAt h with
  | none => simp [here] at holds
  | some e => exact ⟨e, rfl, by simpa [here] using holds⟩

theorem RosterOk.chooseAddress (h : RosterOk s) (on : (s.seg g).enabled = true) : RosterOk (s.chooseAddress g) := by
  cases pool : s.poolAddress g with
  | none => rw [State.chooseAddress_none pool]; exact h.still (State.Calm.endSweep s g _).toStill
  | some a =>
    rw [State.chooseAddress_some pool]
    obtain ⟨above, below, alone, free⟩ := State.poolOffers_iff.mp (List.find?_some pool)
    obtain ⟨first, last⟩ := h.pool g
    exact h.assign on free ⟨by omega, by omega⟩ fun k e he there here => absurd here (alone k e he there)

/-- The decision of Table 7-4 keeps the laws where the Engine holds the identity (R111, R112). -/
theorem RosterOk.decideIdentity {f : Found} (h : RosterOk s) (on : (s.seg g).enabled = true)
    (current : (s.seg g).engine.current = some f) (idle : (s.seg g).engine.state ≠ .assigning) :
    RosterOk (s.decideIdentity g f) := by
  cases found : s.entryByIdentity f.identity with
  | none =>
    cases room : s.freeHandle with
    | none => rw [State.decideIdentity_full found room]; exact h.still (State.Calm.endSweep s g _).toStill
    | some k => rw [State.decideIdentity_new found room]; exact h.chooseAddress on
  | some k =>
    obtain ⟨e, entry, holds⟩ := State.entryByIdentity_some found
    by_cases here : e.segment = g
    · rw [State.decideIdentity_here found entry here]
      obtain ⟨free, range⟩ := h.reserved k e entry
      refine h.assign on (here ▸ free) range fun m c hc there same => ?_
      have alone : m = k := h.addresses m k c e hc entry (there.trans here.symm) same
      subst alone
      cases hc.symm.trans entry
      simp [holds, current]
    · by_cases missing : e.state = .missing
      · rw [State.decideIdentity_moves found entry here missing]; exact h.chooseAddress on
      · rw [State.decideIdentity_parks found entry here missing]
        have claimed := (State.Calm.claimConflict s g f k e.segment)
        have none : ((s.claimConflict g f k e.segment).seg g).engine.chosen = none :=
          ((claimed.stillSeg g).engine).elim id fun same => same.1.trans (h.chosen_eq_none idle)
        exact (h.still claimed.toStill).still (State.Calm.modEngine _ g (.inl none)).toStill

theorem RosterOk.identifyOutcome (h : RosterOk s) (on : (s.seg g).enabled = true)
    (identifying : (s.seg g).engine.state = .identifying) (r : TxRun) (w : TxWay) : RosterOk (s.identifyOutcome g r w) := by
  have other : (s.seg g).engine.state ≠ .assigning := by simp [identifying]
  unfold State.identifyOutcome
  repeat' split
  · have kept : (s.modEngine g (·.keep (foundIn r.read))).Calm s := .modEngine s g (.of_not_assigning rfl other)
    exact (h.still kept.toStill).decideIdentity ((kept.stillSeg g).enabled on) (by simp [State.modEngine, Engine.keep])
      (by simp [State.modEngine, Engine.keep, identifying])
  · exact h.still (State.Calm.modEngine s g (.of_not_assigning rfl other)).toStill
  · exact h.still (State.Calm.endSweep s g _).toStill
  · exact h.still (State.Calm.endSweep s g _).toStill
  · exact h.still (State.Calm.enrolOther s g w).toStill

/-- An acknowledged ASSIGN writes the identity in hand at the address it holds (R113). -/
theorem RosterOk.recordAssign {t : State} {a : Addr} {f : Found} (h : RosterOk s)
    (current : (s.seg g).engine.current = some f) (chosen : (s.seg g).engine.chosen = some a)
    (recorded : s.recordAssign g a f = some t) : RosterOk t := by
  obtain ⟨-, -, free, range, only⟩ := h.chosen g a chosen
  have holder : ∀ m e, s.entryAt m = some e → e.segment = g → e.address = a → e.identity = some f.identity :=
    fun m e he on here => by simpa [current] using (only m e he on here).2
  have taken : some f.identity = (s.seg g).engine.current.map (·.identity) := by simp [current]
  cases found : s.entryByIdentity f.identity with
  | none =>
    have unknown := State.entryByIdentity_eq_none_iff.mp found
    cases room : s.freeHandle with
    | none => rw [State.recordAssign_full found room] at recorded; cases recorded
    | some k =>
      rw [State.recordAssign_new found room, Option.some.injEq] at recorded
      subst recorded
      refine RosterOk.still (State.Calm.rosterChange _ k true false).toStill (h.putEntry k ?_ ?_ ?_ ⟨free, range⟩ ?_)
      · exact ⟨Nat.zero_le 2, nofun, nofun, fun _ => ⟨rfl, rfl, rfl⟩⟩
      · exact fun m e _ he _ => unknown m e he
      · exact fun m e _ he on here => unknown m e he (holder m e he on here)
      · exact fun _ => ⟨rfl, taken⟩
  | some k =>
    obtain ⟨d, entry, holds⟩ := State.entryByIdentity_some found
    have alone : ∀ m e, s.entryAt m = some e → e.identity = some f.identity → m = k := fun m e he same =>
      h.identities m k e d he entry (by simp [same]) (same.trans holds.symm)
    have quiet := (h.entries k d entry).quiet
    have put : RosterOk (s.putEntry k (some (d.reassigned g a f))) := by
      refine h.putEntry k ?_ ?_ ?_ ⟨free, range⟩ fun _ => ⟨rfl, taken⟩
      · exact ⟨Nat.zero_le 2, nofun, nofun, quiet⟩
      · exact fun m e other he _ same => other (alone m e he same)
      · exact fun m e other he on here => other (alone m e he (holder m e he on here))
    by_cases here : d.segment = g
    · simp only [State.recordAssign, found, entry, here, if_true, Option.some.injEq] at recorded
      subst recorded
      unfold State.updateEntry
      simp only
      split
      · exact put
      · exact put.still (State.Calm.rosterChange _ k false false).toStill
    · simp only [State.recordAssign, found, entry, here, if_false, Option.some.injEq] at recorded
      subst recorded
      exact put.still (State.Calm.rosterChange _ k false true).toStill

theorem RosterOk.assignTaken (h : RosterOk s) : RosterOk (s.assignTaken g) := by
  unfold State.assignTaken
  split
  · next f a current chosen =>
    split
    · next t recorded => exact (h.recordAssign current chosen recorded).still (State.Calm.afterAssign t g).toStill
    · exact h.still ((State.Calm.endSweep _ g _).toStill.trans (State.Calm.modEngine s g (.inl rfl)).toStill)
  · exact h

theorem RosterOk.assignOutcome (h : RosterOk s) (r : TxRun) (w : TxWay) : RosterOk (s.assignOutcome g r w) := by
  unfold State.assignOutcome
  repeat' split
  · exact h.assignTaken
  · exact h.still (State.Calm.enrolRefused s g).toStill
  · exact h.still (State.Calm.enrolOther s g w).toStill

theorem RosterOk.engineOutcome (h : RosterOk s) (on : (s.seg g).enabled = true) (r : TxRun) (w : TxWay) (eighth : Bool) :
    RosterOk (s.engineOutcome g r w eighth) := by
  have read := State.Calm.afterResult s g w
  have h := h.still read.toStill
  have on := (read.stillSeg g).enabled on
  unfold State.engineOutcome
  simp only
  split
  case h_1 calling => exact h.still (State.Calm.callOutcome calling r w).toStill
  case h_2 identifying => exact h.identifyOutcome on identifying r w
  case h_3 => exact h.assignOutcome r w
  case h_4 parking => exact h.still (State.Calm.parkOutcome parking r w).toStill
  case h_5 => exact h.still (State.Calm.forgetOutcome _ g r w eighth).toStill
  case h_6 => exact h
  case h_7 => exact h

theorem State.txEnd_enabled {a : Activity} {bus : List BusAnswer} {stopMade : Bool} {run : TxRun × TxWay}
    (ends : s.txEnd g a bus stopMade = some run) : (s.seg g).enabled = true := by
  unfold State.txEnd at ends
  split at ends
  · next running => simp [Segment.enabled, running.1]
  · cases ends

/-- The end of an enrolment command, on a segment that runs it and so is enabled. -/
theorem RosterOk.enrolEnds (h : RosterOk s) (st : SweepState) (bus : List BusAnswer) (stopMade : Bool) :
    RosterOk (s.enrolEnds st g bus stopMade) := by
  unfold State.enrolEnds
  split
  · split
    · next r w ends =>
      have left := State.Still.leaveBus s g w
      exact (h.still left).engineOutcome ((left.stillSeg g).enabled (State.txEnd_enabled ends)) r w _
    · exact h
  · exact h

end Engine

/-! ### Configurations -/

/-- A byte of a list in which one byte has been set. -/
theorem byteAt_set (l : List Byte) (k n : Nat) (v : Byte) (long : n < l.length) :
    byteAt (l.set k v) n = if k = n then v else byteAt l n := by
  by_cases same : k = n <;> simp [byteAt, same, long]

theorem SegConfig.setItem_items {c new : SegConfig} {item v : Byte} (set : c.setItem item v = some new) :
    new.items = c.items.set item.toNat v ∧ (itemRange item.toNat).1 ≤ v.toNat ∧ v.toNat ≤ (itemRange item.toNat).2 := by
  obtain ⟨inside, outside⟩ := c.setItem_taken item v
  by_cases range : (itemRange item.toNat).1 ≤ v.toNat ∧ v.toNat ≤ (itemRange item.toNat).2
  · obtain ⟨other, taken, items⟩ := inside range
    rw [set, Option.some.injEq] at taken
    exact ⟨taken ▸ items, range⟩
  · cases (outside range).symm.trans set

/-- The pool range lies in 08h to 77h (R153). -/
def SegConfig.PoolInRange (c : SegConfig) : Prop := 0x08 ≤ c.poolFirst.toNat ∧ c.poolLast.toNat ≤ 0x77

/-- The pool range by the item values. -/
theorem SegConfig.poolInRange_iff (c : SegConfig) :
    c.PoolInRange ↔ 0x08 ≤ (byteAt c.items 12).toNat ∧ (byteAt c.items 13).toNat ≤ 0x77 := by
  have first : (byteAt c.items 12).toNat = c.poolFirst.toNat := by
    show (c.poolFirst.setWidth 8).toNat = _
    rw [BitVec.toNat_setWidth]
    omega
  have last : (byteAt c.items 13).toNat = c.poolLast.toNat := by
    show (c.poolLast.setWidth 8).toNat = _
    rw [BitVec.toNat_setWidth]
    omega
  rw [first, last]
  rfl

theorem SegConfig.PoolInRange.setItem {c new : SegConfig} {item v : Byte} (h : c.PoolInRange)
    (set : c.setItem item v = some new) : new.PoolInRange := by
  obtain ⟨items, low, high⟩ := SegConfig.setItem_items set
  have long : c.items.length = 17 := rfl
  rw [SegConfig.poolInRange_iff] at h ⊢
  rw [items, byteAt_set _ _ _ _ (by omega), byteAt_set _ _ _ _ (by omega)]
  constructor
  · split
    · next first => rw [first] at low; exact low
    · exact h.1
  · split
    · next last => rw [last] at high; exact high
    · exact h.2

theorem SegConfig.PoolInRange.setItems {c new : SegConfig} {items : List (Byte × Byte)} (h : c.PoolInRange)
    (set : c.setItems items = some new) : new.PoolInRange := by
  induction items generalizing c with
  | nil => cases set; exact h
  | cons p items ih =>
    obtain ⟨d, one, rest⟩ := Option.bind_eq_some_iff.mp set
    exact ih (h.setItem one) rest

theorem newConfig_setItems {c new : SegConfig} {items : List (Byte × Byte)} (list : newConfig c items = some new) :
    c.setItems items = some new := by
  unfold newConfig at list
  split at list
  · exact (Option.filter_eq_some_iff.mp list).1
  · cases list

/-- The live items are no address of the segment's own (R155, Table 11-1). -/
theorem SegConfig.setItem_reserved {c new : SegConfig} {item v : Byte} (live : item = 0x0E ∨ item = 0x10)
    (set : c.setItem item v = some new) : new.reserved = c.reserved := by
  rcases live with rfl | rfl
  · obtain ⟨x, -, rfl⟩ := Option.map_eq_some_iff.mp (show (boolOf v).map _ = some new from set)
    rfl
  · cases (show some _ = some new from set)
    rfl

theorem SegConfig.setItems_reserved {c new : SegConfig} {items : List (Byte × Byte)}
    (live : ∀ p ∈ items, p.1 = 0x0E ∨ p.1 = 0x10) (set : c.setItems items = some new) : new.reserved = c.reserved := by
  induction items generalizing c with
  | nil => cases set; rfl
  | cons p items ih =>
    obtain ⟨d, one, rest⟩ := Option.bind_eq_some_iff.mp set
    exact (ih (fun q hq => live q (.tail p hq)) rest).trans (SegConfig.setItem_reserved (live p (.head items)) one)

section Configure

variable {s : State} {g : Seg} {c : SegConfig}

theorem Segment.reconfigured_core (sg : Segment) (c : SegConfig) : (sg.reconfigured c).config = c ∧
    (sg.reconfigured c).sc = sg.sc ∧ (sg.reconfigured c).engine = sg.engine := by
  unfold Segment.reconfigured
  rw [Segment.dropPosted_both]
  unfold Segment.rollItem
  split <;> exact ⟨rfl, rfl, rfl⟩

/-- The notice item of a configuration changes the notice service alone (R139). -/
theorem State.Calm.noticeItem (s : State) (g : Seg) (old new : SegConfig) : (s.noticeItem g old new).Calm s := by
  unfold State.noticeItem
  repeat' split
  · rfl
  · exact .modNotice s g _
  · exact .enterWatching s g
  · exact .modNotice s g _

/-- A configuration that passed the checks of R154 and R155 takes effect. -/
theorem RosterOk.configure {items : List (Byte × Byte)} (h : RosterOk s)
    (list : newConfig (s.seg g).config items = some c)
    (live : ¬ ((s.seg g).enabled = true ∧ items.any (fun p => !liveItem p.1) = true)) (fine : ¬ s.configConflict g c = true) :
    RosterOk (s.configure g c) := by
  rw [State.configure_eq]
  refine RosterOk.still (State.Calm.noticeItem _ g _ c).toStill ?_
  obtain ⟨config, sc, engine⟩ := (s.seg g).reconfigured_core c
  have same : ∀ k, k ≠ g → (s.modSeg g (·.reconfigured c)).seg k = s.seg k := fun k hk => State.seg_modSeg_ne _ _ _ _ hk
  have own : (s.modSeg g (·.reconfigured c)).seg g = (s.seg g).reconfigured c := State.seg_modSeg_self _ _ _
  have set := newConfig_setItems list
  rw [State.configConflict_iff, not_or, not_or] at fine
  obtain ⟨-, entries, -⟩ := fine
  refine ⟨h.entries, h.identities, h.addresses, fun k e he => ?_, fun k a ha => ?_, fun k => ?_⟩
  · obtain ⟨free, range⟩ := h.reserved k e he
    refine ⟨?_, range⟩
    by_cases here : e.segment = g
    · rw [here, own, config]
      exact fun taken => entries ⟨k, e, he, here, taken⟩
    · rwa [same _ here]
  · by_cases here : k = g
    · subst here
      rw [own, engine] at ha
      obtain ⟨assigning, enabled, free, range, only⟩ := h.chosen k a ha
      have kept : c.reserved = (s.seg k).config.reserved := by
        refine SegConfig.setItems_reserved (fun p hp => ?_) set
        by_contra other
        rw [not_or] at other
        exact live ⟨enabled, liveItems_iff.mpr ⟨p, hp, other⟩⟩
      rw [own, engine, config, kept, Segment.enabled, sc]
      exact ⟨assigning, enabled, free, range, only⟩
    · rw [same k here] at ha ⊢
      exact h.chosen k a ha
  · by_cases here : k = g
    · subst here
      rw [own, config]
      exact SegConfig.PoolInRange.setItems (h.pool k) set
    · rw [same k here]
      exact h.pool k

end Configure

/-! ### Requests, resets and disables -/

section Requests

variable {s : State} {g : Seg}

/-- An entry leaves the Roster (R94). -/
theorem RosterOk.dropEntry (h : RosterOk s) (k : Handle) : RosterOk (s.dropEntry k) := by
  refine h.less ⟨fun m e he => ?_, fun g => ?_, fun g => .inr ?_⟩
  · by_cases here : m = k
    · rw [here, State.dropEntry_entryAt_self] at he
      cases he
    · rw [State.dropEntry_entryAt_ne s here] at he
      exact ⟨e, he, rfl, rfl, rfl, id⟩
  · rw [State.dropEntry_seg]; exact (Segment.Still.forgetProbe _ k).config
  · rw [State.dropEntry_seg]; exact Segment.Still.forgetProbe _ k

theorem State.Still.removeAll (is : List Slot) (s : State) : (is.foldl State.removeReaches s).Still s :=
  (State.CalmJobs.foldl State.CalmJobs.removeReaches is s).toStill

/-- Work accepted holds no address: the Engine had none in hand (R107). -/
theorem RosterOk.accept (h : RosterOk s) (w : WorkKind) (idle : ¬ (s.seg g).engine.busy = true) :
    RosterOk ((s.modEngine g (·.accept w)).markChoice g) := by
  have none : (s.seg g).engine.state = .none := by simpa [Engine.busy] using idle
  have free := h.chosen_eq_none (g := g) (by simp [none])
  exact h.still ((State.Calm.markChoice _ g).toStill.trans (State.Calm.modEngine s g (.inl free)).toStill)

/-- A disable up to its jobs: the lines released, the current job ended, and with FLUSH the waiting jobs (R158, R159). -/
def State.jobsDisabled (s : State) (g : Seg) (flush : Bool) (cut : BusCut) : State :=
  let t := ((s.cutPresence g cut).modSeg g (·.release)).endCurrent g (s.cutRun g cut)
  if flush then t.flush g else t

theorem State.CalmJobs.jobsDisabled (s : State) (g : Seg) (flush : Bool) (cut : BusCut) :
    (s.jobsDisabled g flush cut).CalmJobs ((s.cutPresence g cut).modSeg g (·.release)) := by
  unfold State.jobsDisabled
  simp only
  split
  · exact (State.CalmJobs.flush _ g).trans (State.CalmJobs.endCurrent _ g _)
  · exact State.CalmJobs.endCurrent _ g _

/-- The rest of a disable: the sweep, the service, and what is quiet then (R158). -/
def State.restDisabled (s : State) (g : Seg) (cut : BusCut) : State :=
  ((((s.abortSweep g).abandonService g cut.sent).modSeg g (·.quiet)).mapEntries g fun e => { e with probeDue := false })

theorem State.disable_eq (s : State) (g : Seg) (flush : Bool) (cut : BusCut) :
    s.disable g flush cut = (s.jobsDisabled g flush cut).restDisabled g cut := rfl

theorem State.Still.afterAbort (s : State) (g : Seg) (cut : BusCut) : (s.restDisabled g cut).Still (s.abortSweep g) :=
  (State.Calm.mapEntries_probeDue _ g false).toStill.trans ((State.Still.modSeg _ g (.of_sc rfl rfl rfl)).trans
    (State.Still.abandonService _ g _))

/-- Only an ASSIGN in hand holds an address, still. -/
theorem Engine.Calm.assigns {a b : Engine} (calm : a.Calm b) (assigns : b.chosen ≠ none → b.state = .assigning)
    (chosen : a.chosen ≠ none) : a.state = .assigning := by
  rcases calm with none | ⟨same, goesOn⟩
  · exact absurd none chosen
  · exact (goesOn (assigns (same ▸ chosen))).1

/-- An address that is given up stays so. -/
theorem Segment.Still.chosen_eq_none {a b : Segment} (still : a.Still b) (none : b.engine.chosen = none) :
    a.engine.chosen = .none :=
  still.engine.elim id fun same => same.1.trans none

/-- No ASSIGN is in hand after its sweep was aborted (R158). -/
theorem State.abortSweep_chosen (assigns : (s.seg g).engine.chosen ≠ none → (s.seg g).engine.state = .assigning) :
    ((s.abortSweep g).seg g).engine.chosen = none := by
  unfold State.abortSweep
  split
  · unfold State.endSweep
    simp only
    split
    · rw [State.seg_modSeg_self]; rfl
    · rw [((State.placeClaim_same _ _).seg g).engine, State.seg_modSeg_self]; rfl
  · next idle =>
    by_contra chosen
    exact idle (by simp [Engine.busy, assigns chosen])

/-- After a disable no ASSIGN of the segment is in hand; nothing else that the Roster looks at has changed (R158). -/
theorem RosterOk.disable (h : RosterOk s) (flush : Bool) (cut : BusCut) : RosterOk (s.disable g flush cut) := by
  have h := h.still (State.Calm.cutPresence s g cut).toStill
  generalize before : s.cutPresence g cut = r at h
  have jobs : (s.jobsDisabled g flush cut).Still (r.modSeg g (·.release)) :=
    before ▸ (State.CalmJobs.jobsDisabled s g flush cut).toStill
  have rest := State.Still.afterAbort (s.jobsDisabled g flush cut) g cut
  have still := rest.trans ((State.Calm.abortSweep _ g).toStill.trans jobs)
  rw [State.disable_eq]
  have config : ∀ k, ((r.modSeg g (·.release)).seg k).config = (r.seg k).config :=
    State.forall_seg_modSeg (R := fun x y => x.config = y.config) (fun _ => rfl) r g rfl
  refine RosterOk.less (s := r) ⟨fun k _ => (still.entry k).standsFor, fun k => (still.stillSeg k).config.trans (config k), fun k => ?_⟩ h
  by_cases here : k = g
  · subst here
    have own : (r.modSeg k (·.release)).seg k = (r.seg k).release := State.seg_modSeg_self _ _ _
    refine .inl ((rest.stillSeg k).chosen_eq_none (State.abortSweep_chosen ((jobs.stillSeg k).engine.assigns ?_)))
    rw [own]
    intro chosen
    by_contra other
    exact chosen (h.chosen_eq_none other)
  · have same := still.stillSeg k
    rw [State.seg_modSeg_ne _ _ _ _ here] at same
    exact .inr same

theorem State.entryAt_cleared (s : State) (h : Handle) (warm : Bool) : (s.cleared warm).entryAt h =
    if warm then (s.entryAt h).map fun e =>
      { e with misses := 0, probeDue := false, claimWaiting := false, created := false, moved := false, changes := 0 }
    else none := by
  cases warm <;> simp [State.cleared, State.entryAt]

theorem State.seg_cleared (s : State) (g : Seg) (warm : Bool) : (s.cleared warm).seg g =
    Segment.after (if warm then (s.seg g).config else SegConfig.default) (s.seg g).noticeLine := by
  simp [State.cleared, State.seg]

/-- The cold values (R178). -/
theorem RosterOk.cold (s : State) : RosterOk (s.cleared false) where
  entries h e he := by rw [State.entryAt_cleared] at he; cases he
  identities h k e f he := by rw [State.entryAt_cleared] at he; cases he
  addresses h k e f he := by rw [State.entryAt_cleared] at he; cases he
  reserved h e he := by rw [State.entryAt_cleared] at he; cases he
  chosen g a ha := by rw [State.seg_cleared] at ha; cases ha
  pool g := by
    rw [State.seg_cleared]
    show SegConfig.default.PoolInRange
    unfold SegConfig.PoolInRange
    decide

/-- A WARM restart keeps the Roster but for presence, and the configurations (R178). -/
theorem RosterOk.warm (h : RosterOk s) : RosterOk (s.cleared true) := by
  refine h.less ⟨fun k e he => ?_, fun g => by rw [State.seg_cleared]; rfl, fun g => .inl (by rw [State.seg_cleared]; rfl)⟩
  rw [State.entryAt_cleared, if_pos rfl, Option.map_eq_some_iff] at he
  obtain ⟨d, hd, rfl⟩ := he
  exact ⟨d, hd, rfl, rfl, rfl, fun ok => ⟨Nat.zero_le 2, fun _ => rfl, ok.enrolled, fun _ => ⟨rfl, rfl, rfl⟩⟩⟩

theorem State.RosterLess.freeSlot (s : State) (i : Slot) : (s.freeSlot i).RosterLess s := by
  unfold State.freeSlot
  repeat' split
  · exact .of_same rfl fun _ => .refl _
  · exact .of_same rfl fun _ => .refl _
  · exact .of_same rfl fun _ => .refl _

theorem State.RosterLess.freeMessage (s : State) (g : Seg) (k : RecordIx) : (s.freeMessage g k).RosterLess s := by
  unfold State.freeMessage
  split
  · exact .of_same rfl fun _ => .refl _
  · exact .of_same rfl (State.Still.modSeg s g (f := (·.modInbound k (·.drop 1))) (.of_sc rfl rfl rfl)).stillSeg

theorem State.RosterLess.tellOwner (s : State) (r : Report) : (s.tellOwner r).RosterLess s := by
  unfold State.tellOwner
  split
  · exact .freeSlot s _
  · exact .freeMessage s _ _
  · exact .of_same rfl fun _ => .refl _

theorem State.rosterLess_takeSlot (s : State) (i : Slot) (j : Job) : (s.takeSlot i j).RosterLess s :=
  .of_same rfl fun _ => .refl _

/-- What a request makes of the blocks keeps the laws of the Roster. -/
theorem RosterOk.block {t : State} (change : BlockChange s t) (h : RosterOk s) : RosterOk t := by
  cases change with
  | configure list live fine => exact h.configure list live fine
  | enable off => exact h.still (.enable s _)
  | flush off => exact h.still (State.CalmJobs.flush s _).toStill
  | disable flush cut on => exact h.disable flush cut
  | recover fault => exact h.still (.modSeg s _ (.of_enabled rfl rfl (by simp)))
  | submit req target predecessor slot pool =>
    exact (h.less (s.rosterLess_takeSlot _ _)).still (State.CalmJobs.placeIfComplete _ _).toStill
  | append job staging fits => exact h.still ((State.CalmJobs.placeIfComplete _ _).toStill.trans (.modJob s _ _))
  | cancel job live => exact h.still (.cancelJob s _ _)
  | addFixed small checked free => exact h.addFixed small checked
  | remove entry => exact (h.still (.removeAll _ s)).dropEntry _
  | enrol w on idle => exact h.accept w idle
  | post g ix p => exact h.still (.post s g ix p)
  | withdraw g ix => exact h.still (.withdraw s g ix)

theorem RosterOk.coreLaw : CoreLaw RosterOk where
  blind s t same h := by
    simp only [State.core, Prod.mk.injEq] at same
    obtain ⟨-, -, -, segs, roster, -⟩ := same
    exact h.less (.of_same roster fun g => by rw [State.seg, segs]; exact .refl _)
  calm s t calm h := h.still calm.toStill
  cold := .cold
  warm s h := h.warm
  owner s r h := h.less (.tellOwner s r)
  block s t change h := h.block change
  event f s hf h := by
    obtain ⟨st, g, bus, stopMade, rfl⟩ | still := hf.enrolEnds_or_still
    · exact h.enrolEnds st bus stopMade
    · exact h.still (still s)
  choice s g h := h.still (.choicePoint s g)

end Requests

/-- Settles O51: the changes that requests, events, resets and choice points make each keep the laws of the Roster. -/
theorem stepKeepsRosterLaws : Obligations.StepKeepsRosterLaws := by
  unfold Obligations.StepKeepsRosterLaws
  exact fun _ _ h ht => RosterOk.coreLaw.keeps.step h ht

end Sys2Proof.Machine

/-!
Segment Controller, bus monitor and Dispatch of every segment agree after every step. What the law reads of a segment is
`Alike` in all that claims, jobs, the Roster and the engines change; for each state of the Segment Controller one lemma
says what the law asks of a segment in it, and every operation of the bus ends in one of these.
-/

namespace Sys2Proof.Machine

/-! ### What the law reads -/

/-- The fairness laws of one segment (R31). -/
def Segment.FairOk (sg : Segment) : Prop := sg.fairness ≤ 4 ∧ (sg.routine = [] → sg.fairness = 0)

/-- Two segments that agree in what `SegmentOk` reads. -/
structure Segment.Alike (a b : Segment) : Prop where
  sc : a.sc = b.sc
  monitor : a.monitor = b.monitor
  stretch : a.stretch = b.stretch
  recover : a.recoverRequested = b.recoverRequested
  handed : a.handed.isSome = b.handed.isSome
  service : a.service = .none ↔ b.service = .none
  fair : b.FairOk → a.FairOk

@[refl] theorem Segment.Alike.refl (a : Segment) : a.Alike a := ⟨rfl, rfl, rfl, rfl, rfl, .rfl, id⟩

theorem Segment.Alike.trans {a b c : Segment} (h : a.Alike b) (k : b.Alike c) : a.Alike c :=
  ⟨h.sc.trans k.sc, h.monitor.trans k.monitor, h.stretch.trans k.stretch, h.recover.trans k.recover,
    h.handed.trans k.handed, h.service.trans k.service, h.fair ∘ k.fair⟩

theorem Segment.Steady.alike {a b : Segment} (h : a.Steady b) : a.Alike b :=
  ⟨h.sc, h.monitor, h.stretch, h.recoverRequested, by rw [h.handed], by rw [h.service],
    fun fair => ⟨h.fairness fair.1, h.routine fair.2⟩⟩

/-- What the law reads of a segment. -/
def Segment.control (sg : Segment) :=
  (sg.sc, sg.monitor, sg.stretch, sg.recoverRequested, sg.handed, sg.service, sg.fairness, sg.routine)

theorem Segment.Alike.of_control {a b : Segment} (same : a.control = b.control) : a.Alike b := by
  simp only [Segment.control, Prod.mk.injEq] at same
  obtain ⟨sc, monitor, stretch, recover, handed, service, count, routine⟩ := same
  refine ⟨sc, monitor, stretch, recover, by rw [handed], by rw [service], ?_⟩
  rw [Segment.FairOk, Segment.FairOk, count, routine]
  exact id

/-- Two states whose segments agree in what the law reads. -/
def State.Alike (t s : State) : Prop := ∀ g, (t.seg g).Alike (s.seg g)

@[refl] theorem State.Alike.refl (s : State) : s.Alike s := fun _ => .refl _

theorem State.Alike.trans {a b c : State} (h : a.Alike b) (k : b.Alike c) : a.Alike c := fun g => (h g).trans (k g)

theorem State.Steady.alike {t s : State} (h : t.Steady s) : t.Alike s := fun g => (h.steadySeg g).alike

theorem State.Calm.alike {t s : State} (h : t.Calm s) : t.Alike s := h.toSteady.alike

theorem State.CalmJobs.alike {t s : State} (h : t.CalmJobs s) : t.Alike s := h.toSteady.alike

theorem State.Alike.modSeg (s : State) (g : Seg) {f : Segment → Segment} (h : (f (s.seg g)).Alike (s.seg g)) :
    (s.modSeg g f).Alike s :=
  State.forall_seg_modSeg .refl s g h

theorem SegmentOk.alike {a b : Segment} (same : a.Alike b) (h : SegmentOk b) : SegmentOk a where
  off := by rw [same.sc, same.monitor]; exact h.off
  serving := by rw [same.sc, same.service]; exact h.serving
  contending := by rw [same.sc, same.handed, same.monitor]; exact h.contending
  controlling := by rw [same.sc, same.handed, same.monitor]; exact h.controlling
  idle idle := by
    rw [same.sc] at idle
    have none := same.handed
    rw [h.idle idle] at none
    simpa using none
  stretch := by rw [same.sc, same.stretch]; exact h.stretch
  recover := by rw [same.sc, same.recover]; exact h.recover
  fairness := (same.fair ⟨h.fairness, h.routine⟩).1
  routine := (same.fair ⟨h.fairness, h.routine⟩).2

theorem SegmentsOk.alike {t s : State} (h : SegmentsOk s) (same : t.Alike s) : SegmentsOk t :=
  fun g => (h g).alike (same g)

theorem SegmentsOk.steady {t s : State} (h : SegmentsOk s) (same : t.Steady s) : SegmentsOk t := h.alike same.alike

theorem SegmentsOk.modSeg {s : State} (h : SegmentsOk s) (g : Seg) {f : Segment → Segment} (ok : SegmentOk (f (s.seg g))) :
    SegmentsOk (s.modSeg g f) := fun k => by
  by_cases here : k = g
  · subst here; rwa [State.seg_modSeg_self]
  · rw [State.seg_modSeg_ne _ _ _ _ here]; exact h k

/-- A mark of a choice point is not read. -/
theorem SegmentsOk.marked {s : State} (h : SegmentsOk s) (g : Seg) : SegmentsOk (s.markChoice g) :=
  h.alike (State.Calm.markChoice s g).alike

/-! ### By the state of the Segment Controller -/

section Cases

variable {sg : Segment}

theorem SegmentOk.fair (h : SegmentOk sg) : sg.FairOk := ⟨h.fairness, h.routine⟩

theorem SegmentOk.on (h : SegmentOk sg) (on : sg.sc ≠ .disabled) : sg.monitor ≠ .off := fun off => on (h.off.mp off)

theorem SegmentOk.service_none (h : SegmentOk sg) (other : sg.sc ≠ .serving) : sg.service = .none := h.serving.mpr other

theorem SegmentOk.stretch_none (h : SegmentOk sg) (other : sg.sc ≠ .controlling) : sg.stretch = none :=
  Option.not_isSome_iff_eq_none.mp fun some => other (h.stretch some)

theorem SegmentOk.recover_false (h : SegmentOk sg) (other : sg.sc ≠ .recovering) : sg.recoverRequested = false :=
  Bool.eq_false_iff.mpr fun requested => other (h.recover requested)

variable (fair : sg.FairOk)
include fair

theorem SegmentOk.of_idle (sc : sg.sc = .idle ∨ sg.sc = .fault) (on : sg.monitor ≠ .off) (handed : sg.handed = none)
    (stretch : sg.stretch = none) (recover : sg.recoverRequested = false) (service : sg.service = .none) : SegmentOk sg := by
  constructor
  case fairness => exact fair.1
  case routine => exact fair.2
  all_goals rcases sc with sc | sc <;> simp [sc, on, handed, stretch, recover, service]

theorem SegmentOk.of_recovering (sc : sg.sc = .recovering) (on : sg.monitor ≠ .off) (stretch : sg.stretch = none)
    (service : sg.service = .none) : SegmentOk sg := by
  constructor
  case fairness => exact fair.1
  case routine => exact fair.2
  all_goals simp [sc, on, stretch, service]

theorem SegmentOk.of_serving (sc : sg.sc = .serving) (on : sg.monitor ≠ .off) (stretch : sg.stretch = none)
    (recover : sg.recoverRequested = false) (service : sg.service ≠ .none) : SegmentOk sg := by
  constructor
  case fairness => exact fair.1
  case routine => exact fair.2
  all_goals simp [sc, on, stretch, recover, service]

theorem SegmentOk.of_contending (sc : sg.sc = .contending) (on : sg.monitor ≠ .off) (busy : sg.monitor ≠ .free)
    (handed : sg.handed.isSome = true) (stretch : sg.stretch = none) (recover : sg.recoverRequested = false)
    (service : sg.service = .none) : SegmentOk sg := by
  constructor
  case fairness => exact fair.1
  case routine => exact fair.2
  all_goals simp [sc, on, busy, handed, stretch, recover, service]

theorem SegmentOk.of_controlling (sc : sg.sc = .controlling) (on : sg.monitor = .busy ∨ sg.monitor = .free)
    (handed : sg.handed.isSome = true) (recover : sg.recoverRequested = false) (service : sg.service = .none) :
    SegmentOk sg := by
  constructor
  case fairness => exact fair.1
  case routine => exact fair.2
  all_goals rcases on with on | on <;> simp [sc, on, handed, recover, service]

theorem SegmentOk.of_disabled (sc : sg.sc = .disabled) (off : sg.monitor = .off) (handed : sg.handed = none)
    (stretch : sg.stretch = none) (recover : sg.recoverRequested = false) (service : sg.service = .none) : SegmentOk sg := by
  constructor
  case fairness => exact fair.1
  case routine => exact fair.2
  all_goals simp [sc, off, handed, stretch, recover, service]

/-- An activity that waits in CONTENDING drives its start where the bus is FREE (R50). -/
theorem SegmentOk.driveStart (sc : sg.sc = .contending) (on : sg.monitor ≠ .off) (handed : sg.handed.isSome = true)
    (stretch : sg.stretch = none) (recover : sg.recoverRequested = false) (service : sg.service = .none) :
    SegmentOk sg.driveStart := by
  unfold Segment.driveStart
  split
  · exact .of_controlling fair rfl (.inl rfl) handed recover service
  · next waits => exact .of_contending fair sc on (fun free => waits ⟨sc, free⟩) handed stretch recover service

end Cases

/-! ### The bus monitor -/

section Monitor

variable {sg : Segment} {s : State} {g : Seg}

/-- The monitor takes a state that the Segment Controller's own state allows. -/
theorem SegmentOk.withMonitor {m : MonitorState} {seen : Bool} (h : SegmentOk sg) (off : m = .off ↔ sg.sc = .disabled)
    (contending : sg.sc = .contending → m ≠ .free) (controlling : sg.sc = .controlling → m = .busy ∨ m = .free) :
    SegmentOk { sg with monitor := m, stopSeen := seen } :=
  ⟨off, h.serving, fun sc => ⟨(h.contending sc).1, contending sc⟩, fun sc => ⟨(h.controlling sc).1, controlling sc⟩,
    h.idle, h.stretch, h.recover, h.fairness, h.routine⟩

theorem SegmentOk.startSeen (h : SegmentOk sg) : SegmentOk sg.startSeen := by
  by_cases off : sg.monitor = .off
  · rwa [Segment.startSeen_off off]
  · rw [Segment.startSeen_on off]
    exact h.withMonitor (by simpa using fun sc => off (h.off.mpr sc)) (fun _ => by simp) fun _ => .inl rfl

theorem SegmentOk.clockFall (h : SegmentOk sg) : SegmentOk sg.clockFall := by
  unfold Segment.clockFall
  split
  · exact h
  · exact h.startSeen

theorem Segment.Alike.seeStop (sg : Segment) : sg.seeStop.Alike sg := by
  unfold Segment.seeStop
  split
  · exact .of_control rfl
  · rfl

theorem SegmentOk.stretched (h : SegmentOk sg) (eighth : Bool) : SegmentOk (sg.stretched eighth) := by
  unfold Segment.stretched
  split
  · next runs =>
    exact ⟨h.off, h.serving, h.contending, h.controlling, h.idle, fun _ => runs.1, h.recover, h.fairness, h.routine⟩
  · exact h

/-- What the monitor sees of a recovery's own pulses (R61, log entry 19). -/
theorem SegmentOk.recoveryWatched (h : SegmentOk sg) (sc : sg.sc = .recovering) (pulses : List RecoveryPulse)
    (r : RecoveryResult) : SegmentOk (sg.recoveryWatched pulses r) := by
  cases r with
  | stopMade => exact h.clockFall.alike (.seeStop _)
  | dataHeld =>
    simp only [Segment.recoveryWatched]
    split
    · exact h.clockFall
    · exact h
  | clockHeld => exact h.withMonitor (by simp [sc]) (fun _ => by simp) fun runs => by cases sc.symm.trans runs

/-- The monitor turns FREE (R50, R53). -/
theorem SegmentsOk.turnFree (h : SegmentsOk s) (on : (s.seg g).monitor ≠ .off) : SegmentsOk (s.turnFree g) := by
  have ok := h g
  have enabled : (s.seg g).sc ≠ .disabled := fun sc => on (ok.off.mpr sc)
  by_cases contends : (s.seg g).sc = .contending
  · rw [State.turnFree_starts contends]
    exact (h.modSeg g (.of_controlling ok.fair rfl (.inl rfl) (ok.contending contends).1
      (ok.recover_false (by simp [contends])) (ok.service_none (by simp [contends])))).marked g
  · rw [State.turnFree_waits contends]
    exact (h.modSeg g (ok.withMonitor (by simpa using enabled) (absurd · contends) fun _ => .inr rfl)).marked g

theorem SegmentsOk.freeTimeElapses (h : SegmentsOk s) : SegmentsOk (freeTimeElapses g s) := by
  unfold Machine.freeTimeElapses
  simp only
  split
  · next seen => exact h.turnFree (by rcases seen.1 with m | m <;> simp [m])
  · exact h

end Monitor

/-! ### Services -/

section Services

variable {sg : Segment} {s : State} {g : Seg}

/-- A service gives way to another (R58). -/
theorem SegmentOk.withService {sv : Service} (h : SegmentOk sg) (serves : sg.service ≠ .none) (goesOn : sv ≠ .none) :
    SegmentOk { sg with service := sv } :=
  ⟨h.off, iff_of_false goesOn fun other => serves (h.serving.mpr other), h.contending, h.controlling, h.idle, h.stretch,
    h.recover, h.fairness, h.routine⟩

/-- What an operation on a service leaves: the segment with that service alone changed, as far as the law reads it. -/
theorem SegmentsOk.served {t : State} {sv : Service} (h : SegmentsOk s) (serves : (s.seg g).service ≠ .none)
    (goesOn : sv ≠ .none) (same : t.Alike (s.modSeg g fun sg => { sg with service := sv })) : SegmentsOk t :=
  (h.modSeg g ((h g).withService serves goesOn)).alike same

/-- A change of a segment that the law reads as a change of its service alone. -/
theorem State.Alike.service (s : State) (g : Seg) {f : Segment → Segment} {sv : Service}
    (same : (f (s.seg g)).control = { s.seg g with service := sv }.control) :
    (s.modSeg g f).Alike (s.modSeg g fun sg => { sg with service := sv }) := fun k => by
  by_cases here : k = g
  · subst here
    rw [State.seg_modSeg_self, State.seg_modSeg_self]
    exact .of_control same
  · rw [State.seg_modSeg_ne _ _ _ _ here, State.seg_modSeg_ne _ _ _ _ here]

theorem State.Alike.readTaken (s : State) (g : Seg) (ix : StationIx) (p : PostedReply) (current : Bool) (n : Nat) :
    (s.readTaken g ix p current n).Alike (s.modSeg g fun sg => { sg with service := .passive }) :=
  (State.Calm.placeClaimOnce _ _).alike.trans (.service s g rfl)

theorem State.Alike.messageTaken (s : State) (g : Seg) (m : Message) (byRestart : Bool) :
    (s.messageTaken g m byRestart).Alike (s.modSeg g fun sg => { sg with service := .passive }) := by
  unfold State.messageTaken
  split
  · rfl
  · exact (State.Calm.placeClaim _ _).alike.trans (.service s g rfl)

theorem SegmentsOk.endRead (h : SegmentsOk s) (n : Nat) : SegmentsOk (s.endRead g n) := by
  cases service : (s.seg g).service with
  | reading ix p current =>
    rw [State.endRead_reading n service]
    exact h.served (by simp [service]) (by simp) (.readTaken s g ix p current n)
  | _ => rwa [State.endRead_other n (by simp [service])]

theorem SegmentsOk.endTransaction (h : SegmentsOk s) (n : Nat) (byRestart : Bool) :
    SegmentsOk (s.endTransaction g n byRestart) := by
  cases service : (s.seg g).service with
  | receiving m =>
    rw [State.endTransaction_receiving n byRestart service]
    exact h.served (by simp [service]) (by simp) (.messageTaken s g m byRestart)
  | reading ix p current =>
    rw [State.endTransaction_reading n byRestart service]
    exact h.served (by simp [service]) (by simp) (.readTaken s g ix p current n)
  | _ => rwa [State.endTransaction_other n byRestart (by simp [service]) (by simp [service])]

/-- The end of a transaction leaves the Segment Controller SERVING. -/
theorem State.endTransaction_sc (s : State) (g : Seg) (n : Nat) (byRestart : Bool) :
    ((s.endTransaction g n byRestart).seg g).sc = (s.seg g).sc := by
  have kept {t : State} (same : t.Alike (s.modSeg g fun sg => { sg with service := .passive })) :
      (t.seg g).sc = (s.seg g).sc := by rw [(same g).sc, State.seg_modSeg_self]
  cases service : (s.seg g).service with
  | receiving m => rw [State.endTransaction_receiving n byRestart service]; exact kept (.messageTaken s g m byRestart)
  | reading ix p current =>
    rw [State.endTransaction_reading n byRestart service]; exact kept (.readTaken s g ix p current n)
  | _ => rw [State.endTransaction_other n byRestart (by simp [service]) (by simp [service])]

/-- A service ends; an activity that waits contends again (R58). -/
theorem SegmentsOk.leaveServing (h : SegmentsOk s) (serves : (s.seg g).sc = .serving) : SegmentsOk (s.leaveServing g) := by
  have ok := h g
  have on := ok.on (by simp [serves])
  have stretch := ok.stretch_none (by simp [serves])
  have recover := ok.recover_false (by simp [serves])
  unfold State.leaveServing
  split
  · next waits => exact h.modSeg g (.driveStart ok.fair rfl on waits stretch recover rfl)
  · next nothing =>
    exact (h.modSeg g (.of_idle ok.fair (.inl rfl) on (Option.not_isSome_iff_eq_none.mp nothing) stretch recover rfl)).marked g

/-- A stop, or the 1 ms, ends a transaction and its service. -/
theorem SegmentsOk.endService (h : SegmentsOk s) (serves : (s.seg g).sc = .serving) (n : Nat) :
    SegmentsOk ((s.endTransaction g n false).leaveServing g) :=
  (h.endTransaction n false).leaveServing ((s.endTransaction_sc g n false).trans serves)

theorem SegmentsOk.stopSeen (h : SegmentsOk s) (n : Nat) : SegmentsOk (stopSeen g n s) := by
  have seen : SegmentsOk (s.modSeg g (·.seeStop)) := h.modSeg g ((h g).alike (.seeStop _))
  unfold Machine.stopSeen
  simp only
  repeat' split
  · exact h
  · next serves => exact seen.endService serves n
  · exact seen

theorem SegmentsOk.repeatedStartSeen (h : SegmentsOk s) (n : Nat) : SegmentsOk (repeatedStartSeen g n s) := by
  have seen : SegmentsOk (s.modSeg g (·.startSeen)) := h.modSeg g (h g).startSeen
  unfold Machine.repeatedStartSeen
  simp only
  repeat' split
  · exact h
  · next serves =>
    have ended := seen.endTransaction (g := g) n true
    have goesOn := (State.endTransaction_sc (s.modSeg g (·.startSeen)) g n true).trans serves
    refine ended.modSeg g ((ended g).withService (fun none => ?_) (by simp))
    exact (ended g).serving.mp none goesOn
  · exact seen

theorem SegmentsOk.holdExpires (h : SegmentsOk s) : SegmentsOk (holdExpires g s) := by
  unfold Machine.holdExpires
  split
  · next service =>
    exact h.served (by simp [service]) (by simp) ((State.Calm.placeClaimOnce _ _).alike.trans (.service s g (sv := .passive) rfl))
  · exact h

theorem SegmentsOk.byteArrives (h : SegmentsOk s) (b : Byte) : SegmentsOk (byteArrives g b s) := by
  unfold Machine.byteArrives
  split
  · next m service =>
    have receiving (new : Message) : SegmentsOk (s.modSeg g fun sg => { sg with service := .receiving new }) :=
      h.modSeg g ((h g).withService (by simp [service]) (by simp))
    simp only
    repeat' split
    · exact h
    · exact receiving _
    · exact receiving _
    · exact receiving { m with bytes := m.bytes ++ [b] }
    · exact receiving _
  · exact h

/-- A service begins where the Segment Controller evaluates addresses (R58). -/
theorem SegmentOk.serve {sv : Service} (h : SegmentOk sg) (evaluates : sg.evaluates = true) (serves : sv ≠ .none) :
    SegmentOk { sg with sc := .serving, service := sv } := by
  rw [Segment.evaluates_iff] at evaluates
  have enabled : sg.sc ≠ .disabled := by rcases evaluates with sc | sc | ⟨sc, -⟩ <;> simp [sc]
  have stretch : sg.sc ≠ .controlling := by rcases evaluates with sc | sc | ⟨sc, -⟩ <;> simp [sc]
  have recover : sg.sc ≠ .recovering := by rcases evaluates with sc | sc | ⟨sc, -⟩ <;> simp [sc]
  exact .of_serving h.fair rfl (h.on enabled) (h.stretch_none stretch) (h.recover_false recover) serves

theorem SegmentsOk.addressSeen (h : SegmentsOk s) (b : Byte) : SegmentsOk (addressSeen g b s) := by
  unfold Machine.addressSeen
  split
  · next evaluates =>
    cases (s.seg g).decide b with
    | receive r a => exact h.modSeg g ((h g).serve evaluates (by simp))
    | serve ix p => exact h.modSeg g ((h g).serve evaluates (by simp))
    | refuse => exact h.modSeg g ((h g).serve evaluates (by simp))
    | hold ix =>
      have held := (h g).serve evaluates (sv := .holding ix (s.seg g).config.holdLimit) (by simp)
      refine SegmentsOk.alike (h.modSeg g (SegmentOk.alike ?_ held)) (State.Calm.placeClaimOnce _ _).alike
      exact .of_control rfl
    | noMatch =>
      simp only [State.serveDecision]
      split
      · next serves => exact h.leaveServing serves
      · exact h
  · exact h

end Services

/-! ### Activities -/

section Activities

variable {sg : Segment} {s : State} {g : Seg}

/-- An activity handed on a segment that is IDLE (R57). -/
theorem SegmentOk.hand (h : SegmentOk sg) (idle : sg.sc = .idle) (a : Activity) : SegmentOk (sg.hand a) :=
  .driveStart (sg := { sg with sc := .contending, handed := some a }) h.fair rfl (h.on (by simp [idle])) rfl
    (h.stretch_none (by simp [idle])) (h.recover_false (by simp [idle])) (h.service_none (by simp [idle]))

theorem SegmentsOk.handActivity (h : SegmentsOk s) (idle : (s.seg g).sc = .idle) (a : Activity) :
    SegmentsOk (s.handActivity g a) := h.modSeg g ((h g).hand idle a)

theorem SegmentsOk.handAttempt (h : SegmentsOk s) (idle : (s.seg g).sc = .idle) (i : Slot) :
    SegmentsOk (s.handAttempt g i) := by
  unfold State.handAttempt
  split
  · exact h
  · split
    · exact (h.alike (State.CalmJobs.endJob s i _ _).alike).marked g
    · exact SegmentsOk.handActivity (s := s.modJob i _) h idle _

/-- The job that Dispatch selects from URGENT is taken before the fairness count reaches 4 (R31). -/
theorem Segment.selection_fair {c : JobClass} {i : Slot} (fair : sg.FairOk) (taken : sg.selection = .select c i) :
    (sg.select c i).FairOk := by
  cases c with
  | routine => exact ⟨Nat.zero_le 4, fun _ => rfl⟩
  | urgent =>
    show (if sg.routine.isEmpty then 0 else sg.fairness + 1) ≤ 4 ∧
      (sg.routine = [] → (if sg.routine.isEmpty then 0 else sg.fairness + 1) = 0)
    cases routine : sg.routine with
    | nil => exact ⟨Nat.zero_le 4, fun _ => rfl⟩
    | cons r rs =>
      refine ⟨?_, nofun⟩
      have below : sg.fairness ≠ 4 := by
        intro limit
        unfold Segment.selection at taken
        cases urgent : sg.urgent <;> simp [urgent, routine, limit, Config.fairnessLimit] at taken
      have := fair.1
      simp only [List.isEmpty_cons, Bool.false_eq_true, if_false]
      omega

theorem SegmentOk.select {c : JobClass} {i : Slot} (h : SegmentOk sg) (idle : sg.sc = .idle)
    (taken : sg.selection = .select c i) : SegmentOk (sg.select c i) := by
  have fair := Segment.selection_fair h.fair taken
  have on := h.on (by simp [idle])
  have handed := h.idle (.inl idle)
  have stretch := h.stretch_none (by simp [idle])
  have recover := h.recover_false (by simp [idle])
  have service := h.service_none (by simp [idle])
  cases c with
  | urgent => exact .of_idle fair (.inl idle) on handed stretch recover service
  | routine => exact .of_idle fair (.inl idle) on handed stretch recover service

/-- A selection is that of R31. -/
theorem State.pick_takes {c : JobClass} {i : Slot} (picked : s.pick g = .select c i) :
    (s.seg g).selection = .select c i := by
  unfold State.pick at picked
  repeat' split at picked
  case h_2.isFalse.isFalse.isTrue => exact picked
  all_goals cases picked

theorem Segment.select_sc (sg : Segment) (c : JobClass) (i : Slot) : (sg.select c i).sc = sg.sc := by cases c <;> rfl

theorem SegmentsOk.choicePoint (h : SegmentsOk s) : SegmentsOk (s.choicePoint g) := by
  unfold State.choicePoint
  split
  · next ready =>
    have idle : (s.seg g).sc = .idle := by
      simp only [Segment.ready, Bool.and_eq_true, beq_iff_eq] at ready
      exact ready.1
    cases picked : s.pick g with
    | resume i =>
      have begun : SegmentsOk ((s.modJob i fun j => { j with state := .active }).modSeg g fun sg =>
          { sg with backoffExpired := false }) := SegmentsOk.alike h (.modSeg _ g (.of_control rfl))
      exact begun.handAttempt (by rwa [State.seg_modSeg_self]) i
    | query =>
      have querying : SegmentsOk (s.modSeg g fun sg => { sg with notice := { sg.notice with state := .querying } }) :=
        h.alike (.modSeg _ g (.of_control rfl))
      exact querying.handActivity (by rwa [State.seg_modSeg_self]) _
    | enrol =>
      have begun : SegmentsOk (s.modSeg g fun sg => { sg with engine := sg.engine.handed }) :=
        h.alike (.modSeg _ g (.of_control rfl))
      exact begun.handActivity (by rwa [State.seg_modSeg_self]) _
    | select c i =>
      have taken : SegmentsOk (s.modSeg g (·.select c i)) := h.modSeg g ((h g).select idle (State.pick_takes picked))
      refine SegmentsOk.handAttempt (s := (s.modSeg g (·.select c i)).modJob i _) taken ?_ i
      show ((s.modSeg g (·.select c i)).seg g).sc = .idle
      rwa [State.seg_modSeg_self, Segment.select_sc]
    | probe k =>
      simp only [State.handWork]
      split
      · exact h.handActivity idle _
      · exact h
    | nothing => exact h
  · exact h

/-- An activity that runs ends (R57, R60). -/
theorem SegmentOk.afterWay (h : SegmentOk sg) (runs : sg.sc = .controlling) (w : TxWay) : SegmentOk (sg.afterWay w) := by
  have on := h.on (by simp [runs])
  have recover := h.recover_false (by simp [runs])
  have service := h.service_none (by simp [runs])
  have left : SegmentOk { sg with handed := none, stretch := none, sc := .idle } :=
    .of_idle h.fair (.inl rfl) on rfl rfl recover service
  cases w with
  | lostFirst b | lostLater => exact left
  | busFault => exact .of_recovering h.fair rfl on rfl service
  | _ =>
    have seen := Segment.Alike.seeStop { sg with handed := none, stretch := none }
    refine SegmentOk.alike ?_ left
    exact ⟨rfl, seen.monitor, seen.stretch, seen.recover, seen.handed, seen.service, seen.fair⟩

theorem SegmentsOk.leaveBus (h : SegmentsOk s) (runs : (s.seg g).sc = .controlling) (w : TxWay) :
    SegmentsOk (s.leaveBus g w) := by
  have left : SegmentsOk (s.modSeg g (·.afterWay w)) := h.modSeg g ((h g).afterWay runs w)
  unfold State.leaveBus
  simp only
  split
  · exact (left.addressSeen _).marked g
  · exact left.marked g

/-- A transaction that ends is that of an activity that runs. -/
theorem State.txEnd_runs {a : Activity} {bus : List BusAnswer} {stopMade : Bool} {run : TxRun × TxWay}
    (ends : s.txEnd g a bus stopMade = some run) : (s.seg g).sc = .controlling := by
  unfold State.txEnd at ends
  split at ends
  · next running => exact running.1
  · cases ends

theorem SegmentsOk.attemptEnds (h : SegmentsOk s) (bus : List BusAnswer) (stopMade : Bool) :
    SegmentsOk (attemptEnds g bus stopMade s) := by
  unfold Machine.attemptEnds
  split
  · split
    · next ends =>
      exact (h.leaveBus (State.txEnd_runs ends) _).alike (State.CalmJobs.jobOutcome _ g _ _ _).alike
    · exact h.alike (State.Calm.attemptGoesOn s g _ bus).alike
  · exact h

theorem SegmentsOk.cancelReaches (h : SegmentsOk s) (bus : List BusAnswer) (next : Option BusAnswer) (stopMade : Bool) :
    SegmentsOk (cancelReaches g bus next stopMade s) := by
  unfold Machine.cancelReaches
  repeat' split
  · next running _ _ _ _ => exact (h.leaveBus running.1 _).alike (State.CalmJobs.jobOutcome _ g _ _ _).alike
  all_goals exact h

theorem SegmentsOk.probeEnds (h : SegmentsOk s) (bus : List BusAnswer) (stopMade : Bool) :
    SegmentsOk (probeEnds g bus stopMade s) := by
  unfold Machine.probeEnds
  repeat' split
  · next ends => exact (h.leaveBus (State.txEnd_runs ends) _).alike (State.Calm.probeOutcome _ g _ _ _).alike
  all_goals exact h

theorem SegmentsOk.queryEnds (h : SegmentsOk s) (bus : List BusAnswer) (stopMade : Bool) :
    SegmentsOk (queryEnds g bus stopMade s) := by
  unfold Machine.queryEnds
  split
  · next ends => exact (h.leaveBus (State.txEnd_runs ends) _).alike (State.Calm.noticeOutcome _ g _ _).alike
  · exact h

theorem SegmentsOk.enrolEnds (h : SegmentsOk s) (st : SweepState) (bus : List BusAnswer) (stopMade : Bool) :
    SegmentsOk (s.enrolEnds st g bus stopMade) := by
  unfold State.enrolEnds
  repeat' split
  · next ends => exact (h.leaveBus (State.txEnd_runs ends) _).steady (State.CalmEnrol.engineOutcome _ g _ _ _).toSteady
  all_goals exact h

/-- A job that waits for the bus is abandoned; it is not the activity that runs (R38, R40). -/
theorem SegmentsOk.abandonWait (h : SegmentsOk s) (waits : (s.seg g).sc ≠ .controlling) :
    SegmentsOk (s.abandonWait g) := by
  have ok := h g
  unfold State.abandonWait
  split
  · next contends =>
    exact (h.modSeg g (.of_idle ok.fair (.inl rfl) (ok.on (by simp [contends])) rfl (ok.stretch_none waits)
      (ok.recover_false (by simp [contends])) (ok.service_none (by simp [contends])))).marked g
  · next other =>
    exact h.modSeg g ⟨ok.off, ok.serving, fun sc => absurd sc other, fun sc => absurd sc waits, fun _ => rfl, ok.stretch,
      ok.recover, ok.fairness, ok.routine⟩

theorem Segment.not_controlling_of_waits {i : Slot} (waits : sg.waits i = true) : sg.sc ≠ .controlling := by
  simp only [Segment.waits, Bool.and_eq_true, bne_iff_ne] at waits
  exact waits.2

theorem SegmentsOk.endWaiting {i : Slot} (h : SegmentsOk s) (waits : (s.seg g).waits i = true) (st : EndStatus) :
    SegmentsOk (s.endWaiting g i st) :=
  (h.abandonWait (Segment.not_controlling_of_waits waits)).alike (State.CalmJobs.endJob _ i st _).alike

theorem SegmentsOk.cancelJob (h : SegmentsOk s) (i : Slot) (j : Job) : SegmentsOk (s.cancelJob i j) := by
  unfold State.cancelJob
  simp only
  repeat' split
  · next waits => exact SegmentsOk.endWaiting (s := s.modJob i _) h waits _
  · exact h
  · exact h.alike (State.CalmJobs.endJob s i _ _).alike

theorem SegmentsOk.deadlineExpires (h : SegmentsOk s) (i : Slot) : SegmentsOk (deadlineExpires i s) := by
  unfold Machine.deadlineExpires State.deadlineReaches
  repeat' split
  · exact h
  · next waits => exact h.endWaiting waits _
  · exact h
  · exact h.alike (State.CalmJobs.endJob s i _ _).alike
  · exact h

end Activities

/-! ### FAULT, recovery and disable -/

section Faults

variable {s : State} {g : Seg}

/-- The law by its segments: the one that changed and the others. -/
theorem SegmentsOk.of_own (own : SegmentOk (s.seg g)) (others : ∀ k, k ≠ g → SegmentOk (s.seg k)) : SegmentsOk s :=
  fun k => if here : k = g then here ▸ own else others k here

theorem State.Alike.abandonService (s : State) (g : Seg) (n : Nat) :
    (s.abandonService g n).Alike (s.modSeg g fun sg => { sg with service := .none }) := by
  rw [State.abandonService_eq]
  unfold State.serviceGone
  split
  · exact fun _ => .refl _
  · next ix p current _ =>
    intro k
    have same := State.Alike.readTaken s g ix p current n k
    by_cases here : k = g
    · subst here
      rw [State.seg_modSeg_self] at same ⊢
      rw [State.seg_modSeg_self]
      exact ⟨same.sc, same.monitor, same.stretch, same.recover, same.handed, .rfl, same.fair⟩
    · rw [State.seg_modSeg_ne _ _ _ _ here] at same ⊢
      rwa [State.seg_modSeg_ne _ _ _ _ here]
  · rfl

theorem Segment.dropped_id {sg : Segment} (handed : sg.handed = none) (stretch : sg.stretch = none) :
    { sg with handed := none, stretch := none } = sg := by
  cases sg
  cases handed
  cases stretch
  rfl

/-- The handed activity is gone, its owner told. -/
theorem State.Steady.faultActivity (s : State) (g : Seg) (cut : BusCut)
    (runs : (s.seg g).handed = none → (s.seg g).stretch = none) :
    (s.faultActivity g cut).Steady (s.modSeg g fun sg => { sg with handed := none, stretch := none }) := by
  unfold State.faultActivity
  split
  · next none => rw [State.modSeg_id s g (Segment.dropped_id none (runs none))]
  · exact .activityOutcome _ g _ _ _ _

/-- What the faults and the recovery need of a segment whose monitor was changed at once (R54, R61). -/
structure Segment.CanFail (sg : Segment) : Prop where
  on : sg.monitor ≠ .off
  stretch : sg.sc ≠ .controlling → sg.stretch = none
  handed : sg.sc = .controlling → sg.handed.isSome
  fair : sg.FairOk

theorem SegmentOk.canFail {sg : Segment} (h : SegmentOk sg) (on : sg.sc ≠ .disabled) : sg.CanFail :=
  ⟨h.on on, h.stretch_none, fun sc => (h.controlling sc).1, h.fair⟩

theorem Segment.CanFail.withMonitor {sg : Segment} {m : MonitorState} {seen : Bool} (h : sg.CanFail) (on : m ≠ .off) :
    { sg with monitor := m, stopSeen := seen }.CanFail := ⟨on, h.stretch, h.handed, h.fair⟩

theorem Segment.CanFail.unhanded {sg : Segment} (h : sg.CanFail) (none : sg.handed = none) : sg.stretch = .none :=
  h.stretch fun sc => by simpa [none] using h.handed sc

/-- A Segment Controller that passes to FAULT or RECOVERING with its service abandoned. -/
theorem SegmentsOk.abandoned {u : State} {sc : ScState} {n : Nat} (others : ∀ k, k ≠ g → SegmentOk (u.seg k))
    (own : SegmentOk { u.seg g with sc := sc, recoverRequested := false, service := .none }) :
    SegmentsOk ((u.passTo g sc).abandonService g n) := by
  refine SegmentsOk.alike (.of_own (g := g) ?_ fun k other => ?_) (State.Alike.abandonService _ g n)
  · rw [State.seg_modSeg_self, State.passTo, State.seg_modSeg_self]
    exact own
  · rw [State.seg_modSeg_ne _ _ _ _ other, State.passTo, State.seg_modSeg_ne _ _ _ _ other]
    exact others k other

/-- The segments after the activity in hand was dropped. -/
theorem State.faultActivity_others (cut : BusCut) (can : (s.seg g).CanFail) (others : ∀ k, k ≠ g → SegmentOk (s.seg k))
    (k : Seg) (other : k ≠ g) : SegmentOk ((s.faultActivity g cut).seg k) := by
  have same := ((State.Steady.faultActivity s g cut can.unhanded).steadySeg k).alike
  rw [State.seg_modSeg_ne _ _ _ _ other] at same
  exact (others k other).alike same

theorem SegmentsOk.enterFault (can : (s.seg g).CanFail) (others : ∀ k, k ≠ g → SegmentOk (s.seg k)) (line : BusLine)
    (cut : BusCut) : SegmentsOk (s.enterFault g line cut) := by
  have same := (State.Steady.faultActivity s g cut can.unhanded).steadySeg g
  rw [State.seg_modSeg_self] at same
  refine SegmentsOk.alike (.abandoned (State.faultActivity_others cut can others) ?_) (State.Calm.claimFault _ g _).alike
  exact .of_idle (same.alike.fair can.fair) (.inr rfl) (by rw [same.monitor]; exact can.on) same.handed same.stretch rfl rfl

theorem SegmentsOk.enterRecovering (can : (s.seg g).CanFail) (others : ∀ k, k ≠ g → SegmentOk (s.seg k)) (cut : BusCut) :
    SegmentsOk (s.enterRecovering g cut) := by
  unfold State.enterRecovering
  simp only
  by_cases runs : (s.seg g).sc = .controlling
  · rw [if_pos runs]
    have same := (State.Steady.faultActivity s g cut can.unhanded).steadySeg g
    rw [State.seg_modSeg_self] at same
    refine .abandoned (State.faultActivity_others cut can others) ?_
    exact .of_recovering (same.alike.fair can.fair) rfl (by rw [same.monitor]; exact can.on) same.stretch rfl
  · rw [if_neg runs]
    exact .abandoned others (.of_recovering can.fair rfl can.on (can.stretch runs) rfl)

theorem SegmentsOk.stuckDetected (h : SegmentsOk s) (line : BusLine) (cut : BusCut) :
    SegmentsOk (stuckDetected g line cut s) := by
  by_cases sticks : (s.seg g).canStick = true
  · have ok := h g
    have on : (s.seg g).monitor ≠ .off := fun off => by simp [Segment.canStick, off] at sticks
    have enabled : (s.seg g).sc ≠ .disabled := fun sc => on (ok.off.mpr sc)
    let t := s.modSeg g fun sg => { sg with monitor := .stuck, stopSeen := false }
    have can : (t.seg g).CanFail := by
      rw [State.seg_modSeg_self]
      exact (ok.canFail enabled).withMonitor (by simp)
    have others : ∀ k, k ≠ g → SegmentOk (t.seg k) := fun k other => by
      rw [State.seg_modSeg_ne _ _ _ _ other]
      exact h k
    have acts (moves : (s.seg g).sc = .idle ∨ (s.seg g).sc = .contending ∨ (s.seg g).sc = .controlling ∨
        (s.seg g).sc = .serving) : SegmentsOk (Machine.stuckDetected g line cut s) := by
      rw [stuckDetected_acts sticks moves]
      cases line with
      | clock => exact .enterFault can others .clock cut
      | data => exact .enterRecovering can others cut
    have rests (stays : (s.seg g).sc = .recovering ∨ (s.seg g).sc = .fault) :
        SegmentsOk (Machine.stuckDetected g line cut s) := by
      rw [stuckDetected_rests sticks (stays.imp_right .inl)]
      refine h.modSeg g (ok.withMonitor (by simpa using enabled) (fun sc => ?_) fun sc => ?_)
      all_goals rcases stays with r | r <;> cases sc.symm.trans r
    cases sc : (s.seg g).sc with
    | idle => exact acts (.inl sc)
    | contending => exact acts (.inr (.inl sc))
    | controlling => exact acts (.inr (.inr (.inl sc)))
    | serving => exact acts (.inr (.inr (.inr sc)))
    | recovering => exact rests (.inl sc)
    | fault => exact rests (.inr sc)
    | disabled => exact absurd sc enabled
  · simpa [Machine.stuckDetected, sticks] using h

/-- A recovery succeeds; what stayed handed contends again (R61). -/
theorem SegmentsOk.recovered (h : SegmentsOk s) (recovering : (s.seg g).sc = .recovering)
    (busy : (s.seg g).monitor ≠ .free) : SegmentsOk (s.recovered g) := by
  have ok := h g
  have on := ok.on (by simp [recovering])
  have stretch := ok.stretch_none (by simp [recovering])
  have service := ok.service_none (by simp [recovering])
  have passed : SegmentsOk (s.passTo g (if (s.seg g).handed.isSome then .contending else .idle)) := by
    split
    · next waits => exact h.modSeg g (.of_contending ok.fair rfl on busy waits stretch rfl service)
    · next nothing =>
      exact h.modSeg g (.of_idle ok.fair (.inl rfl) on (Option.not_isSome_iff_eq_none.mp nothing) stretch rfl service)
  unfold State.recovered
  simp only
  refine SegmentsOk.marked ?_ g
  split
  · exact passed.alike (State.Calm.claimFault _ g _).alike
  · exact passed

theorem Segment.recoveryWatched_sc (sg : Segment) (pulses : List RecoveryPulse) (r : RecoveryResult) :
    (sg.recoveryWatched pulses r).sc = sg.sc := by
  obtain ⟨m, seen, same⟩ := sg.recoveryWatched_monitor pulses r
  rw [same]

theorem SegmentsOk.recoveryEnds (h : SegmentsOk s) (pulses : List RecoveryPulse) : SegmentsOk (recoveryEnds g pulses s) := by
  unfold Machine.recoveryEnds
  split
  · next recovering =>
    split
    · next r _ =>
      have watched : SegmentsOk (s.modSeg g (·.recoveryWatched pulses r)) :=
        h.modSeg g ((h g).recoveryWatched recovering pulses r)
      have stays : ((s.modSeg g (·.recoveryWatched pulses r)).seg g).sc = .recovering := by
        rw [State.seg_modSeg_self, Segment.recoveryWatched_sc, recovering]
      have fails (line : BusLine) : SegmentsOk ((s.modSeg g (·.recoveryWatched pulses r)).enterFault g line ⟨[], 0⟩) :=
        .enterFault ((watched g).canFail (by rw [stays]; simp)) (fun k _ => watched k) line _
      cases r with
      | stopMade =>
        refine watched.recovered stays ?_
        have on := (h g).on (by simp [recovering])
        rw [State.seg_modSeg_self, Segment.recoveryWatched_stopMade, if_neg on]
        simp
      | dataHeld => exact fails .data
      | clockHeld => exact fails .clock
    · exact h
  · exact h

theorem SegmentsOk.leaveFault (h : SegmentsOk s) (fault : (s.seg g).sc = .fault) : SegmentsOk (s.leaveFault g) := by
  have ok := h g
  refine SegmentsOk.marked (SegmentsOk.alike (h.modSeg g (.of_idle ok.fair (.inl rfl) ?_ ?_ ?_ ?_ ?_))
    (State.Calm.claimFault _ g _).alike) g
  · exact ok.on (by simp [fault])
  · exact ok.idle (.inr (.inl fault))
  · exact ok.stretch_none (by simp [fault])
  · exact ok.recover_false (by simp [fault])
  · exact ok.service_none (by simp [fault])

theorem SegmentsOk.linesHigh (h : SegmentsOk s) (n : Nat) : SegmentsOk (linesHigh g n s) := by
  unfold Machine.linesHigh
  split
  · next rest =>
    have on : (s.seg g).monitor ≠ .off := by
      simp only [Segment.linesCanRest, Bool.and_eq_true, bne_iff_ne] at rest
      exact rest.1
    have free : SegmentsOk (if (s.seg g).monitor = .free then s else s.turnFree g) := by
      split
      · exact h
      · exact h.turnFree on
    simp only
    split
    · next serves =>
      split
      · exact free.endService serves n
      · exact free
    · next fault => exact free.leaveFault fault
    · exact free
  · exact h

/-- The segment after a disable is off, with nothing in hand (R158). -/
theorem SegmentsOk.disable (h : SegmentsOk s) (flush : Bool) (cut : BusCut) : SegmentsOk (s.disable g flush cut) := by
  have before := (State.Calm.cutPresence s g cut).alike
  have jobs := (State.CalmJobs.jobsDisabled s g flush cut).toSteady
  have aborted := (State.Calm.abortSweep (s.jobsDisabled g flush cut) g).toSteady.trans jobs
  rw [State.disable_eq, State.restDisabled]
  refine SegmentsOk.alike (.of_own (g := g) ?_ fun k other => ?_) (State.Calm.mapEntries_probeDue _ g false).alike
  · rw [State.seg_modSeg_self]
    have gone := State.Alike.abandonService ((s.jobsDisabled g flush cut).abortSweep g) g cut.sent g
    rw [State.seg_modSeg_self] at gone
    have off := aborted.steadySeg g
    rw [State.seg_modSeg_self] at off
    have nothing : ((((s.jobsDisabled g flush cut).abortSweep g).abandonService g cut.sent).seg g).handed.isSome = false := by
      rw [gone.handed, off.handed]
      rfl
    refine .of_disabled ⟨Nat.zero_le 4, fun _ => rfl⟩ (gone.sc.trans off.sc) (gone.monitor.trans off.monitor) ?_
      (gone.stretch.trans off.stretch) (gone.recover.trans off.recoverRequested) (gone.service.mpr rfl)
    exact Option.isNone_iff_eq_none.mp (Option.isSome_eq_false_iff.mp nothing)
  · rw [State.seg_modSeg_ne _ _ _ _ other]
    have gone := State.Alike.abandonService ((s.jobsDisabled g flush cut).abortSweep g) g cut.sent k
    have off := aborted.steadySeg k
    rw [State.seg_modSeg_ne _ _ _ _ other] at gone off
    exact (h k).alike (gone.trans (off.alike.trans (before k)))

end Faults

/-! ### Requests and events -/

section Law

variable {s : State}

theorem Segment.Alike.forgetProbe (sg : Segment) (h : Handle) : (sg.forgetProbe h).Alike sg := by
  unfold Segment.forgetProbe
  repeat' split
  · next handed _ => exact ⟨rfl, rfl, rfl, rfl, by simp [handed], .rfl, id⟩
  · rfl
  · rfl

/-- A reply posted or withdrawn changes a service, but starts and ends none (R133, R134). -/
theorem Service.outdated_none (sv : Service) (ix : StationIx) : sv.outdated ix = .none ↔ sv = .none := by
  cases sv with
  | reading k p c => simp only [Service.outdated]; split <;> simp
  | _ => exact .rfl

theorem Service.released_none (sv : Service) (ix : StationIx) (p : PostedReply) : sv.released ix p = .none ↔ sv = .none := by
  cases sv with
  | holding k t => simp only [Service.released]; split <;> simp
  | _ => exact .rfl

theorem State.Alike.tellOwner (s : State) (r : Report) : (s.tellOwner r).Alike s := by
  unfold State.tellOwner
  split
  · unfold State.freeSlot
    repeat' split
    all_goals exact fun _ => .refl _
  · next g k _ =>
    unfold State.freeMessage
    split
    · rfl
    · exact State.Alike.modSeg s g (f := (·.modInbound k (·.drop 1))) (.of_control rfl)
  · rfl

theorem SegmentsOk.block {t : State} (change : BlockChange s t) (h : SegmentsOk s) : SegmentsOk t := by
  cases change with
  | @configure g c items list live fine =>
    rw [State.configure_eq]
    refine SegmentsOk.alike (h.alike (.modSeg s g (.of_control ?_))) (State.Calm.noticeItem _ g _ c).alike
    unfold Segment.reconfigured
    rw [Segment.dropPosted_both]
    unfold Segment.rollItem
    split <;> rfl
  | @enable g off =>
    have ok := h g
    have sc : (s.seg g).sc = .disabled := by simpa [Segment.enabled] using off
    have enabled : SegmentsOk ((s.modSeg g (·.enable)).markChoice g) :=
      (h.modSeg g (.of_idle (sg := (s.seg g).enable) ok.fair (.inl rfl) (by simp [Segment.enable]) (ok.idle (.inr (.inr sc)))
        (ok.stretch_none (by simp [sc])) (ok.recover_false (by simp [sc])) (ok.service_none (by simp [sc])))).marked g
    unfold State.enable
    simp only
    split
    · exact enabled.alike (State.Calm.enterWatching _ g).alike
    · exact enabled
  | flush off => exact h.alike (State.CalmJobs.flush s _).alike
  | disable flush cut on => exact h.disable flush cut
  | @recover g fault =>
    have ok := h g
    exact h.modSeg g (.of_recovering ok.fair rfl (ok.on (by simp [fault])) (ok.stretch_none (by simp [fault]))
      (ok.service_none (by simp [fault])))
  | submit req target predecessor slot pool =>
    exact SegmentsOk.alike (s := s.takeSlot _ _) h (State.CalmJobs.placeIfComplete _ _).alike
  | append job staging fits =>
    exact SegmentsOk.alike (s := s.modJob _ _) h (State.CalmJobs.placeIfComplete _ _).alike
  | cancel job live => exact h.cancelJob _ _
  | addFixed small checked free => exact h
  | @remove k entry =>
    refine (h.alike (State.CalmJobs.foldl State.CalmJobs.removeReaches (s.jobsNaming k) s).alike).alike fun g => ?_
    rw [State.dropEntry_seg]
    exact .forgetProbe _ _
  | enrol w on idle => exact (h.alike (.modSeg s _ (.of_control rfl))).marked _
  | post g ix p =>
    refine h.alike (.modSeg s g ⟨rfl, rfl, rfl, rfl, rfl, ?_, id⟩)
    exact (Service.released_none _ ix p).trans (Service.outdated_none _ ix)
  | withdraw g ix => exact h.alike (.modSeg s g ⟨rfl, rfl, rfl, rfl, rfl, Service.outdated_none _ ix, id⟩)

theorem SegmentsOk.event {f : State → State} (hf : Event f) (h : SegmentsOk s) : SegmentsOk (f s) := by
  cases hf with
  | nothing => exact h
  | stagingExpires i => exact h.alike (State.CalmJobs.stagingExpires s i).alike
  | deadlineExpires i => exact h.deadlineExpires i
  | backoffExpires g => exact h.alike (State.Calm.backoffExpires s g).alike
  | rollExpires g => exact h.alike (State.Calm.rollExpires s g).alike
  | holdExpires g => exact h.holdExpires
  | retryWaitExpires g => exact h.alike (State.Calm.retryWaitExpires s g).alike
  | attemptEnds g bus stopMade => exact h.attemptEnds bus stopMade
  | cancelReaches g bus next stopMade => exact h.cancelReaches bus next stopMade
  | probeEnds g bus stopMade => exact h.probeEnds bus stopMade
  | enrolEnds st g bus stopMade => exact h.enrolEnds st bus stopMade
  | queryEnds g bus stopMade => exact h.queryEnds bus stopMade
  | lineAsserted g => exact h.alike (State.Calm.lineAsserted s g).alike
  | lineReleased g => exact h.alike (State.Calm.lineReleased s g).alike
  | startSeen g => exact h.modSeg g (h g).startSeen
  | clockFall g => exact h.modSeg g (h g).clockFall
  | stopSeen g n => exact h.stopSeen n
  | repeatedStartSeen g n => exact h.repeatedStartSeen n
  | freeTimeElapses g => exact h.freeTimeElapses
  | linesHigh g n => exact h.linesHigh n
  | stuckDetected g line cut => exact h.stuckDetected line cut
  | stretched g eighth => exact h.modSeg g ((h g).stretched eighth)
  | recoveryEnds g pulses => exact h.recoveryEnds pulses
  | addressSeen g b => exact h.addressSeen b
  | byteArrives g b => exact h.byteArrives b
  | endRead g n => exact h.endRead n

theorem SegmentOk.after (c : SegConfig) (line : Bool) : SegmentOk (Segment.after c line) :=
  .of_disabled ⟨Nat.zero_le 4, fun _ => rfl⟩ rfl rfl rfl rfl rfl rfl

theorem SegmentsOk.cleared (s : State) (warm : Bool) : SegmentsOk (s.cleared warm) := fun g => by
  rw [State.seg_cleared]
  exact .after _ _

theorem SegmentsOk.coreLaw : CoreLaw SegmentsOk where
  blind s t same h g := by
    simp only [State.core, Prod.mk.injEq] at same
    obtain ⟨-, -, -, segs, -, -⟩ := same
    rw [State.seg, segs]
    exact h g
  calm s t calm h := h.alike calm.alike
  cold s := .cleared s false
  warm s _ := .cleared s true
  owner s r h := h.alike (.tellOwner s r)
  block s t change h := h.block change
  event f s hf h := h.event hf
  choice s g h := h.choicePoint

end Law

/-- Settles O37: requests, events, resets and choice points each leave every segment in agreement with itself. -/
theorem stepKeepsSegmentsConsistent : Obligations.StepKeepsSegmentsConsistent := by
  unfold Obligations.StepKeepsSegmentsConsistent
  exact fun _ _ h ht => SegmentsOk.coreLaw.keeps.step h ht

end Sys2Proof.Machine

/-!
The law of the Block Pool (R147): every operation moves blocks between the free count, the job slots and the messages of
the segments, or leaves them. That only a segment in SERVING has a service goes with it, since a service that begins takes
the place of none that holds blocks.
-/

namespace Sys2Proof.Machine

/-! ### Counting blocks -/

/-- A sum in which one term has changed. -/
theorem sum_map_change {α : Type} {l : List α} (alone : l.Nodup) {i : α} (mem : i ∈ l) {old new : α → Nat}
    (same : ∀ k, k ≠ i → new k = old k) : (l.map new).sum + old i = (l.map old).sum + new i := by
  induction l with
  | nil => cases mem
  | cons a l ih =>
    obtain ⟨fresh, alone⟩ := List.nodup_cons.mp alone
    simp only [List.map_cons, List.sum_cons]
    rcases List.mem_cons.mp mem with rfl | mem
    · have rest : l.map new = l.map old := List.map_congr_left fun k hk => same k fun e => fresh (e ▸ hk)
      rw [rest]
      omega
    · have head : new a = old a := same a fun e => fresh (e ▸ mem)
      have := ih alone mem
      omega

/-- The blocks that a service holds (R125, R126). -/
def Service.blocks : Service → Nat
  | .receiving m => (m.bytes.length + 31) / 32
  | _ => 0

theorem Segment.messageBlocksHeld_eq (sg : Segment) : sg.messageBlocksHeld =
    blocksOf (sg.inboundAt 0) + blocksOf (sg.inboundAt 1) + blocksOf (sg.inboundAt 2) + sg.service.blocks := by
  have lists : sg.inbound.toList = [sg.inboundAt 0, sg.inboundAt 1, sg.inboundAt 2] := by
    simp only [Segment.inboundAt]
    obtain ⟨⟨l⟩, size⟩ := sg.inbound
    match l, size with
    | [a, b, c], _ => rfl
  simp only [Segment.messageBlocksHeld, lists, List.flatten_cons, List.flatten_nil, List.append_nil, List.map_append,
    List.sum_append, blocksOf]
  cases sg.service <;> simp only [Service.blocks] <;> omega

/-- The blocks that the messages of all segments hold. -/
def State.messages (s : State) : Nat := (allSegs.map fun g => (s.seg g).messageBlocksHeld).sum

/-- Every block: free, with a job slot, or with a message (R147). -/
def State.blocks (s : State) : Nat := s.poolFree + s.jobBlocks + s.messages

theorem State.messages_modSeg (s : State) (g : Seg) (f : Segment → Segment) :
    (s.modSeg g f).messages + (s.seg g).messageBlocksHeld = s.messages + (f (s.seg g)).messageBlocksHeld := by
  have mem : g ∈ allSegs := by revert g; decide
  have alone : allSegs.Nodup := by decide
  have moved := sum_map_change (old := fun k => (s.seg k).messageBlocksHeld)
    (new := fun k => ((s.modSeg g f).seg k).messageBlocksHeld) alone mem fun k hk => by
      simp only [State.seg_modSeg_ne _ _ _ _ hk]
  rwa [State.seg_modSeg_self] at moved

/-- The blocks of one job slot. -/
def blocksAt : Option Job → Nat
  | some j => j.blocksHeld
  | none => 0

theorem State.jobBlocks_eq (s : State) : s.jobBlocks = (allSlots.map fun i => blocksAt (s.jobAt i)).sum := by
  unfold State.jobBlocks
  congr 2

/-- A slot written. -/
theorem State.jobBlocks_change {t s : State} (i : Slot) (same : ∀ k, k ≠ i → t.jobAt k = s.jobAt k) :
    t.jobBlocks + blocksAt (s.jobAt i) = s.jobBlocks + blocksAt (t.jobAt i) := by
  rw [State.jobBlocks_eq, State.jobBlocks_eq]
  exact sum_map_change (old := fun k => blocksAt (s.jobAt k)) (new := fun k => blocksAt (t.jobAt k))
    (List.nodup_finRange 32) (List.mem_finRange i) fun k hk => by simp only [same k hk]

/-! ### What keeps the law -/

/-- Only a segment in SERVING has a service. -/
def Segment.ServiceOk (sg : Segment) : Prop := sg.sc ≠ .serving → sg.service = .none

/-- Two segments that hold the same blocks, the second of them with a service in SERVING only if the first has. -/
structure Segment.Pooled (a b : Segment) : Prop where
  held : a.messageBlocksHeld = b.messageBlocksHeld
  service : b.ServiceOk → a.ServiceOk

@[refl] theorem Segment.Pooled.refl (a : Segment) : a.Pooled a := ⟨rfl, id⟩

/-- A change that leaves messages and services, and no segment out of SERVING. -/
theorem Segment.Pooled.of_sc {a b : Segment} (inbound : a.inbound = b.inbound) (service : a.service = b.service)
    (sc : b.sc = .serving → a.sc = .serving) : a.Pooled b where
  held := by simp only [Segment.messageBlocksHeld_eq, Segment.inboundAt, inbound, service]
  service ok other := by rw [service]; exact ok fun serves => other (sc serves)

/-- A change that leaves the messages and the state of the Segment Controller, while a service goes on. -/
theorem Segment.Pooled.of_service {a b : Segment} (inbound : a.inbound = b.inbound)
    (blocks : a.service.blocks = b.service.blocks) (sc : a.sc = b.sc) (none : b.service = .none → a.service = .none) :
    a.Pooled b where
  held := by simp only [Segment.messageBlocksHeld_eq, Segment.inboundAt, inbound, blocks]
  service ok other := none (ok (sc ▸ other))

theorem Segment.Steady.pooled {a b : Segment} (h : a.Steady b) : a.Pooled b where
  held := by simp only [Segment.messageBlocksHeld_eq, h.inbound, h.service]
  service ok other := by rw [h.service]; exact ok (h.sc ▸ other)

/-- Two states with the same blocks altogether, the second with no service outside SERVING that the first had not. -/
structure State.Pooled (t s : State) : Prop where
  total : t.blocks = s.blocks
  service : ∀ g, (s.seg g).ServiceOk → (t.seg g).ServiceOk

@[refl] theorem State.Pooled.refl (s : State) : s.Pooled s := ⟨rfl, fun _ => id⟩

theorem State.Pooled.trans {a b c : State} (h : a.Pooled b) (k : b.Pooled c) : a.Pooled c :=
  ⟨h.total.trans k.total, fun g => h.service g ∘ k.service g⟩

theorem PoolOk.pooled {t s : State} (h : PoolOk s) (same : t.Pooled s) : PoolOk t :=
  ⟨same.total.trans h.total, fun g => same.service g (h.service g)⟩

/-- The blocks by what each slot and each segment holds. -/
theorem State.blocks_congr {t s : State} (free : t.poolFree = s.poolFree)
    (jobs : ∀ i, (t.jobAt i).map (·.blocksHeld) = (s.jobAt i).map (·.blocksHeld))
    (segs : ∀ g, (t.seg g).messageBlocksHeld = (s.seg g).messageBlocksHeld) : t.blocks = s.blocks := by
  have slot (o : Option Job) : blocksAt o = (o.map (·.blocksHeld)).getD 0 := by cases o <;> rfl
  simp only [State.blocks, State.jobBlocks_eq, State.messages, slot, free, jobs, segs]

theorem State.Steady.pooled {t s : State} (h : t.Steady s) : t.Pooled s :=
  ⟨State.blocks_congr h.poolFree h.blocks fun g => (h.steadySeg g).pooled.held, fun g => (h.steadySeg g).pooled.service⟩

theorem State.Calm.pooled {t s : State} (h : t.Calm s) : t.Pooled s := h.toSteady.pooled

theorem State.CalmJobs.pooled {t s : State} (h : t.CalmJobs s) : t.Pooled s := h.toSteady.pooled

theorem State.blocks_modSeg (s : State) (g : Seg) (f : Segment → Segment) :
    (s.modSeg g f).blocks + (s.seg g).messageBlocksHeld = s.blocks + (f (s.seg g)).messageBlocksHeld := by
  have moved := s.messages_modSeg g f
  have rest : (s.modSeg g f).blocks = s.poolFree + s.jobBlocks + (s.modSeg g f).messages := rfl
  rw [rest, State.blocks]
  omega

theorem State.Pooled.modSeg (s : State) (g : Seg) {f : Segment → Segment} (h : (f (s.seg g)).Pooled (s.seg g)) :
    (s.modSeg g f).Pooled s where
  total := by
    have moved := s.blocks_modSeg g f
    rw [h.held] at moved
    omega
  service := State.forall_seg_modSeg (R := fun a b => b.ServiceOk → a.ServiceOk) (fun _ => id) s g h.service

/-- A change of one segment, with blocks returned to the pool or taken from it. -/
theorem State.blocks_modSeg_free (s : State) (g : Seg) (f : Segment → Segment) (n : Nat)
    (moved : n + (f (s.seg g)).messageBlocksHeld = s.poolFree + (s.seg g).messageBlocksHeld) :
    State.blocks { s.modSeg g f with poolFree := n } = s.blocks := by
  have sum := s.messages_modSeg g f
  have rest : State.blocks { s.modSeg g f with poolFree := n } = n + s.jobBlocks + (s.modSeg g f).messages := rfl
  rw [rest, State.blocks]
  omega

theorem PoolOk.of_own {s t : State} {g : Seg} (h : PoolOk s) (total : t.blocks = s.blocks) (own : (t.seg g).ServiceOk)
    (others : ∀ k, k ≠ g → (s.seg k).ServiceOk → (t.seg k).ServiceOk) : PoolOk t :=
  ⟨total.trans h.total, fun k => if here : k = g then here ▸ own else others k here (h.service k)⟩

/-- A change of one segment that holds the same blocks. -/
theorem PoolOk.modSeg {s : State} {g : Seg} {f : Segment → Segment} (h : PoolOk s)
    (held : (f (s.seg g)).messageBlocksHeld = (s.seg g).messageBlocksHeld) (own : (f (s.seg g)).ServiceOk) :
    PoolOk (s.modSeg g f) := h.pooled (.modSeg s g ⟨held, fun _ => own⟩)

/-! ### Services -/

section Services

variable {s : State} {g : Seg}

/-- A service that holds no blocks gives way to another that holds none. -/
theorem Segment.messageBlocksHeld_service {a b : Segment} (inbound : a.inbound = b.inbound)
    (blocks : a.service.blocks = b.service.blocks) : a.messageBlocksHeld = b.messageBlocksHeld := by
  simp only [Segment.messageBlocksHeld_eq, Segment.inboundAt, inbound, blocks]

theorem State.Pooled.endRead (s : State) (g : Seg) (n : Nat) : (s.endRead g n).Pooled s := by
  unfold State.endRead
  split
  · next service =>
    refine (State.Calm.placeClaimOnce _ _).pooled.trans (.modSeg s g (.of_service rfl ?_ rfl ?_))
    · rw [service]; rfl
    · rw [service]; nofun
  · rfl

/-- A message that enters its inbound list takes its blocks there (R127, R149). -/
theorem Segment.messageBlocksHeld_taken (sg : Segment) (r : RecordIx) (m : Message) :
    { sg.modInbound r (· ++ [m]) with service := .passive }.messageBlocksHeld + sg.service.blocks =
      sg.messageBlocksHeld + (m.bytes.length + 31) / 32 := by
  have lists (k : RecordIx) : { sg.modInbound r (· ++ [m]) with service := .passive }.inboundAt k =
      if k = r then sg.inboundAt k ++ [m] else sg.inboundAt k :=
    sg.inboundAt_modInbound r k fun ms => ms ++ [m]
  simp only [Segment.messageBlocksHeld_eq, lists]
  match r with
  | 0 => simp [Service.blocks]; omega
  | 1 => simp [Service.blocks]; omega
  | 2 => simp [Service.blocks]; omega

theorem State.Pooled.completeMessage (s : State) (g : Seg) (byRestart : Bool) : (s.completeMessage g byRestart).Pooled s := by
  cases service : (s.seg g).service with
  | receiving m =>
    rw [State.completeMessage_receiving byRestart service]
    unfold State.messageTaken
    split
    · next empty =>
      refine .modSeg s g (.of_service rfl ?_ rfl ?_)
      · rw [service]; simp [Service.blocks, empty.1]
      · rw [service]; nofun
    · refine (State.Calm.placeClaim _ _).pooled.trans (.modSeg s g ⟨?_, fun ok other => ?_⟩)
      · have taken := (s.seg g).messageBlocksHeld_taken m.record { m with endedByRestart := byRestart }
        rw [service] at taken
        exact Nat.add_right_cancel taken
      · cases service.symm.trans (ok other)
  | _ =>
    rw [State.completeMessage_other byRestart (by simp [service])]

theorem State.Pooled.endTransaction (s : State) (g : Seg) (n : Nat) (byRestart : Bool) :
    (s.endTransaction g n byRestart).Pooled s :=
  (State.Pooled.endRead _ g n).trans (.completeMessage s g byRestart)

/-- No blocks are held by the service that a transaction leaves. -/
theorem State.endTransaction_blocks (s : State) (g : Seg) (n : Nat) (byRestart : Bool) :
    ((s.endTransaction g n byRestart).seg g).service.blocks = 0 := by
  cases service : (s.seg g).service with
  | receiving m =>
    rw [State.endTransaction_receiving n byRestart service, State.messageTaken_service]
    rfl
  | reading ix p current =>
    have passive : ((s.readTaken g ix p current n).seg g).service = .passive := by
      rw [State.readTaken, ((State.placeClaimOnce_same _ _).seg g).service, State.seg_modSeg_self]
    rw [State.endTransaction_reading n byRestart service, passive]
    rfl
  | _ =>
    rw [State.endTransaction_other n byRestart (by simp [service]) (by simp [service]), service]
    rfl

/-- A service that holds no blocks ends (R58). -/
theorem State.Pooled.leaveServing {s : State} {g : Seg} (empty : (s.seg g).service.blocks = 0) :
    (s.leaveServing g).Pooled s := by
  have left (sg : Segment) : sg.driveStart.inbound = sg.inbound ∧ sg.driveStart.service = sg.service := by
    unfold Segment.driveStart
    split <;> exact ⟨rfl, rfl⟩
  unfold State.leaveServing
  split
  · obtain ⟨inbound, service⟩ := left { s.seg g with sc := .contending, service := .none }
    refine .modSeg s g ⟨Segment.messageBlocksHeld_service inbound ?_, fun _ _ => service⟩
    rw [service, empty]
    rfl
  · refine (State.Calm.markChoice _ g).pooled.trans (.modSeg s g ⟨Segment.messageBlocksHeld_service rfl ?_, fun _ _ => rfl⟩)
    rw [empty]
    rfl

/-- A service abandoned returns the blocks of its message (R136). -/
theorem State.abandonService_pooled (s : State) (g : Seg) (n : Nat) : (s.abandonService g n).blocks = s.blocks ∧
    ((s.abandonService g n).seg g).service = .none ∧ ∀ k, k ≠ g → (s.seg k).ServiceOk → ((s.abandonService g n).seg k).ServiceOk := by
  have same := State.Alike.abandonService s g n
  refine ⟨?_, ?_, fun k other ok => ?_⟩
  · unfold State.abandonService
    split
    · next m service =>
      refine s.blocks_modSeg_free g (fun sg => { sg with service := .none }) _ ?_
      simp only [Segment.messageBlocksHeld_eq, Segment.inboundAt, service, Service.blocks, messageBlocks, blocksFor,
        Config.blockBytes]
      omega
    · next ix p current service =>
      have read : ((s.endRead g n).seg g).service = .passive := by
        rw [State.endRead_reading n service, State.readTaken, ((State.placeClaimOnce_same _ _).seg g).service,
          State.seg_modSeg_self]
      refine Eq.trans ?_ (State.Pooled.endRead s g n).total
      exact (State.Pooled.modSeg _ g ⟨Segment.messageBlocksHeld_service rfl (by rw [read]; rfl), fun _ _ => rfl⟩).total
    · next message read =>
      refine (State.Pooled.modSeg s g ⟨Segment.messageBlocksHeld_service rfl ?_, fun _ _ => rfl⟩).total
      cases service : (s.seg g).service with
      | receiving m => exact absurd service (message m)
      | _ => rfl
  · have own := same g
    rw [State.seg_modSeg_self] at own
    exact own.service.mpr rfl
  · have others := same k
    rw [State.seg_modSeg_ne _ _ _ _ other] at others
    exact fun away => others.service.mpr (ok (others.sc ▸ away))

theorem PoolOk.abandonService {s t : State} {g : Seg} {n : Nat} (h : PoolOk s) (total : t.blocks = s.blocks)
    (others : ∀ k, k ≠ g → (s.seg k).ServiceOk → (t.seg k).ServiceOk) : PoolOk (t.abandonService g n) := by
  obtain ⟨same, own, rest⟩ := t.abandonService_pooled g n
  exact h.of_own (same.trans total) (fun _ => own) fun k other ok => rest k other (others k other ok)

theorem PoolOk.stopSeen (h : PoolOk s) (n : Nat) : PoolOk (stopSeen g n s) := by
  have seen : (s.modSeg g (·.seeStop)).Pooled s := by
    refine .modSeg s g ?_
    unfold Segment.seeStop
    split
    · exact .of_sc rfl rfl id
    · rfl
  unfold Machine.stopSeen
  simp only
  repeat' split
  · exact h
  · exact h.pooled ((State.Pooled.leaveServing (State.endTransaction_blocks _ g n false)).trans
      ((State.Pooled.endTransaction _ g n false).trans seen))
  · exact h.pooled seen

theorem Segment.Pooled.startSeen (sg : Segment) : sg.startSeen.Pooled sg := by
  unfold Segment.startSeen
  split
  · rfl
  · exact .of_sc rfl rfl id

theorem Segment.Pooled.clockFall (sg : Segment) : sg.clockFall.Pooled sg := by
  unfold Segment.clockFall
  split
  · rfl
  · exact .startSeen sg

theorem PoolOk.repeatedStartSeen (h : PoolOk s) (n : Nat) : PoolOk (repeatedStartSeen g n s) := by
  have seen : (s.modSeg g (·.startSeen)).Pooled s := .modSeg s g (.startSeen _)
  unfold Machine.repeatedStartSeen
  simp only
  repeat' split
  · exact h
  · next serves =>
    have ended := (State.Pooled.endTransaction (s.modSeg g (·.startSeen)) g n true).trans seen
    have empty := State.endTransaction_blocks (s.modSeg g (·.startSeen)) g n true
    have goesOn := (State.endTransaction_sc (s.modSeg g (·.startSeen)) g n true).trans serves
    refine h.pooled (State.Pooled.trans (.modSeg _ g ⟨Segment.messageBlocksHeld_service rfl ?_, fun _ other => ?_⟩) ended)
    · rw [empty]; rfl
    · exact absurd goesOn other
  · exact h.pooled seen

theorem State.Pooled.holdExpires (s : State) (g : Seg) : (holdExpires g s).Pooled s := by
  unfold Machine.holdExpires
  split
  · next service =>
    refine (State.Calm.placeClaimOnce _ _).pooled.trans (.modSeg s g (.of_service rfl ?_ rfl ?_))
    · rw [service]; rfl
    · rw [service]; nofun
  · rfl

/-- A byte received takes a block from the pool when the last one is full (R126, R148). -/
theorem PoolOk.byteArrives (h : PoolOk s) (b : Byte) : PoolOk (byteArrives g b s) := by
  unfold Machine.byteArrives
  split
  · next m service =>
    have goesOn (new : Message) (n : Nat)
        (moved : n + (new.bytes.length + 31) / 32 = s.poolFree + (m.bytes.length + 31) / 32) :
        PoolOk { s.modSeg g (fun sg => { sg with service := .receiving new }) with poolFree := n } := by
      refine h.of_own (g := g) (s.blocks_modSeg_free g _ n ?_) ?_ fun k other ok => ?_
      · simp only [Segment.messageBlocksHeld_eq, Segment.inboundAt, service, Service.blocks]
        omega
      · show ((s.modSeg g fun sg => { sg with service := .receiving new }).seg g).ServiceOk
        rw [State.seg_modSeg_self]
        intro other
        cases service.symm.trans (h.service g other)
      · show ((s.modSeg g fun sg => { sg with service := .receiving new }).seg k).ServiceOk
        rwa [State.seg_modSeg_ne _ _ _ _ other]
    simp only [needsBlock, Config.blockBytes]
    repeat' split
    · exact h
    · exact goesOn { m with truncated := true } s.poolFree rfl
    · exact goesOn { m with truncated := true } s.poolFree rfl
    · next edge free =>
      refine goesOn { m with bytes := m.bytes ++ [b] } (s.poolFree - 1) ?_
      simp only [beq_iff_eq] at edge
      simp only [List.length_append, List.length_singleton]
      omega
    · next inside =>
      refine goesOn { m with bytes := m.bytes ++ [b] } s.poolFree ?_
      simp only [beq_iff_eq] at inside
      simp only [List.length_append, List.length_singleton]
      omega
  · exact h

/-- Where an address is evaluated no service holds blocks. -/
theorem PoolOk.evaluates_blocks (h : PoolOk s) (evaluates : (s.seg g).evaluates = true) : (s.seg g).service.blocks = 0 := by
  rcases Segment.evaluates_iff.mp evaluates with sc | sc | ⟨-, awaiting⟩
  · rw [h.service g (by simp [sc])]; rfl
  · rw [h.service g (by simp [sc])]; rfl
  · rw [awaiting]; rfl

/-- A service that begins holds no blocks (R125). -/
theorem PoolOk.serve {f : Segment → Segment} (h : PoolOk s) (empty : (s.seg g).service.blocks = 0)
    (inbound : (f (s.seg g)).inbound = (s.seg g).inbound) (blocks : (f (s.seg g)).service.blocks = 0)
    (sc : (f (s.seg g)).sc = .serving) : PoolOk (s.modSeg g f) :=
  h.modSeg (Segment.messageBlocksHeld_service inbound (blocks.trans empty.symm)) fun away => absurd sc away

theorem PoolOk.addressSeen (h : PoolOk s) (b : Byte) : PoolOk (addressSeen g b s) := by
  unfold Machine.addressSeen
  split
  · next evaluates =>
    have empty := h.evaluates_blocks evaluates
    cases (s.seg g).decide b with
    | receive r a =>
      simp only [State.serveDecision]
      exact h.serve empty rfl (by simp [Service.blocks, newMessage]) rfl
    | serve ix p | refuse =>
      simp only [State.serveDecision]
      exact h.serve empty rfl rfl rfl
    | hold ix =>
      simp only [State.serveDecision, State.startHold]
      exact PoolOk.pooled (h.serve empty rfl rfl rfl) (State.Calm.placeClaimOnce _ _).pooled
    | noMatch =>
      simp only [State.serveDecision]
      split
      · exact h.pooled (.leaveServing empty)
      · exact h
  · exact h

end Services

/-! ### Activities and the bus monitor -/

section Activities

variable {sg : Segment} {s : State} {g : Seg}

theorem Segment.Pooled.driveStart (sg : Segment) : sg.driveStart.Pooled sg := by
  unfold Segment.driveStart
  split
  · next starts => exact .of_sc rfl rfl fun serves => by cases starts.1.symm.trans serves
  · rfl

theorem Segment.Pooled.hand (idle : sg.sc = .idle) (a : Activity) : (sg.hand a).Pooled sg := by
  have handed : ({ sg with sc := .contending, handed := some a } : Segment).Pooled sg :=
    .of_sc rfl rfl fun serves => by cases idle.symm.trans serves
  have starts := Segment.Pooled.driveStart { sg with sc := .contending, handed := some a }
  exact ⟨starts.held.trans handed.held, starts.service ∘ handed.service⟩

theorem State.Pooled.handAttempt (idle : (s.seg g).sc = .idle) (i : Slot) : (s.handAttempt g i).Pooled s := by
  unfold State.handAttempt
  split
  · rfl
  · split
    · exact (State.Calm.markChoice _ g).pooled.trans (State.CalmJobs.endJob s i _ _).pooled
    · refine State.Pooled.trans (.modSeg _ g (.hand idle _)) (State.CalmJobs.modJob s i ?_).pooled
      exact fun _ => rfl

/-- A segment's side of a choice: it stays IDLE, and its messages and services are as they were. -/
theorem State.Pooled.prepare {f : Segment → Segment} (idle : (s.seg g).sc = .idle)
    (same : (f (s.seg g)).inbound = (s.seg g).inbound ∧ (f (s.seg g)).service = (s.seg g).service ∧
      (f (s.seg g)).sc = (s.seg g).sc) : (s.modSeg g f).Pooled s ∧ ((s.modSeg g f).seg g).sc = .idle := by
  obtain ⟨inbound, service, sc⟩ := same
  refine ⟨.modSeg s g (.of_sc inbound service fun serves => sc.trans serves), ?_⟩
  rw [State.seg_modSeg_self, sc, idle]

theorem State.Pooled.handActivity (idle : (s.seg g).sc = .idle) (a : Activity) : (s.handActivity g a).Pooled s :=
  .modSeg s g (.hand idle a)

theorem State.Pooled.modJob (s : State) (i : Slot) {f : Job → Job} (same : ∀ j, (f j).blocksHeld = j.blocksHeld) :
    (s.modJob i f).Pooled s := (State.CalmJobs.modJob s i same).pooled

theorem State.Pooled.choicePoint (s : State) (g : Seg) : (s.choicePoint g).Pooled s := by
  unfold State.choicePoint
  split
  · next ready =>
    have idle : (s.seg g).sc = .idle := by
      simp only [Segment.ready, Bool.and_eq_true, beq_iff_eq] at ready
      exact ready.1
    cases s.pick g with
    | resume i =>
      obtain ⟨same, still⟩ := State.Pooled.prepare (s := s.modJob i fun j => { j with state := .active }) (g := g)
        (f := fun sg => { sg with backoffExpired := false }) idle ⟨rfl, rfl, rfl⟩
      exact (State.Pooled.handAttempt still i).trans (same.trans (.modJob s i fun _ => rfl))
    | query =>
      obtain ⟨same, still⟩ := State.Pooled.prepare (g := g)
        (f := fun sg => { sg with notice := { sg.notice with state := .querying } }) idle ⟨rfl, rfl, rfl⟩
      exact (State.Pooled.handActivity still _).trans same
    | enrol =>
      obtain ⟨same, still⟩ := State.Pooled.prepare (g := g)
        (f := fun sg => { sg with engine := sg.engine.handed }) idle ⟨rfl, rfl, rfl⟩
      exact (State.Pooled.handActivity still _).trans same
    | select c i =>
      obtain ⟨same, still⟩ := State.Pooled.prepare (g := g) (f := (·.select c i)) idle (by cases c <;> exact ⟨rfl, rfl, rfl⟩)
      exact (State.Pooled.handAttempt (s := (s.modSeg g (·.select c i)).modJob i fun j => { j with state := .active }) still
        i).trans (State.Pooled.trans (.modJob _ i fun _ => rfl) same)
    | probe k =>
      simp only [State.handWork]
      split
      · exact .handActivity idle _
      · rfl
    | nothing => rfl
  · rfl

theorem Segment.seeStop_kept (sg : Segment) : sg.seeStop.inbound = sg.inbound ∧ sg.seeStop.service = sg.service := by
  unfold Segment.seeStop
  split <;> exact ⟨rfl, rfl⟩

theorem PoolOk.leaveBus (h : PoolOk s) (runs : (s.seg g).sc = .controlling) (w : TxWay) : PoolOk (s.leaveBus g w) := by
  have rests := h.service g (by simp [runs])
  have left : PoolOk (s.modSeg g (·.afterWay w)) := by
    have same : ((s.seg g).afterWay w).inbound = (s.seg g).inbound ∧ ((s.seg g).afterWay w).service = (s.seg g).service := by
      cases w with
      | lostFirst | lostLater | busFault => exact ⟨rfl, rfl⟩
      | _ => exact Segment.seeStop_kept { s.seg g with handed := none, stretch := none }
    exact h.modSeg (Segment.messageBlocksHeld_service same.1 (by rw [same.2])) fun _ => same.2.trans rests
  unfold State.leaveBus
  simp only
  split
  · exact (left.addressSeen _).pooled (State.Calm.markChoice _ g).pooled
  · exact left.pooled (State.Calm.markChoice _ g).pooled

theorem PoolOk.attemptEnds (h : PoolOk s) (bus : List BusAnswer) (stopMade : Bool) : PoolOk (attemptEnds g bus stopMade s) := by
  unfold Machine.attemptEnds
  split
  · split
    · next ends => exact (h.leaveBus (State.txEnd_runs ends) _).pooled (State.CalmJobs.jobOutcome _ g _ _ _).pooled
    · exact h.pooled (State.Calm.attemptGoesOn s g _ bus).pooled
  · exact h

theorem PoolOk.cancelReaches (h : PoolOk s) (bus : List BusAnswer) (next : Option BusAnswer) (stopMade : Bool) :
    PoolOk (cancelReaches g bus next stopMade s) := by
  unfold Machine.cancelReaches
  repeat' split
  · next running _ _ _ _ => exact (h.leaveBus running.1 _).pooled (State.CalmJobs.jobOutcome _ g _ _ _).pooled
  all_goals exact h

theorem PoolOk.probeEnds (h : PoolOk s) (bus : List BusAnswer) (stopMade : Bool) : PoolOk (probeEnds g bus stopMade s) := by
  unfold Machine.probeEnds
  repeat' split
  · next ends => exact (h.leaveBus (State.txEnd_runs ends) _).pooled (State.Calm.probeOutcome _ g _ _ _).pooled
  all_goals exact h

theorem PoolOk.queryEnds (h : PoolOk s) (bus : List BusAnswer) (stopMade : Bool) : PoolOk (queryEnds g bus stopMade s) := by
  unfold Machine.queryEnds
  split
  · next ends => exact (h.leaveBus (State.txEnd_runs ends) _).pooled (State.Calm.noticeOutcome _ g _ _).pooled
  · exact h

theorem PoolOk.enrolEnds (h : PoolOk s) (st : SweepState) (bus : List BusAnswer) (stopMade : Bool) :
    PoolOk (s.enrolEnds st g bus stopMade) := by
  unfold State.enrolEnds
  repeat' split
  · next ends =>
    exact (h.leaveBus (State.txEnd_runs ends) _).pooled (State.CalmEnrol.engineOutcome _ g _ _ _).toSteady.pooled
  all_goals exact h

theorem State.Pooled.abandonWait (s : State) (g : Seg) : (s.abandonWait g).Pooled s := by
  unfold State.abandonWait
  split
  · next contends =>
    refine (State.Calm.markChoice _ g).pooled.trans (.modSeg s g (.of_sc rfl rfl fun serves => ?_))
    cases contends.symm.trans serves
  · exact .modSeg s g (.of_sc rfl rfl id)

theorem State.Pooled.endWaiting (s : State) (g : Seg) (i : Slot) (st : EndStatus) : (s.endWaiting g i st).Pooled s :=
  (State.CalmJobs.endJob _ i st _).pooled.trans (.abandonWait s g)

theorem State.Pooled.cancelJob (s : State) (i : Slot) (j : Job) : (s.cancelJob i j).Pooled s := by
  have marked : (s.modJob i fun j => { j with cancelPending := true }).Pooled s := .modJob s i fun _ => rfl
  unfold State.cancelJob
  simp only
  repeat' split
  · exact (State.Pooled.endWaiting _ _ i _).trans marked
  · exact marked
  · exact (State.CalmJobs.endJob s i _ _).pooled

theorem State.Pooled.deadlineExpires (s : State) (i : Slot) : (deadlineExpires i s).Pooled s := by
  unfold Machine.deadlineExpires State.deadlineReaches
  repeat' split
  · rfl
  · exact .endWaiting s _ i _
  · exact .modJob s i fun _ => rfl
  · exact (State.CalmJobs.endJob s i _ _).pooled
  · rfl

theorem State.Pooled.turnFree (s : State) (g : Seg) : (s.turnFree g).Pooled s := by
  have starts := Segment.Pooled.driveStart { s.seg g with monitor := .free, stopSeen := false }
  have free : ({ s.seg g with monitor := .free, stopSeen := false } : Segment).Pooled (s.seg g) := .of_sc rfl rfl id
  exact (State.Calm.markChoice _ g).pooled.trans
    (.modSeg s g ⟨starts.held.trans free.held, starts.service ∘ free.service⟩)

theorem State.Pooled.freeTimeElapses (s : State) (g : Seg) : (freeTimeElapses g s).Pooled s := by
  unfold Machine.freeTimeElapses
  simp only
  split
  · exact .turnFree s g
  · rfl

theorem Segment.Pooled.stretched (sg : Segment) (eighth : Bool) : (sg.stretched eighth).Pooled sg := by
  unfold Segment.stretched
  split
  · exact .of_sc rfl rfl id
  · rfl

theorem State.Pooled.leaveFault (fault : (s.seg g).sc = .fault) : (s.leaveFault g).Pooled s := by
  refine (State.Calm.markChoice _ g).pooled.trans ((State.Calm.claimFault _ g _).pooled.trans
    (.modSeg s g (.of_sc rfl rfl fun serves => ?_)))
  cases fault.symm.trans serves

theorem State.Pooled.linesHigh (s : State) (g : Seg) (n : Nat) : (linesHigh g n s).Pooled s := by
  have free : (if (s.seg g).monitor = .free then s else s.turnFree g).Pooled s := by
    split
    · rfl
    · exact .turnFree s g
  unfold Machine.linesHigh
  simp only
  split
  · split
    · split
      · exact (State.Pooled.leaveServing (State.endTransaction_blocks _ g n false)).trans
          ((State.Pooled.endTransaction _ g n false).trans free)
      · exact free
    · next fault => exact (State.Pooled.leaveFault fault).trans free
    · exact free
  · rfl

end Activities

/-! ### FAULT, recovery and disable -/

section Faults

variable {s : State} {g : Seg}

theorem State.Pooled.faultActivity (s : State) (g : Seg) (cut : BusCut) : (s.faultActivity g cut).Pooled s := by
  unfold State.faultActivity
  split
  · rfl
  · exact (State.Steady.activityOutcome _ g _ _ _ _).pooled.trans (.modSeg s g (.of_sc rfl rfl id))

/-- A Segment Controller passes to a state in which it serves nothing, its service abandoned. -/
theorem PoolOk.passTo (h : PoolOk s) (sc : ScState) (n : Nat) : PoolOk ((s.passTo g sc).abandonService g n) := by
  refine h.abandonService ?_ fun k other ok => ?_
  · have moved := s.blocks_modSeg g fun sg => { sg with sc := sc, recoverRequested := false }
    exact Nat.add_right_cancel moved
  · rwa [State.passTo, State.seg_modSeg_ne _ _ _ _ other]

theorem PoolOk.enterFault (h : PoolOk s) (line : BusLine) (cut : BusCut) : PoolOk (s.enterFault g line cut) :=
  ((h.pooled (.faultActivity s g cut)).passTo .fault _).pooled (State.Calm.claimFault _ g _).pooled

theorem PoolOk.enterRecovering (h : PoolOk s) (cut : BusCut) : PoolOk (s.enterRecovering g cut) := by
  unfold State.enterRecovering
  simp only
  split
  · exact (h.pooled (.faultActivity s g cut)).passTo .recovering _
  · exact h.passTo .recovering _

theorem PoolOk.stuckDetected (h : PoolOk s) (line : BusLine) (cut : BusCut) : PoolOk (stuckDetected g line cut s) := by
  have stuck : PoolOk (s.modSeg g fun sg => { sg with monitor := .stuck, stopSeen := false }) :=
    h.pooled (.modSeg s g (.of_sc rfl rfl id))
  unfold Machine.stuckDetected
  simp only
  repeat' split
  · exact stuck
  · exact stuck
  · exact stuck
  · exact stuck.enterFault _ cut
  · exact stuck.enterRecovering cut
  · exact h

theorem Segment.Pooled.recoveryWatched (sg : Segment) (pulses : List RecoveryPulse) (r : RecoveryResult) :
    (sg.recoveryWatched pulses r).Pooled sg := by
  obtain ⟨m, seen, same⟩ := sg.recoveryWatched_monitor pulses r
  rw [same]
  exact .of_sc rfl rfl id

theorem PoolOk.recoveryEnds (h : PoolOk s) (pulses : List RecoveryPulse) : PoolOk (recoveryEnds g pulses s) := by
  unfold Machine.recoveryEnds
  split
  · next recovering =>
    split
    · next r _ =>
      have watched : PoolOk (s.modSeg g (·.recoveryWatched pulses r)) := h.pooled (.modSeg s g (.recoveryWatched _ pulses r))
      cases r with
      | stopMade =>
        have passed : (State.passTo (s.modSeg g (·.recoveryWatched pulses .stopMade)) g
            (if ((s.modSeg g (·.recoveryWatched pulses .stopMade)).seg g).handed.isSome then .contending else .idle)).Pooled
              (s.modSeg g (·.recoveryWatched pulses .stopMade)) := by
          refine .modSeg _ g (.of_sc rfl rfl fun serves => ?_)
          rw [State.seg_modSeg_self, Segment.recoveryWatched_sc] at serves
          cases recovering.symm.trans serves
        refine watched.pooled ((State.Calm.markChoice _ g).pooled.trans ?_)
        split
        · exact (State.Calm.claimFault _ g _).pooled.trans passed
        · exact passed
      | dataHeld => exact watched.enterFault .data _
      | clockHeld => exact watched.enterFault .clock _
    · exact h
  · exact h

theorem PoolOk.disable (h : PoolOk s) (flush : Bool) (cut : BusCut) : PoolOk (s.disable g flush cut) := by
  have h := h.pooled (State.Calm.cutPresence s g cut).pooled
  have jobs := (State.CalmJobs.jobsDisabled s g flush cut).pooled
  have released := (State.Calm.abortSweep (s.jobsDisabled g flush cut) g).pooled.trans jobs
  have total := Nat.add_right_cancel ((s.cutPresence g cut).blocks_modSeg g (·.release))
  rw [State.disable_eq, State.restDisabled]
  have abandoned : PoolOk (((s.jobsDisabled g flush cut).abortSweep g).abandonService g cut.sent) := by
    refine h.abandonService (released.total.trans total) fun k other ok => released.service k ?_
    rwa [State.seg_modSeg_ne _ _ _ _ other]
  exact (abandoned.pooled (.modSeg _ g (.of_sc rfl rfl id))).pooled (State.Calm.mapEntries_probeDue _ g false).pooled

end Faults

/-! ### Requests and events -/

section Law

variable {s : State}

/-- A slot written, with its blocks taken from the pool or returned to it. -/
theorem State.blocks_slot {t s : State} (i : Slot) (same : ∀ k, k ≠ i → t.jobAt k = s.jobAt k) (segs : t.segs = s.segs)
    (moved : t.poolFree + blocksAt (t.jobAt i) = s.poolFree + blocksAt (s.jobAt i)) : t.blocks = s.blocks := by
  have jobs := State.jobBlocks_change i same
  have messages : t.messages = s.messages := by simp only [State.messages, State.seg, segs]
  simp only [State.blocks, messages]
  omega

/-- The slot of an acknowledged JOB_ENDED report returns its blocks (R16). -/
theorem PoolOk.freeSlot (h : PoolOk s) (i : Slot) : PoolOk (s.freeSlot i) := by
  unfold State.freeSlot
  split
  · exact h
  · next j job =>
    split
    · have slot (k : Slot) : State.jobAt { s.putJob i none with
          poolFree := s.poolFree + j.blocksHeld, accepted := s.accepted.filter (· != i) } k = (s.putJob i none).jobAt k := rfl
      refine ⟨(State.blocks_slot i (fun k hk => (slot k).trans (State.jobAt_putJob_ne _ _ _ _ hk)) rfl ?_).trans h.total,
        h.service⟩
      rw [slot, State.jobAt_putJob_self, job]
      rfl
    · exact h

/-- The head of an inbound list leaves it with its blocks (R128). -/
theorem Segment.messageBlocksHeld_drop (sg : Segment) {r : RecordIx} {m : Message} {rest : List Message}
    (list : sg.inboundAt r = m :: rest) :
    (sg.modInbound r (·.drop 1)).messageBlocksHeld + (m.bytes.length + 31) / 32 = sg.messageBlocksHeld := by
  have service : (sg.modInbound r (·.drop 1)).service = sg.service := rfl
  simp only [Segment.messageBlocksHeld_eq, Segment.inboundAt_modInbound, service]
  match r with
  | 0 => simp [list]; omega
  | 1 => simp [list]; omega
  | 2 => simp [list]; omega

theorem PoolOk.freeMessage (h : PoolOk s) (g : Seg) (r : RecordIx) : PoolOk (s.freeMessage g r) := by
  unfold State.freeMessage
  split
  · exact h
  · next m rest list =>
    have left := (s.seg g).messageBlocksHeld_drop list
    refine h.of_own (g := g) (s.blocks_modSeg_free g (·.modInbound r (·.drop 1)) _ ?_) ?_ fun k other ok => ?_
    · simp only [messageBlocks, blocksFor, Config.blockBytes]
      omega
    · show ((s.modSeg g (·.modInbound r (·.drop 1))).seg g).ServiceOk
      rw [State.seg_modSeg_self]
      exact h.service g
    · show ((s.modSeg g (·.modInbound r (·.drop 1))).seg k).ServiceOk
      rwa [State.seg_modSeg_ne _ _ _ _ other]

theorem PoolOk.tellOwner (h : PoolOk s) (r : Report) : PoolOk (s.tellOwner r) := by
  unfold State.tellOwner
  split
  · exact h.freeSlot _
  · exact h.freeMessage _ _
  · exact h

/-- A job accepted takes its blocks from the pool (R8, R147). -/
theorem PoolOk.takeSlot {i : Slot} {j : Job} (h : PoolOk s) (free : s.jobAt i = none) (room : j.blocksHeld ≤ s.poolFree) :
    PoolOk (s.takeSlot i j) := by
  have slot (k : Slot) : (s.takeSlot i j).jobAt k = if k = i then some j else s.jobAt k := by
    by_cases here : k = i
    · subst here
      simp [State.takeSlot, State.jobAt]
    · have : i.val ≠ k.val := fun e => here (Fin.ext e.symm)
      simp [State.takeSlot, State.jobAt, here, this]
  refine ⟨(State.blocks_slot i (fun k hk => (slot k).trans (if_neg hk)) rfl ?_).trans h.total, h.service⟩
  rw [slot, if_pos rfl, free]
  exact Nat.sub_add_cancel room

theorem Service.outdated_blocks (sv : Service) (ix : StationIx) : (sv.outdated ix).blocks = sv.blocks := by
  cases sv with
  | reading k p c => simp only [Service.outdated]; split <;> rfl
  | _ => rfl

theorem Service.released_blocks (sv : Service) (ix : StationIx) (p : PostedReply) : (sv.released ix p).blocks = sv.blocks := by
  cases sv with
  | holding k t => simp only [Service.released]; split <;> rfl
  | _ => rfl

theorem Segment.Pooled.reconfigured (sg : Segment) (c : SegConfig) : (sg.reconfigured c).Pooled sg := by
  unfold Segment.reconfigured
  rw [Segment.dropPosted_both]
  unfold Segment.rollItem
  split
  · exact .of_sc rfl rfl id
  · exact .of_sc rfl rfl id

theorem Segment.Pooled.forgetProbe (sg : Segment) (h : Handle) : (sg.forgetProbe h).Pooled sg := by
  unfold Segment.forgetProbe
  repeat' split
  · exact .of_sc rfl rfl id
  · rfl
  · rfl

theorem State.Pooled.dropEntry (s : State) (h : Handle) : (s.dropEntry h).Pooled s := by
  have seg (g : Seg) : ((s.dropEntry h).seg g).Pooled (s.seg g) := by
    rw [State.dropEntry_seg]
    exact .forgetProbe _ h
  have withdrawn := (State.Calm.withdrawClaim s (.roster h)).toSteady
  exact ⟨State.blocks_congr withdrawn.poolFree withdrawn.blocks fun g => (seg g).held, fun g => (seg g).service⟩

theorem State.Pooled.enable {g : Seg} (off : (s.seg g).enabled ≠ true) : (s.enable g).Pooled s := by
  have sc : (s.seg g).sc = .disabled := by simpa [Segment.enabled] using off
  have enabled : ((s.modSeg g (·.enable)).markChoice g).Pooled s :=
    (State.Calm.markChoice _ g).pooled.trans (.modSeg s g (.of_sc rfl rfl fun serves => by cases sc.symm.trans serves))
  unfold State.enable
  simp only
  split
  · exact (State.Calm.enterWatching _ g).pooled.trans enabled
  · exact enabled

theorem PoolOk.block {t : State} (change : BlockChange s t) (h : PoolOk s) : PoolOk t := by
  cases change with
  | @configure g c items list live fine =>
    rw [State.configure_eq]
    exact h.pooled ((State.Calm.noticeItem _ g _ c).pooled.trans (.modSeg s g (.reconfigured _ c)))
  | enable off => exact h.pooled (.enable off)
  | flush off => exact h.pooled (State.CalmJobs.flush s _).pooled
  | disable flush cut on => exact h.disable flush cut
  | @recover g fault => exact h.pooled (.modSeg s g (.of_sc rfl rfl fun serves => by cases fault.symm.trans serves))
  | @submit body r t g i req target predecessor slot pool =>
    have free : s.jobAt i = none := by simpa using (find_finRange_eq_some_iff.mp slot).1
    have room : r.blocks ≤ s.poolFree := by omega
    exact (h.takeSlot (j := newJob r t g (s.recordedPredecessor r.predecessor)) free room).pooled
      (State.CalmJobs.placeIfComplete _ i).pooled
  | append job staging fits => exact h.pooled ((State.CalmJobs.placeIfComplete _ _).pooled.trans (.modJob s _ fun _ => rfl))
  | cancel job live => exact h.pooled (.cancelJob s _ _)
  | addFixed small checked free => exact ⟨h.total, h.service⟩
  | @remove k entry =>
    exact h.pooled ((State.Pooled.dropEntry _ k).trans
      (State.CalmJobs.foldl State.CalmJobs.removeReaches (s.jobsNaming k) s).pooled)
  | @enrol g w on idle =>
    exact h.pooled ((State.Calm.markChoice _ g).pooled.trans (State.CalmEnrol.modEngine s g _).toSteady.pooled)
  | post g ix p =>
    refine h.pooled (.modSeg s g (.of_service rfl ?_ rfl ?_))
    · exact (Service.released_blocks _ ix p).trans (Service.outdated_blocks _ ix)
    · exact fun none => (Service.released_none _ ix p).mpr ((Service.outdated_none _ ix).mpr none)
  | withdraw g ix =>
    exact h.pooled (.modSeg s g (.of_service rfl (Service.outdated_blocks _ ix) rfl (Service.outdated_none _ ix).mpr))

theorem PoolOk.event {f : State → State} (hf : Event f) (h : PoolOk s) : PoolOk (f s) := by
  cases hf with
  | nothing => exact h
  | stagingExpires i => exact h.pooled (State.CalmJobs.stagingExpires s i).pooled
  | deadlineExpires i => exact h.pooled (.deadlineExpires s i)
  | backoffExpires g => exact h.pooled (State.Calm.backoffExpires s g).pooled
  | rollExpires g => exact h.pooled (State.Calm.rollExpires s g).pooled
  | holdExpires g => exact h.pooled (.holdExpires s g)
  | retryWaitExpires g => exact h.pooled (State.Calm.retryWaitExpires s g).pooled
  | attemptEnds g bus stopMade => exact h.attemptEnds bus stopMade
  | cancelReaches g bus next stopMade => exact h.cancelReaches bus next stopMade
  | probeEnds g bus stopMade => exact h.probeEnds bus stopMade
  | enrolEnds st g bus stopMade => exact h.enrolEnds st bus stopMade
  | queryEnds g bus stopMade => exact h.queryEnds bus stopMade
  | lineAsserted g => exact h.pooled (State.Calm.lineAsserted s g).pooled
  | lineReleased g => exact h.pooled (State.Calm.lineReleased s g).pooled
  | startSeen g => exact h.pooled (.modSeg s g (.startSeen _))
  | clockFall g => exact h.pooled (.modSeg s g (.clockFall _))
  | stopSeen g n => exact h.stopSeen n
  | repeatedStartSeen g n => exact h.repeatedStartSeen n
  | freeTimeElapses g => exact h.pooled (.freeTimeElapses s g)
  | linesHigh g n => exact h.pooled (.linesHigh s g n)
  | stuckDetected g line cut => exact h.stuckDetected line cut
  | stretched g eighth => exact h.pooled (.modSeg s g (.stretched _ eighth))
  | recoveryEnds g pulses => exact h.recoveryEnds pulses
  | addressSeen g b => exact h.addressSeen b
  | byteArrives g b => exact h.byteArrives b
  | endRead g n => exact h.pooled (.endRead s g n)

/-- After a reset every block is free (R178). -/
theorem PoolOk.cleared (s : State) (warm : Bool) : PoolOk (s.cleared warm) where
  total := by
    have slot (i : Slot) : blocksAt ((s.cleared warm).jobAt i) = 0 := by
      simp [State.cleared, State.jobAt, blocksAt]
    have message (g : Seg) : ((s.cleared warm).seg g).messageBlocksHeld = 0 := by
      rw [State.seg_cleared]
      rfl
    rw [State.jobBlocks_eq]
    simp only [slot, message]
    rfl
  service g _ := by rw [State.seg_cleared]; rfl

theorem PoolOk.coreLaw : CoreLaw PoolOk where
  blind s t same h := by
    simp only [State.core, Prod.mk.injEq] at same
    obtain ⟨slots, -, -, segs, -, poolFree⟩ := same
    refine h.pooled ⟨State.blocks_congr poolFree (fun i => by simp only [State.jobAt, slots]) fun g => ?_, fun g => ?_⟩
    · simp only [State.seg, segs]
    · simp only [State.seg, segs]; exact id
  calm s t calm h := h.pooled calm.pooled
  cold s := .cleared s false
  warm s _ := .cleared s true
  owner s r h := h.tellOwner r
  block s t change h := h.block change
  event f s hf h := h.event hf
  choice s g h := h.pooled (.choicePoint s g)

end Law

/-- Settles O31: requests, events, resets and choice points each leave as many blocks altogether, and services to segments
in SERVING. -/
theorem stepKeepsPoolTotal : Obligations.StepKeepsPoolTotal := by
  unfold Obligations.StepKeepsPoolTotal
  exact fun _ _ h ht => PoolOk.coreLaw.keeps.step h ht

end Sys2Proof.Machine

/-!
The ends of several jobs, one after the other, with statuses other than OK (R15, R25): what they leave of the records, the
held set and the lists, said once of the state before them. The cascade of one end is the ends of the HELD jobs that wait
on it, directly or through others, in order of acceptance; one pass finds them all, since a predecessor was accepted
before the jobs that wait on it.
-/

namespace Sys2Proof.Machine

/-! ### Where jobs stand, but for an attempt that is not handed yet, or no longer -/

/-- `PlacesOk`, but that the attempt of the job `o`, where one is named, is not handed. -/
structure PlacesOff (s : State) (o : Option Slot) : Prop where
  accepted : s.accepted.Nodup ∧ ∀ i, i ∈ s.accepted ↔ (s.jobAt i).isSome
  jobs : ∀ i j, s.jobAt i = some j → JobOk j
  lists : ∀ g c, ((s.seg g).classList c).Nodup ∧
    ∀ i, i ∈ (s.seg g).classList c ↔ ∃ j, s.jobAt i = some j ∧ j.state = .queued ∧ j.segment = g ∧ j.cls = c
  held : (s.heldSet.map (·.slot)).Nodup ∧ ∀ i, i ∈ s.heldSet.map (·.slot) ↔ ∃ j, s.jobAt i = some j ∧ j.state = .held
  heldFor : ∀ e ∈ s.heldSet, ∀ j, s.jobAt e.slot = some j → j.predecessor = .job e.predecessor
  chain : AcceptedInOrder s
  current : ∀ g i, (s.seg g).current = some i ↔ ∃ j, s.jobAt i = some j ∧ j.state.isCurrent = true ∧ j.segment = g
  handed : ∀ g i, (s.seg g).handed = some (.job i) ↔
    some i ≠ o ∧ ∃ j, s.jobAt i = some j ∧ j.state = .active ∧ j.segment = g

theorem PlacesOk.off {s : State} (h : PlacesOk s) : PlacesOff s none :=
  ⟨h.accepted, h.jobs, h.lists, h.held, h.heldFor, h.chain, h.current, fun g i => by simp [h.handed g i]⟩

/-- The job that was named is not ACTIVE. -/
theorem PlacesOff.ok {s : State} {o : Option Slot} (h : PlacesOff s o)
    (rests : ∀ i j, o = some i → s.jobAt i = some j → j.state ≠ .active) : PlacesOk s := by
  refine ⟨h.accepted, h.jobs, h.lists, h.held, h.heldFor, h.chain, h.current, fun g i => (h.handed g i).trans ?_⟩
  refine and_iff_right_of_imp ?_
  rintro ⟨j, job, active, -⟩ named
  exact rests i j named.symm job active

section Base

variable {s : State} {o : Option Slot} {k : Slot} {j : Job}

theorem State.waitsOn_iff {id : JobId} :
    s.waitsOn k id = true ↔ ∃ d, s.jobAt k = some d ∧ d.state = .held ∧ d.predecessor = .job id := by
  unfold State.waitsOn
  cases job : s.jobAt k <;> simp

theorem State.waitsOnFailed_iff : s.waitsOnFailed k = true ↔
    ∃ d id, s.jobAt k = some d ∧ d.state = .held ∧ d.predecessor = .job id ∧ s.endedNotOk id = true := by
  unfold State.waitsOnFailed
  cases job : s.jobAt k with
  | none => simp
  | some d => cases predecessor : d.predecessor <;> simp [predecessor]

theorem PlacesOff.mem_accepted (base : PlacesOff s o) (job : s.jobAt k = some j) : k ∈ s.accepted :=
  (base.accepted.2 k).mpr (by simp [job])

/-- The predecessor of a HELD or STAGING job is that of its slot. -/
theorem PlacesOff.named (base : PlacesOff s o) {id : JobId} (job : s.jobAt k = some j)
    (waits : j.state = .held ∨ j.state = .staging) (predecessor : j.predecessor = .job id) :
    id = s.idAt id.slot ∧ (∃ p, s.jobAt id.slot = some p ∧ p.state ≠ .ended) ∧
      s.accepted.idxOf id.slot < s.accepted.idxOf k := by
  obtain ⟨live, before⟩ := base.chain k j id job waits predecessor
  obtain ⟨gen, there⟩ := (s.liveId_iff id).mp live
  exact ⟨by rw [State.idAt, gen], there, before⟩

theorem PlacesOff.before (base : PlacesOff s o) {m : Slot} (waits : s.waitsOn k (s.idAt m) = true) :
    s.accepted.idxOf m < s.accepted.idxOf k := by
  obtain ⟨d, job, held, predecessor⟩ := State.waitsOn_iff.mp waits
  exact (base.named job (.inl held) predecessor).2.2

end Base

/-! ### The state after some ends -/

/-- A job that is not among those that have ended: one in STAGING that names one of them is marked (R10). -/
def Job.afterEnds (p : Job) (ids : List JobId) : Job :=
  if p.state = .staging ∧ ∃ id ∈ ids, p.predecessor = .job id then { p with predecessor := .failed } else p

theorem Job.afterEnds_of_not_staging {p : Job} {ids : List JobId} (other : p.state ≠ .staging) : p.afterEnds ids = p :=
  if_neg fun h => other h.1

theorem Job.afterEnds_nil (p : Job) : p.afterEnds [] = p := if_neg (by simp)

theorem Job.afterEnds_snoc (p : Job) (ids : List JobId) (id : JobId) :
    (p.afterEnds ids).visited id false = p.afterEnds (ids ++ [id]) := by
  by_cases marked : p.state = .staging ∧ ∃ x ∈ ids, p.predecessor = .job x
  · obtain ⟨staging, x, mem, named⟩ := marked
    have later : p.state = .staging ∧ ∃ y ∈ ids ++ [id], p.predecessor = .job y :=
      ⟨staging, x, List.mem_append_left _ mem, named⟩
    rw [Job.afterEnds, if_pos ⟨staging, x, mem, named⟩, Job.visited, if_neg (by simp), Job.afterEnds, if_pos later]
  · rw [Job.afterEnds, if_neg marked, Job.visited, Job.afterEnds]
    refine if_congr ⟨fun ⟨staging, named⟩ => ⟨staging, id, by simp, named⟩, ?_⟩ rfl rfl
    rintro ⟨staging, x, mem, named⟩
    rcases List.mem_append.mp mem with mem | mem
    · exact absurd ⟨staging, x, mem, named⟩ marked
    · exact ⟨staging, by rw [named, List.mem_singleton.mp mem]⟩

/-- Nothing of a record changes but its predecessor. -/
theorem Job.afterEnds_eq (p : Job) (ids : List JobId) :
    p.afterEnds ids = { p with predecessor := (p.afterEnds ids).predecessor } := by
  unfold Job.afterEnds
  split <;> rfl

theorem Job.afterEnds_state (p : Job) (ids : List JobId) : (p.afterEnds ids).state = p.state := by
  rw [Job.afterEnds_eq]

/-- In `u` the jobs of `done` have ended, none of them OK, and nothing else has happened to the jobs of `s`. -/
structure State.EndedIn (u s : State) (done : List Slot) : Prop where
  gen : ∀ k, u.genAt k = s.genAt k
  accepted : u.accepted = s.accepted
  ended : ∀ k ∈ done, ∃ j pr st c, s.jobAt k = some j ∧ j.state ≠ .ended ∧ st ≠ .ok ∧
    u.jobAt k = some (({ j with predecessor := pr } : Job).ended st c)
  others : ∀ k, k ∉ done → u.jobAt k = (s.jobAt k).map (·.afterEnds (done.map s.idAt))
  heldSet : u.heldSet = s.heldSet.filter fun e => !done.contains e.slot
  lists : ∀ g c, (u.seg g).classList c = ((s.seg g).classList c).filter fun k => !done.contains k
  current : ∀ g, (u.seg g).current = (s.seg g).current.filter fun k => !done.contains k
  handed : ∀ g, (u.seg g).handed = (s.seg g).handed

theorem State.EndedIn.refl (s : State) : s.EndedIn s [] where
  gen _ := rfl
  accepted := rfl
  ended _ mem := absurd mem List.not_mem_nil
  others k _ := by
    cases job : s.jobAt k with
    | none => rfl
    | some j => simp [Job.afterEnds_nil]
  heldSet := by simp
  lists := by simp
  current g := by cases (s.seg g).current <;> simp [Option.filter]
  handed _ := rfl

section EndedIn

variable {s u : State} {o : Option Slot} {done : List Slot} {k : Slot} {j : Job} {st : EndStatus} {c : EndCounts}

theorem State.idAt_eq_of_gen (gen : ∀ k, u.genAt k = s.genAt k) (k : Slot) : u.idAt k = s.idAt k := by
  rw [State.idAt, State.idAt, gen]

theorem State.EndedIn.job (h : u.EndedIn s done) (fresh : k ∉ done) (job : s.jobAt k = some j) :
    u.jobAt k = some (j.afterEnds (done.map s.idAt)) := by rw [h.others k fresh, job]; rfl

/-- A job that is not in STAGING stays as it was. -/
theorem State.EndedIn.unchanged (h : u.EndedIn s done) (fresh : k ∉ done) (job : s.jobAt k = some j)
    (other : j.state ≠ .staging) : u.jobAt k = some j := by
  rw [h.job fresh job, Job.afterEnds_of_not_staging other]

/-- What the end of one job leaves of the class lists (R15, R21). -/
theorem Segment.leaves_classList {sg : Segment} {i : Slot} {cl : JobClass}
    (only : i ∈ sg.classList cl → j.state = .queued ∧ j.cls = cl) :
    (sg.leaves i j).classList cl = (sg.classList cl).filter (· != i) := by
  have stays (other : i ∉ sg.classList cl) : sg.classList cl = (sg.classList cl).filter (· != i) := by
    refine (List.filter_eq_self.mpr fun x hx => ?_).symm
    rw [bne_iff_ne]
    rintro rfl
    exact other hx
  by_cases queued : j.state = .queued
  · have dequeued : sg.leaves i j = sg.dequeue j.cls i := by simp only [Segment.leaves, queued]
    rw [dequeued, Segment.dequeue_classList]
    split
    · rfl
    · next elsewhere => exact stays fun mem => elsewhere (only mem).2.symm
  · rw [(Segment.leaves_of_not_queued queued cl).1]
    exact stays fun mem => queued (only mem).1

theorem Segment.leaves_current (sg : Segment) (i : Slot) (j : Job) :
    (sg.leaves i j).current = if j.state.isCurrent then none else sg.current := by
  rw [Segment.leaves_eq]
  cases j.state <;> rfl

theorem Segment.leaves_handed (sg : Segment) (i : Slot) (j : Job) : (sg.leaves i j).handed = sg.handed := by
  rw [Segment.leaves_eq]

/-- A job outside a list is not taken out of it. -/
theorem filter_ne_of_not_mem {xs : List Slot} {i : Slot} (other : i ∉ xs) : xs = xs.filter (· != i) :=
  (List.filter_eq_self.mpr fun x hx => bne_iff_ne.mpr fun e : x = i => other (e ▸ hx)).symm

/-- The places of one segment after the end of a job (R15). -/
theorem State.endOne_places (job : u.jobAt k = some j) (live : j.state ≠ .ended) (g : Seg) :
    (∀ cl, ((u.endOne k st c).seg g).classList cl = (if g = j.segment then (u.seg g).leaves k j else u.seg g).classList cl) ∧
      ((u.endOne k st c).seg g).current = (if g = j.segment then (u.seg g).leaves k j else u.seg g).current ∧
      ((u.endOne k st c).seg g).handed = (u.seg g).handed := by
  have same := (State.endOne_sameButClaims (st := st) (c := c) job live).seg g
  rw [State.endWrites_seg] at same
  refine ⟨fun cl => ?_, same.current, same.handed.trans ?_⟩
  · cases cl with
    | urgent => exact same.urgent
    | routine => exact same.routine
  · split
    · exact Segment.leaves_handed _ _ _
    · rfl

/-- The records after the end of a job (R10, R15). -/
theorem State.endOne_jobAt (job : u.jobAt k = some j) (live : j.state ≠ .ended) (m : Slot) :
    (u.endOne k st c).jobAt m = if m = k then some (j.ended st c) else (u.jobAt m).map (·.visited (u.idAt k) (st = .ok)) := by
  rw [State.jobAt, (State.endOne_sameButClaims (st := st) (c := c) job live).slots, ← State.jobAt]
  split
  · next is => rw [is, State.endWrites_jobAt_self]
  · next other => exact State.endWrites_jobAt_ne other

theorem State.endOne_heldSet (job : u.jobAt k = some j) (live : j.state ≠ .ended) :
    (u.endOne k st c).heldSet = if j.state = .held then u.heldSet.filter (·.slot != k) else u.heldSet := by
  rw [(State.endOne_sameButClaims (st := st) (c := c) job live).heldSet, State.endWrites_heldSet]

/-- The end of a job takes it out of its list, and no other job out of any (R15, R21). -/
theorem State.endOne_lists (base : PlacesOff s o) (h : u.EndedIn s done) (here : u.jobAt k = some j) (live : j.state ≠ .ended)
    {d : Job} (job : s.jobAt k = some d) (state : j.state = d.state) (segment : j.segment = d.segment) (cls : j.cls = d.cls)
    (g : Seg) (cl : JobClass) :
    ((u.endOne k st c).seg g).classList cl = ((u.seg g).classList cl).filter (· != k) := by
  have only : k ∈ (u.seg g).classList cl → j.state = .queued ∧ j.segment = g ∧ j.cls = cl := by
    rw [h.lists, state, segment, cls]
    intro mem
    obtain ⟨p, there, stands⟩ := ((base.lists g cl).2 k).mp (List.mem_filter.mp mem).1
    rw [job, Option.some.injEq] at there
    exact there ▸ stands
  rw [(State.endOne_places here live g).1]
  split
  · exact Segment.leaves_classList fun mem => ⟨(only mem).1, (only mem).2.2⟩
  · next elsewhere => exact filter_ne_of_not_mem fun mem => elsewhere (only mem).2.1.symm

/-- The end of a job leaves no segment with it as its current job, and the others with theirs (R15, R28). -/
theorem State.endOne_current (base : PlacesOff s o) (h : u.EndedIn s done) (here : u.jobAt k = some j) (live : j.state ≠ .ended)
    {d : Job} (job : s.jobAt k = some d) (state : j.state = d.state) (segment : j.segment = d.segment) (g : Seg) :
    ((u.endOne k st c).seg g).current = (u.seg g).current.filter (· != k) := by
  have own := base.current g k
  simp only [job, Option.some.injEq, exists_eq_left', ← state, ← segment] at own
  rw [(State.endOne_places here live g).2.1, h.current]
  cases before : (s.seg g).current with
  | none =>
    have rest : (u.seg g).current = none := by rw [h.current, before]; rfl
    split
    · rw [Segment.leaves_current, rest]; simp
    · exact rest
  | some x =>
    rw [before, Option.some.injEq] at own
    have rest : (u.seg g).current = (some x).filter fun m => !done.contains m := by rw [h.current, before]
    by_cases is : x = k
    · obtain ⟨current, on⟩ := own.mp is
      rw [if_pos on.symm, Segment.leaves_current, if_pos current, is]
      by_cases gone : k ∈ done <;> simp [Option.filter, gone]
    · have away : ¬ (j.state.isCurrent = true ∧ j.segment = g) := fun stands => is (own.mpr stands)
      have left : (if g = j.segment then (u.seg g).leaves k j else u.seg g).current = (u.seg g).current := by
        split
        · next on => rw [Segment.leaves_current, if_neg fun current => away ⟨current, on.symm⟩]
        · rfl
      rw [left, rest]
      by_cases gone : x ∈ done <;> simp [Option.filter, is, gone]

/-- One more job ends. -/
theorem State.EndedIn.endOne (base : PlacesOff s o) (h : u.EndedIn s done) (fresh : k ∉ done) (job : s.jobAt k = some j)
    (live : j.state ≠ .ended) (failed : st ≠ .ok) : (u.endOne k st c).EndedIn s (done ++ [k]) := by
  have here := h.job fresh job
  have state := j.afterEnds_state (done.map s.idAt)
  have segment : (j.afterEnds (done.map s.idAt)).segment = j.segment := by rw [Job.afterEnds_eq]
  have cls : (j.afterEnds (done.map s.idAt)).cls = j.cls := by rw [Job.afterEnds_eq]
  have alive : (j.afterEnds (done.map s.idAt)).state ≠ .ended := by rwa [state]
  have calm : (u.endOne k st c).CalmJobs u := .endOne u k st c
  have jobAt := State.endOne_jobAt (st := st) (c := c) here alive
  have notOk : decide (st = .ok) = false := decide_eq_false failed
  have last (m : Slot) : (!(done ++ [k]).contains m) = (m != k && !done.contains m) := by
    by_cases is : m = k <;> simp [is]
  refine ⟨fun m => (calm.gen m).trans (h.gen m), calm.accepted.trans h.accepted, fun m mem => ?ended, fun m out => ?others,
    ?held, fun g cl => ?lists, fun g => ?current, fun g => (State.endOne_places here alive g).2.2.trans (h.handed g)⟩
  case ended =>
    rcases List.mem_append.mp mem with before | last
    · obtain ⟨d, pr, st', c', old, was, notOk', rec⟩ := h.ended m before
      refine ⟨d, pr, st', c', old, was, notOk', ?_⟩
      have other : m ≠ k := fun e => fresh (e ▸ before)
      rw [jobAt, if_neg other, rec]
      simp [Job.visited, Job.ended]
    · refine ⟨j, (j.afterEnds (done.map s.idAt)).predecessor, st, c, List.mem_singleton.mp last ▸ job, live, failed, ?_⟩
      rw [jobAt, if_pos (List.mem_singleton.mp last), ← Job.afterEnds_eq]
  case others =>
    rw [jobAt, if_neg fun e => out (by simp [e]), h.others m fun mem => out (List.mem_append_left _ mem), notOk,
      State.idAt_eq_of_gen h.gen, Option.map_map]
    simp only [Function.comp_def, Job.afterEnds_snoc, List.map_append, List.map_cons, List.map_nil]
  case held =>
    rw [State.endOne_heldSet here alive, h.heldSet, state]
    split
    · simp only [last, ← List.filter_filter]
    · next other =>
      refine List.filter_congr fun e he => ?_
      have not : e.slot ≠ k := by
        intro is
        obtain ⟨d, there, held⟩ := (base.held.2 e.slot).mp (List.mem_map_of_mem he)
        rw [is, job, Option.some.injEq] at there
        exact other (there ▸ held)
      simp [not]
  case lists =>
    rw [State.endOne_lists base h here alive job state segment cls, h.lists, List.filter_filter]
    simp only [last]
  case current =>
    rw [State.endOne_current base h here alive job state segment, h.current]
    cases (s.seg g).current with
    | none => rfl
    | some x =>
      by_cases is : x = k
      · simp [Option.filter, is, fresh]
      · by_cases gone : x ∈ done <;> simp [Option.filter, gone, is]

/-- A record of a job that has ended stays (R15). -/
theorem State.endOne_keeps_ended {p : Job} (here : u.jobAt k = some j) (live : j.state ≠ .ended) {m : Slot}
    (there : u.jobAt m = some p) (ended : p.state = .ended) : (u.endOne k st c).jobAt m = some p := by
  have other : m ≠ k := by
    rintro rfl
    rw [there, Option.some.injEq] at here
    exact live (here ▸ ended)
  rw [State.endOne_jobAt here live, if_neg other, there]
  simp [Job.visited, ended]

/-! ### The cascade -/

/-- A job before another in a list without repetition. -/
theorem idxOf_lt_of_append {before rest : List Slot} {xs : List Slot} {x y : Slot} (order : xs = before ++ y :: rest)
    (alone : xs.Nodup) (mem : x ∈ before) : xs.idxOf x < xs.idxOf y := by
  subst order
  have apart : y ∉ before := fun there => (List.nodup_append.mp alone).2.2 y there y (List.mem_cons_self ..) rfl
  rw [List.idxOf_append_of_mem mem, List.idxOf_append_of_notMem apart, List.idxOf_cons_self]
  exact Nat.lt_add_right _ (List.idxOf_lt_length_of_mem mem)

/-- Some jobs end PREDECESSOR_FAILED, one after the other (R25). -/
def State.cascaded (u : State) (ks : List Slot) : State :=
  ks.foldl (fun u k => u.endOne k .predecessorFailed .nothing) u

@[simp] theorem State.cascaded_nil (u : State) : u.cascaded [] = u := rfl

@[simp] theorem State.cascaded_cons (u : State) (k : Slot) (ks : List Slot) :
    u.cascaded (k :: ks) = (u.endOne k .predecessorFailed .nothing).cascaded ks := rfl

/-- A HELD job waits on one that has failed where its predecessor is among those that have ended. -/
theorem State.EndedIn.waitsOnFailed_iff (base : PlacesOff s o) (h : u.EndedIn s done) :
    u.waitsOnFailed k = true ↔ k ∉ done ∧ ∃ m ∈ done, s.waitsOn k (s.idAt m) = true := by
  rw [State.waitsOnFailed_iff]
  constructor
  · rintro ⟨d, id, there, held, predecessor, failed⟩
    have fresh : k ∉ done := by
      intro mem
      obtain ⟨p, pr, st, c, -, -, -, rec⟩ := h.ended k mem
      rw [there, Option.some.injEq] at rec
      rw [rec] at held
      cases held
    obtain ⟨p, job, rfl⟩ := Option.map_eq_some_iff.mp ((h.others k fresh).symm.trans there)
    rw [Job.afterEnds_state] at held
    rw [Job.afterEnds_of_not_staging (by simp [held])] at predecessor
    obtain ⟨own, ⟨q, below, live⟩, -⟩ := base.named job (.inl held) predecessor
    refine ⟨fresh, id.slot, ?_, State.waitsOn_iff.mpr ⟨p, job, held, own ▸ predecessor⟩⟩
    by_contra out
    obtain ⟨-, q', o', there', outcome, -⟩ := (u.endedNotOk_iff id).mp failed
    rw [h.job out below, Option.some.injEq] at there'
    rw [← there', Job.afterEnds_eq] at outcome
    exact live ((base.jobs _ q below).outcome.mp (by rw [show q.outcome = some o' from outcome]; rfl))
  · rintro ⟨fresh, m, mem, waits⟩
    obtain ⟨d, job, held, predecessor⟩ := State.waitsOn_iff.mp waits
    obtain ⟨p, pr, st, c, -, -, failed, rec⟩ := h.ended m mem
    exact ⟨d, s.idAt m, h.unchanged fresh job (by simp [held]), held, predecessor,
      (u.endedNotOk_iff _).mpr ⟨h.gen m, _, _, rec, rfl, failed⟩⟩

/-- To wait on a job that waits (R25). -/
theorem DependsOn.trans {id : JobId} {m : Slot} (h : DependsOn s id m) (d : DependsOn s (s.idAt m) k) : DependsOn s id k := by
  induction d with
  | direct k waits => exact .through m k h waits
  | through n k _ waits ih => exact .through n k ih waits

/-- Every job that waits on one of these is one of these. -/
def State.Closed (s : State) (done : List Slot) : Prop := ∀ m ∈ done, ∀ k, s.waitsOn k (s.idAt m) = true → k ∈ done

/-- What the rest of a cascade does, `rest` of the jobs accepted being still to be looked at. -/
theorem State.EndedIn.cascade_rest (base : PlacesOff s o) (rest : List Slot) {before : List Slot}
    (order : s.accepted = before ++ rest) (h : u.EndedIn s done)
    (settled : ∀ k ∈ before, k ∉ done → ∀ m ∈ done, s.waitsOn k (s.idAt m) = false) :
    ∃ deps : List Slot, deps.Sublist rest ∧
      rest.foldl (fun s i => if s.waitsOnFailed i then s.endOne i .predecessorFailed .nothing else s) u = u.cascaded deps ∧
      (u.cascaded deps).EndedIn s (done ++ deps) ∧ s.Closed (done ++ deps) ∧
      (∀ k ∈ deps, k ∉ done ∧ ∃ i ∈ done, DependsOn s (s.idAt i) k) ∧
      (∀ k p, u.jobAt k = some p → p.state = .ended → (u.cascaded deps).jobAt k = some p) ∧
      ∀ k ∈ deps, (u.cascaded deps).jobAt k = (s.jobAt k).map (·.ended .predecessorFailed .nothing) := by
  induction rest generalizing before done u with
  | nil =>
    refine ⟨[], .slnil, rfl, by simpa using h, fun m mem k waits => ?_, nofun, fun k p there _ => there, nofun⟩
    simp only [List.append_nil] at mem order ⊢
    by_contra out
    obtain ⟨d, job, -⟩ := State.waitsOn_iff.mp waits
    rw [settled k (order ▸ base.mem_accepted job) out m mem] at waits
    cases waits
  | cons k rest ih =>
    have next : s.accepted = (before ++ [k]) ++ rest := by rw [order, List.append_assoc, List.singleton_append]
    by_cases failed : u.waitsOnFailed k = true
    · obtain ⟨fresh, m, mem, waits⟩ := (h.waitsOnFailed_iff base).mp failed
      obtain ⟨d, job, held, -⟩ := State.waitsOn_iff.mp waits
      have ended := h.endOne (st := .predecessorFailed) (c := .nothing) base fresh job (by simp [held]) (by simp)
      have here := h.unchanged fresh job (by simp [held])
      have settled' : ∀ x ∈ before ++ [k], x ∉ done ++ [k] → ∀ y ∈ done ++ [k], s.waitsOn x (s.idAt y) = false := by
        intro x hx out y hy
        rw [List.mem_append, not_or] at out
        have earlier : x ∈ before := (List.mem_append.mp hx).resolve_right out.2
        rcases List.mem_append.mp hy with hy | hy
        · exact settled x earlier out.1 y hy
        · rw [List.mem_singleton.mp hy]
          refine Bool.eq_false_iff.mpr fun waits => ?_
          exact absurd (base.before waits) (Nat.not_lt.mpr (Nat.le_of_lt (idxOf_lt_of_append order base.accepted.1 earlier)))
      obtain ⟨deps, sub, run, state, closed, members, keeps, records⟩ := ih next ended settled'
      have whole : done ++ [k] ++ deps = done ++ k :: deps := by rw [List.append_assoc, List.singleton_append]
      refine ⟨k :: deps, sub.cons_cons k, ?_, whole ▸ state, whole ▸ closed, fun x hx => ?_, fun x p there gone => ?_,
        fun x hx => ?_⟩
      · simp only [List.foldl_cons, if_pos failed, run, State.cascaded_cons]
      · rcases List.mem_cons.mp hx with rfl | hx
        · exact ⟨fresh, m, mem, .direct x waits⟩
        · obtain ⟨out, i, root, depends⟩ := members x hx
          refine ⟨fun done => out (List.mem_append_left _ done), ?_⟩
          rcases List.mem_append.mp root with root | root
          · exact ⟨i, root, depends⟩
          · rw [List.mem_singleton.mp root] at depends
            exact ⟨m, mem, (DependsOn.direct k waits).trans depends⟩
      · exact keeps x p (State.endOne_keeps_ended here (by simp [held]) there gone) gone
      · rcases List.mem_cons.mp hx with rfl | hx
        · rw [job]
          exact keeps x _ ((State.endOne_jobAt here (by simp [held]) x).trans (if_pos rfl)) rfl
        · exact records x hx
    · have rests : ∀ x ∈ before ++ [k], x ∉ done → ∀ m ∈ done, s.waitsOn x (s.idAt m) = false := by
        intro x hx out m mem
        rcases List.mem_append.mp hx with hx | hx
        · exact settled x hx out m mem
        · rw [List.mem_singleton.mp hx] at out ⊢
          exact Bool.eq_false_iff.mpr fun waits => failed ((h.waitsOnFailed_iff base).mpr ⟨out, m, mem, waits⟩)
      obtain ⟨deps, sub, run, state, closed, members, keeps, records⟩ := ih next h rests
      exact ⟨deps, sub.cons k, by simp only [List.foldl_cons, if_neg failed, run], state, closed, members, keeps, records⟩

/-- The cascade ends the jobs that wait, directly or through others, on those that have ended, in order of acceptance,
and no others (R25). -/
theorem State.EndedIn.cascade (base : PlacesOff s o) (h : u.EndedIn s done) :
    ∃ deps : List Slot, deps.Sublist s.accepted ∧ u.cascade = u.cascaded deps ∧
      (u.cascaded deps).EndedIn s (done ++ deps) ∧ s.Closed (done ++ deps) ∧
      (∀ k ∈ deps, k ∉ done ∧ ∃ i ∈ done, DependsOn s (s.idAt i) k) ∧
      (∀ k p, u.jobAt k = some p → p.state = .ended → (u.cascaded deps).jobAt k = some p) ∧
      ∀ k ∈ deps, (u.cascaded deps).jobAt k = (s.jobAt k).map (·.ended .predecessorFailed .nothing) := by
  unfold State.cascade
  rw [h.accepted]
  exact h.cascade_rest base s.accepted (before := []) rfl nofun

/-- What waits on a job among these, directly or through others, is among these. -/
theorem State.Closed.dependsOn (closed : s.Closed done) {i : Slot} (mem : i ∈ done) (depends : DependsOn s (s.idAt i) k) :
    k ∈ done := by
  induction depends with
  | direct k waits => exact closed i mem k waits
  | through m k _ waits ih => exact closed m ih k waits

/-! ### The places after the ends -/

theorem Job.afterEnds_keeps {P : Job → Prop} (blind : ∀ (j : Job) pr, P { j with predecessor := pr } ↔ P j) (p : Job)
    (ids : List JobId) : P (p.afterEnds ids) ↔ P p := by
  rw [Job.afterEnds_eq]
  exact blind p _

/-- A property of live jobs that does not look at predecessors holds after the ends where it held before them, but for
those that ended. -/
theorem State.EndedIn.exists_iff {P : Job → Prop} (h : u.EndedIn s done) (live : ∀ j, P j → j.state ≠ .ended)
    (blind : ∀ (j : Job) pr, P { j with predecessor := pr } ↔ P j) :
    (∃ d, u.jobAt k = some d ∧ P d) ↔ k ∉ done ∧ ∃ d, s.jobAt k = some d ∧ P d := by
  constructor
  · rintro ⟨d, there, holds⟩
    have fresh : k ∉ done := by
      intro mem
      obtain ⟨p, pr, st, c, -, -, -, rec⟩ := h.ended k mem
      rw [there, Option.some.injEq] at rec
      exact live d holds (by rw [rec]; rfl)
    obtain ⟨p, job, rfl⟩ := Option.map_eq_some_iff.mp ((h.others k fresh).symm.trans there)
    exact ⟨fresh, p, job, (Job.afterEnds_keeps blind p _).mp holds⟩
  · rintro ⟨fresh, d, job, holds⟩
    exact ⟨_, h.job fresh job, (Job.afterEnds_keeps blind d _).mpr holds⟩

theorem JobOk.ended {j : Job} (h : JobOk j) (st : EndStatus) (c : EndCounts) : JobOk (j.ended st c) where
  outcome := by simp [Job.ended]
  timers _ := ⟨rfl, rfl⟩
  staging := by simp [Job.ended]
  staged := h.staged
  complete _ live := absurd rfl live

theorem JobOk.withPredecessor {j : Job} (h : JobOk j) (pr : Predecessor) : JobOk { j with predecessor := pr } :=
  ⟨h.outcome, h.timers, h.staging, h.staged, h.complete⟩

theorem State.EndedIn.jobOk (base : PlacesOff s o) (h : u.EndedIn s done) {d : Job} (there : u.jobAt k = some d) :
    JobOk d := by
  by_cases mem : k ∈ done
  · obtain ⟨p, pr, st, c, job, -, -, rec⟩ := h.ended k mem
    rw [there, Option.some.injEq] at rec
    rw [rec]
    exact ((base.jobs k p job).withPredecessor pr).ended st c
  · obtain ⟨p, job, rfl⟩ := Option.map_eq_some_iff.mp ((h.others k mem).symm.trans there)
    rw [Job.afterEnds_eq]
    exact (base.jobs k p job).withPredecessor _

/-- What still waits in HELD or STAGING waits on a job that has not ended (R10, R25). -/
theorem State.EndedIn.chain (base : PlacesOff s o) (h : u.EndedIn s done) (closed : s.Closed done) : AcceptedInOrder u := by
  intro k d id there waits predecessor
  have alive : d.state ≠ .ended := by rcases waits with w | w <;> simp [w]
  have fresh : k ∉ done := ((h.exists_iff (k := k) (P := fun j => j.state ≠ .ended) (fun _ alive => alive) fun _ _ => .rfl).mp
    ⟨d, there, alive⟩).1
  obtain ⟨p, job, rfl⟩ := Option.map_eq_some_iff.mp ((h.others k fresh).symm.trans there)
  rw [Job.afterEnds_state] at waits
  have unmarked : p.afterEnds (done.map s.idAt) = p := by
    unfold Job.afterEnds at predecessor ⊢
    split
    · next marked => rw [if_pos marked] at predecessor; cases predecessor
    · rfl
  rw [unmarked] at predecessor
  obtain ⟨own, ⟨q, below, live⟩, before⟩ := base.named job waits predecessor
  have out : id.slot ∉ done := by
    intro mem
    rcases waits with held | staging
    · exact fresh (closed id.slot mem k (State.waitsOn_iff.mpr ⟨p, job, held, own ▸ predecessor⟩))
    · have marked : p.state = .staging ∧ ∃ x ∈ done.map s.idAt, p.predecessor = .job x :=
        ⟨staging, _, List.mem_map_of_mem mem, own ▸ predecessor⟩
      rw [Job.afterEnds, if_pos marked] at unmarked
      rw [← unmarked] at predecessor
      cases predecessor
  rw [h.accepted]
  refine ⟨(u.liveId_iff id).mpr ⟨(h.gen id.slot).trans (by rw [own]; rfl), _, h.job out below, ?_⟩, before⟩
  rwa [Job.afterEnds_state]

/-- The places agree again after the ends of all that waits (R15, R25). -/
theorem State.EndedIn.places (base : PlacesOff s o) (h : u.EndedIn s done) (closed : s.Closed done)
    (started : ∀ k ∈ done, ∀ d, s.jobAt k = some d → d.state = .active → o = some k) : PlacesOff u o where
  accepted := by
    refine ⟨h.accepted ▸ base.accepted.1, fun k => ?_⟩
    rw [h.accepted, base.accepted.2]
    by_cases mem : k ∈ done
    · obtain ⟨p, pr, st, c, job, -, -, rec⟩ := h.ended k mem
      simp [job, rec]
    · rw [h.others k mem, Option.isSome_map]
  jobs k d there := h.jobOk base there
  lists g cl := by
    rw [h.lists]
    refine ⟨(base.lists g cl).1.filter _, fun k => ?_⟩
    rw [h.exists_iff (P := fun d => d.state = .queued ∧ d.segment = g ∧ d.cls = cl) (fun d holds => by simp [holds.1])
      fun _ _ => .rfl, ← (base.lists g cl).2 k]
    simp [and_comm]
  held := by
    rw [h.heldSet]
    refine ⟨base.held.1.sublist (List.filter_sublist.map _), fun k => ?_⟩
    rw [h.exists_iff (P := fun d => d.state = .held) (fun d held => by simp [held]) fun _ _ => .rfl, ← base.held.2 k]
    simp only [List.mem_map, List.mem_filter, Bool.not_eq_true', List.contains_eq_mem, decide_eq_false_iff_not]
    constructor
    · rintro ⟨e, ⟨mem, out⟩, rfl⟩
      exact ⟨out, e, mem, rfl⟩
    · rintro ⟨out, e, mem, rfl⟩
      exact ⟨e, ⟨mem, out⟩, rfl⟩
  heldFor e he d there := by
    rw [h.heldSet] at he
    obtain ⟨mem, out⟩ := List.mem_filter.mp he
    have fresh : e.slot ∉ done := by simpa using out
    obtain ⟨p, job, held⟩ := (base.held.2 e.slot).mp (List.mem_map_of_mem mem)
    rw [h.unchanged fresh job (by simp [held]), Option.some.injEq] at there
    exact there ▸ base.heldFor e mem p job
  chain := h.chain base closed
  current g k := by
    rw [h.current, h.exists_iff (P := fun d => d.state.isCurrent = true ∧ d.segment = g)
      (fun d holds ended => by simp [ended, JobState.isCurrent] at holds) fun _ _ => .rfl, ← base.current g k]
    cases (s.seg g).current with
    | none => simp
    | some x =>
      by_cases gone : x ∈ done
      · simp only [Option.filter, List.contains_eq_mem, gone, decide_true, Bool.not_true, Bool.false_eq_true, if_false,
          reduceCtorEq, Option.some.injEq, false_iff, not_and]
        rintro out rfl
        exact out gone
      · simp only [Option.filter, List.contains_eq_mem, gone, decide_false, Bool.not_false, if_true, Option.some.injEq]
        constructor
        · rintro rfl
          exact ⟨gone, rfl⟩
        · exact And.right
  handed g k := by
    rw [h.handed, base.handed, h.exists_iff (P := fun d => d.state = .active ∧ d.segment = g)
      (fun d holds => by simp [holds.1]) fun _ _ => .rfl]
    refine and_congr_right fun other => ⟨fun stands => ⟨fun mem => ?_, stands⟩, And.right⟩
    obtain ⟨d, job, active, -⟩ := stands
    exact other (started k mem d job active).symm

/-! ### The end of one job, not OK -/

/-- What waits on a job was accepted after it. -/
theorem DependsOn.later (base : PlacesOff s o) {m : Slot} (depends : DependsOn s (s.idAt k) m) :
    s.accepted.idxOf k < s.accepted.idxOf m := by
  induction depends with
  | direct m waits => exact base.before waits
  | through n m _ waits ih => exact ih.trans (base.before waits)

theorem DependsOn.ne (base : PlacesOff s o) {m : Slot} (depends : DependsOn s (s.idAt k) m) : m ≠ k :=
  fun is => Nat.lt_irrefl _ (is ▸ depends.later base)

/-- After the end of a job with a status other than OK: the job, and what waits on it, have ended (R25). -/
theorem State.endJob_failed (base : PlacesOff s o) (job : s.jobAt k = some j) (live : j.state ≠ .ended) (failed : st ≠ .ok) :
    ∃ deps : List Slot, deps.Sublist s.accepted ∧ s.endJob k st c = (s.endOne k st c).cascaded deps ∧
      (s.endJob k st c).EndedIn s (k :: deps) ∧ s.Closed (k :: deps) ∧ (∀ m, m ∈ deps ↔ DependsOn s (s.idAt k) m) ∧
      (s.endJob k st c).jobAt k = some (j.ended st c) ∧
      ∀ m ∈ deps, (s.endJob k st c).jobAt m = (s.jobAt m).map (·.ended .predecessorFailed .nothing) := by
  have ended : (s.endOne k st c).EndedIn s [k] := State.EndedIn.endOne base (.refl s) List.not_mem_nil job live failed
  obtain ⟨deps, sub, run, state, closed, members, keeps, records⟩ := ended.cascade base
  have all : s.endJob k st c = (s.endOne k st c).cascaded deps := by rw [State.endJob, if_neg failed, run]
  refine ⟨deps, sub, all, all ▸ state, closed, fun m => ⟨fun mem => ?_, fun depends => ?_⟩, ?_, all ▸ records⟩
  · obtain ⟨-, i, root, depends⟩ := members m mem
    rwa [List.mem_singleton.mp root] at depends
  · rcases List.mem_cons.mp (closed.dependsOn (List.mem_cons_self ..) depends) with rfl | mem
    · exact absurd rfl (depends.ne base)
    · exact mem
  · rw [all]
    exact keeps k _ ((State.endOne_jobAt job live k).trans (if_pos rfl)) rfl

/-- What waits on a job is HELD. -/
theorem DependsOn.held {id : JobId} (depends : DependsOn s id k) : ∃ d, s.jobAt k = some d ∧ d.state = .held := by
  cases depends with
  | direct _ waits =>
    obtain ⟨d, job, held, -⟩ := State.waitsOn_iff.mp waits
    exact ⟨d, job, held⟩
  | through _ _ _ waits =>
    obtain ⟨d, job, held, -⟩ := State.waitsOn_iff.mp waits
    exact ⟨d, job, held⟩

theorem PlacesOff.endJob_failed (base : PlacesOff s o) (job : s.jobAt k = some j) (live : j.state ≠ .ended)
    (failed : st ≠ .ok) (started : j.state = .active → o = some k) : PlacesOff (s.endJob k st c) o := by
  obtain ⟨deps, -, -, ended, closed, members, -, -⟩ := State.endJob_failed (c := c) base job live failed
  refine ended.places base closed fun m mem d there active => ?_
  rcases List.mem_cons.mp mem with rfl | mem
  · rw [job, Option.some.injEq] at there
    exact started (there ▸ active)
  · obtain ⟨p, below, held⟩ := ((members m).mp mem).held
    rw [there, Option.some.injEq] at below
    rw [below, held] at active
    cases active

end EndedIn

end Sys2Proof.Machine

/-!
After the end of one job (R24, R25): the release of the HELD jobs that waited on one that ended OK, and the cascade after
any other end.
-/

namespace Sys2Proof.Machine

/-! ### A job becomes QUEUED -/

section Queued

variable {s : State} {i : Slot} {j : Job}

/-- The record of a job that becomes QUEUED (R9, R24). -/
def Job.queued (j : Job) : Job := { j with state := .queued, predecessor := .absent }

theorem Segment.enqueue_classList (sg : Segment) (c k : JobClass) (i : Slot) :
    (sg.enqueue c i).classList k = if k = c then sg.classList k ++ [i] else sg.classList k := by
  cases c <;> cases k <;> rfl

theorem Segment.enqueue_eq (sg : Segment) (c : JobClass) (i : Slot) : sg.enqueue c i =
    { sg with urgent := (sg.enqueue c i).urgent, routine := (sg.enqueue c i).routine } := by
  cases c <;> rfl

theorem State.becomeQueued_eq (job : s.jobAt i = some j) : s.becomeQueued i =
    ((s.modJob i Job.queued).modSeg j.segment (·.enqueue j.cls i)).markChoice j.segment := by
  simp only [State.becomeQueued, job]
  rfl

theorem State.becomeQueued_jobAt (job : s.jobAt i = some j) (k : Slot) :
    (s.becomeQueued i).jobAt k = if k = i then some j.queued else s.jobAt k := by
  rw [State.becomeQueued_eq job, State.markChoice_jobAt, State.modSeg_jobAt]
  split
  · next is => rw [is, State.jobAt_modJob_self, job]; rfl
  · next other => exact State.jobAt_modJob_ne _ _ _ _ other

theorem State.becomeQueued_seg (job : s.jobAt i = some j) (g : Seg) :
    (s.becomeQueued i).seg g = if g = j.segment then (s.seg g).enqueue j.cls i else s.seg g := by
  rw [State.becomeQueued_eq job, State.markChoice_seg]
  split
  · next is => subst is; exact State.seg_modSeg_self _ _ _
  · next other => exact State.seg_modSeg_ne _ _ _ _ other

theorem State.becomeQueued_heldSet (s : State) (i : Slot) : (s.becomeQueued i).heldSet = s.heldSet := by
  cases job : s.jobAt i with
  | none => simp only [State.becomeQueued, job]
  | some j => rw [State.becomeQueued_eq job, State.markChoice_heldSet]; rfl

/-- Slots and segments are written, and a choice point becomes due. -/
theorem State.becomeQueued_whole (job : s.jobAt i = some j) : s.becomeQueued i =
    { s.markChoice j.segment with slots := (s.becomeQueued i).slots, segs := (s.becomeQueued i).segs } := by
  rw [State.becomeQueued_eq job]
  unfold State.markChoice
  by_cases due : j.segment ∈ s.choiceDue
  · have due' : j.segment ∈ ((s.modJob i Job.queued).modSeg j.segment (·.enqueue j.cls i)).choiceDue := due
    rw [if_pos due, if_pos due']
    rfl
  · have due' : j.segment ∉ ((s.modJob i Job.queued).modSeg j.segment (·.enqueue j.cls i)).choiceDue := due
    rw [if_neg due, if_neg due']
    rfl

end Queued

/-- A mark of a choice point looks at no slots, segments or places. -/
theorem State.markChoice_with {s t : State} (same : s = { t with slots := s.slots, segs := s.segs, heldSet := s.heldSet })
    (g : Seg) : s.markChoice g = { t.markChoice g with slots := s.slots, segs := s.segs, heldSet := s.heldSet } := by
  rw [same]
  unfold State.markChoice
  by_cases due : g ∈ t.choiceDue
  · rw [if_pos due, if_pos due]
  · rw [if_neg due, if_neg due]

/-! ### The release of dependents -/

/-- The mark of the choice point that the release of a job is (R29). -/
def State.markOf (a u : State) (k : Slot) : State :=
  match a.jobAt k with
  | some d => u.markChoice d.segment
  | none => u

/-- In `u` the HELD jobs `deps` of `a` have been released, and nothing else has happened. -/
structure State.ReleasedFrom (u a : State) (deps : List Slot) : Prop where
  released : ∀ k ∈ deps, u.jobAt k = (a.jobAt k).map Job.queued
  others : ∀ k, k ∉ deps → u.jobAt k = a.jobAt k
  heldSet : u.heldSet = a.heldSet.filter fun e => !deps.contains e.slot
  lists : ∀ g cl, (u.seg g).classList cl =
    (a.seg g).classList cl ++ deps.filter fun k => (a.jobAt k).any fun d => d.segment == g && d.cls == cl
  segs : ∀ g, u.seg g = { a.seg g with urgent := (u.seg g).urgent, routine := (u.seg g).routine }
  whole : u = { deps.foldl a.markOf a with slots := u.slots, segs := u.segs, heldSet := u.heldSet }

theorem State.ReleasedFrom.refl (a : State) : a.ReleasedFrom a [] :=
  ⟨nofun, fun _ _ => rfl, by simp, by simp, fun _ => rfl, rfl⟩

section Release

variable {a u : State} {deps : List Slot} {k : Slot} {d : Job} {id : JobId}

/-- One more job is released. -/
theorem State.ReleasedFrom.release (h : u.ReleasedFrom a deps) (fresh : k ∉ deps) (job : a.jobAt k = some d) :
    (u.release k).ReleasedFrom a (deps ++ [k]) := by
  let v : State := { u with heldSet := u.heldSet.filter (·.slot != k) }
  have here : v.jobAt k = some d := (h.others k fresh).trans job
  have seg (g : Seg) : (u.release k).seg g = if g = d.segment then (u.seg g).enqueue d.cls k else u.seg g :=
    State.becomeQueued_seg (s := v) here g
  have held : (u.release k).heldSet = u.heldSet.filter (·.slot != k) := State.becomeQueued_heldSet v k
  refine ⟨fun m mem => ?released, fun m out => ?others, ?held, fun g cl => ?lists, fun g => ?segs, ?whole⟩
  case released =>
    rw [show (u.release k).jobAt m = _ from State.becomeQueued_jobAt (s := v) here m]
    rcases List.mem_append.mp mem with before | last
    · rw [if_neg fun is : m = k => fresh (is ▸ before)]
      exact h.released m before
    · rw [if_pos (List.mem_singleton.mp last), List.mem_singleton.mp last, job]
      rfl
  case others =>
    rw [show (u.release k).jobAt m = _ from State.becomeQueued_jobAt (s := v) here m, if_neg fun is => out (by simp [is])]
    exact h.others m fun mem => out (List.mem_append_left _ mem)
  case held =>
    rw [held, h.heldSet, List.filter_filter]
    refine List.filter_congr fun e _ => ?_
    by_cases is : e.slot = k <;> simp [is]
  case lists =>
    rw [seg]
    have last : [k].filter (fun m => (a.jobAt m).any fun p => p.segment == g && p.cls == cl) =
        if g = d.segment ∧ cl = d.cls then [k] else [] := by
      by_cases on : g = d.segment ∧ cl = d.cls
      · simp [job, on]
      · have off : ¬ (d.segment = g ∧ d.cls = cl) := fun same => on ⟨same.1.symm, same.2.symm⟩
        simp [job, on, off]
    rw [List.filter_append, last, ← List.append_assoc, ← h.lists]
    by_cases on : g = d.segment
    · rw [if_pos on, Segment.enqueue_classList]
      by_cases class' : cl = d.cls <;> simp [on, class']
    · simp [on]
  case segs =>
    rw [seg]
    split
    · rw [Segment.enqueue_eq, h.segs]
    · exact h.segs g
  case whole =>
    have marks : (deps ++ [k]).foldl a.markOf a = (deps.foldl a.markOf a).markChoice d.segment := by
      rw [List.foldl_append, List.foldl_cons, List.foldl_nil]
      simp only [State.markOf, job]
    have run := State.becomeQueued_whole (s := v) here
    have wrote : v.markChoice d.segment = { (deps.foldl a.markOf a).markChoice d.segment with
        slots := v.slots, segs := v.segs, heldSet := v.heldSet } := by
      have before : v = { deps.foldl a.markOf a with slots := v.slots, segs := v.segs, heldSet := v.heldSet } := by
        show ({ u with heldSet := u.heldSet.filter (·.slot != k) } : State) = _
        rw [h.whole]
      exact State.markChoice_with before d.segment
    rw [wrote] at run
    rw [marks]
    exact run.trans (by rw [held]; rfl)

/-- The release of one job changes for no other what it waits on. -/
theorem State.ReleasedFrom.waitsOn (h : u.ReleasedFrom a deps) (fresh : k ∉ deps) : u.waitsOn k id = a.waitsOn k id := by
  rw [State.waitsOn, State.waitsOn, h.others k fresh]

theorem State.ReleasedFrom.rest (id : JobId) (rest : List Slot) (alone : rest.Nodup) (apart : ∀ k ∈ rest, k ∉ deps)
    (h : u.ReleasedFrom a deps) :
    (rest.foldl (fun s i => if s.waitsOn i id then s.release i else s) u).ReleasedFrom a
      (deps ++ rest.filter (a.waitsOn · id)) := by
  induction rest generalizing u deps with
  | nil => simpa using h
  | cons k rest ih =>
    obtain ⟨fresh, alone⟩ := List.nodup_cons.mp alone
    have new := apart k (List.mem_cons_self ..)
    rw [List.foldl_cons, h.waitsOn new]
    by_cases waits : a.waitsOn k id = true
    · obtain ⟨d, job, -⟩ := State.waitsOn_iff.mp waits
      rw [if_pos waits, List.filter_cons_of_pos (p := (a.waitsOn · id)) waits, List.append_cons]
      refine ih alone (fun m mem => ?_) (h.release new job)
      rw [List.mem_append, not_or, List.mem_singleton]
      exact ⟨apart m (List.mem_cons_of_mem _ mem), fun is => fresh (is ▸ mem)⟩
    · rw [if_neg waits, List.filter_cons_of_neg (p := (a.waitsOn · id)) waits]
      exact ih alone (fun m mem => apart m (List.mem_cons_of_mem _ mem)) h

/-- The dependents are released in order of acceptance (R24). -/
theorem State.ReleasedFrom.all (alone : a.accepted.Nodup) (id : JobId) :
    (a.releaseDependents id).ReleasedFrom a (a.accepted.filter (a.waitsOn · id)) := by
  have run := (State.ReleasedFrom.refl a).rest id a.accepted alone fun _ _ => List.not_mem_nil
  rwa [List.nil_append] at run

end Release

/-! ### The end of one job, OK -/

section EndOk

variable {s : State} {o : Option Slot} {i k : Slot} {j : Job} {c : EndCounts}

/-- The HELD jobs that wait on a job, in order of acceptance (R24). -/
def State.dependents (s : State) (i : Slot) : List Slot := s.accepted.filter (s.waitsOn · (s.idAt i))

theorem State.mem_dependents (base : PlacesOff s o) : k ∈ s.dependents i ↔ s.waitsOn k (s.idAt i) = true := by
  refine List.mem_filter.trans (and_iff_right_of_imp fun waits => ?_)
  obtain ⟨d, job, -⟩ := State.waitsOn_iff.mp waits
  exact base.mem_accepted job

/-- No job waits on itself. -/
theorem PlacesOff.not_own (base : PlacesOff s o) : i ∉ s.dependents i := fun mem =>
  Nat.lt_irrefl _ (base.before ((State.mem_dependents base).mp mem))

/-- After the end itself the same jobs wait on the job as before. -/
theorem State.endOne_waitsOn (base : PlacesOff s o) (job : s.jobAt i = some j) (live : j.state ≠ .ended) {st : EndStatus}
    (k : Slot) : (s.endOne i st c).waitsOn k (s.idAt i) = s.waitsOn k (s.idAt i) := by
  by_cases own : k = i
  · subst own
    have never : s.waitsOn k (s.idAt k) = false :=
      Bool.eq_false_iff.mpr fun waits => Nat.lt_irrefl _ (base.before waits)
    rw [never, State.waitsOn, State.endOne_jobAt job live, if_pos rfl]
    rfl
  · rw [State.waitsOn, State.waitsOn, State.endOne_jobAt job live, if_neg own]
    cases s.jobAt k with
    | none => rfl
    | some d =>
      have visited : (d.visited (s.idAt i) (st = .ok)).state = d.state := by unfold Job.visited; split <;> rfl
      show ((d.visited _ _).state == .held && (d.visited _ _).predecessor == _) = (d.state == .held && d.predecessor == _)
      rw [visited]
      by_cases held : d.state = .held
      · have stays : d.visited (s.idAt i) (st = .ok) = d := if_neg fun staging => by simp [held] at staging
        rw [stays]
      · rw [beq_false_of_ne held, Bool.false_and, Bool.false_and]

/-- After the end of a job OK the jobs that waited on it are released (R24). -/
theorem State.endJob_ok (base : PlacesOff s o) (job : s.jobAt i = some j) (live : j.state ≠ .ended) :
    (s.endJob i .ok c).ReleasedFrom (s.endOne i .ok c) (s.dependents i) := by
  have accepted : (s.endOne i .ok c).accepted = s.accepted := (State.CalmJobs.endOne s i .ok c).accepted
  have run := State.ReleasedFrom.all (a := s.endOne i .ok c) (accepted ▸ base.accepted.1) (s.idAt i)
  rw [accepted] at run
  simp only [State.endOne_waitsOn base job live] at run
  rw [State.endJob, if_pos rfl]
  exact run

/-- A HELD job is not visited by the end of another. -/
theorem State.endOne_held (job : s.jobAt i = some j) (live : j.state ≠ .ended) {st : EndStatus} {d : Job}
    (there : s.jobAt k = some d) (held : d.state = .held) (other : k ≠ i) : (s.endOne i st c).jobAt k = some d := by
  rw [State.endOne_jobAt job live, if_neg other, there]
  simp [Job.visited, held]

/-- The records after the end of a job OK. -/
theorem State.endJob_ok_jobAt (base : PlacesOff s o) (job : s.jobAt i = some j) (live : j.state ≠ .ended) (k : Slot) :
    (s.endJob i .ok c).jobAt k = if k ∈ s.dependents i then (s.jobAt k).map Job.queued
      else if k = i then some (j.ended .ok c) else (s.jobAt k).map (·.visited (s.idAt i) true) := by
  have run := State.endJob_ok (c := c) base job live
  split
  · next mem =>
    obtain ⟨d, there, held, -⟩ := State.waitsOn_iff.mp ((State.mem_dependents base).mp mem)
    have other : k ≠ i := fun is => base.not_own (is ▸ mem)
    rw [run.released k mem, State.endOne_held job live there held other, there]
  · next out => rw [run.others k out, State.endOne_jobAt job live]; rfl

end EndOk

/-! ### The claims of a cascade -/

section Claims

variable {u : State} {k : Slot} {d : Job} {st : EndStatus} {c : EndCounts}

/-- The end of a HELD job writes its record and takes it out of the held set (R15). -/
theorem State.endWrites_held (held : d.state = .held) : u.endWrites k d st c =
    { u with slots := (u.endWrites k d st c).slots, heldSet := (u.endWrites k d st c).heldSet } := by
  unfold State.endWrites State.leavePlace
  rw [held]
  rfl

/-- The end of a HELD job while the Report Queue holds 64: its claim waits (R172). -/
theorem State.endOne_full (job : u.jobAt k = some d) (held : d.state = .held) (full : 64 ≤ u.reports.length) :
    u.endOne k st c = { u with
      slots := (u.endOne k st c).slots, heldSet := (u.endOne k st c).heldSet, claims := u.claims ++ [.jobEnded k] } := by
  obtain ⟨reports, -, -, -⟩ := State.endWrites_queue (s := u) (i := k) (j := d) (st := st) (c := c)
  have placed := State.placeClaim_full (s := u.endWrites k d st c) (reports ▸ full) (.jobEnded k)
  rw [State.endOne_eq job (by simp [held]), placed, State.endWrites_held held]

/-- The end of a HELD job while no claim waits and the Report Queue has room: its report enters (R171). -/
theorem State.endOne_room (job : u.jobAt k = some d) (held : d.state = .held) (none : u.claims = [])
    (room : u.reports.length < 64) : ∃ r : Report, r.owner = .jobEnded k ∧ u.endOne k st c = { u with
      slots := (u.endOne k st c).slots, heldSet := (u.endOne k st c).heldSet, reports := u.reports ++ [r]
      nextSeq := u.nextSeq + 1, attn := true } := by
  obtain ⟨reports, claims, seq, -⟩ := State.endWrites_queue (s := u) (i := k) (j := d) (st := st) (c := c)
  obtain ⟨body, form⟩ : ∃ body, formReport (u.endWrites k d st c) (.jobEnded k) = some (0x81, body) :=
    ⟨_, formReport_jobEnded State.endWrites_jobAt_self rfl⟩
  refine ⟨⟨0x81, u.nextSeq, body, .jobEnded k, false⟩, rfl, ?_⟩
  rw [State.endOne_eq job (by simp [held]), State.placeClaim_room (claims.trans none) (reports ▸ room) form, reports, seq,
    State.endWrites_held held]
  rfl

/-- Other HELD jobs stay so. -/
theorem State.endOne_rest {deps : List Slot} (job : u.jobAt k = some d) (held : d.state = .held) (alone : (k :: deps).Nodup)
    (all : ∀ m ∈ k :: deps, ∃ d, u.jobAt m = some d ∧ d.state = .held) :
    ∀ m ∈ deps, ∃ d, (u.endOne k st c).jobAt m = some d ∧ d.state = .held := fun m mem =>
  have ⟨p, there, stands⟩ := all m (List.mem_cons_of_mem _ mem)
  ⟨p, State.endOne_held job (by simp [held]) there stands fun is => (List.nodup_cons.mp alone).1 (is ▸ mem), stands⟩

/-- The ends of HELD jobs while the Report Queue holds 64. -/
theorem State.cascaded_full (deps : List Slot) (alone : deps.Nodup)
    (all : ∀ m ∈ deps, ∃ d, u.jobAt m = some d ∧ d.state = .held) (full : 64 ≤ u.reports.length) :
    u.cascaded deps = { u with
      slots := (u.cascaded deps).slots, heldSet := (u.cascaded deps).heldSet
      claims := u.claims ++ deps.map .jobEnded } := by
  induction deps generalizing u with
  | nil => simp [State.cascaded]
  | cons k deps ih =>
    obtain ⟨d, job, held⟩ := all k (List.mem_cons_self ..)
    have one := State.endOne_full (st := .predecessorFailed) (c := .nothing) job held full
    have rest := ih (List.nodup_cons.mp alone).2 (State.endOne_rest job held alone all) (by rw [one]; exact full)
    rw [State.cascaded_cons, rest, one]
    simp

/-- The ends of HELD jobs while no claim waits. -/
theorem State.cascaded_entry (deps : List Slot) (alone : deps.Nodup)
    (all : ∀ m ∈ deps, ∃ d, u.jobAt m = some d ∧ d.state = .held) (none : u.claims = []) :
    u.cascaded deps = { u with
      slots := (u.cascaded deps).slots, heldSet := (u.cascaded deps).heldSet
      reports := (u.cascaded deps).reports, claims := (u.cascaded deps).claims
      nextSeq := (u.cascaded deps).nextSeq, attn := (u.cascaded deps).attn } := by
  induction deps generalizing u with
  | nil => rfl
  | cons k deps ih =>
    by_cases full : 64 ≤ u.reports.length
    · rw [State.cascaded_full (k :: deps) alone all full]
    · obtain ⟨d, job, held⟩ := all k (List.mem_cons_self ..)
      obtain ⟨r, -, one⟩ := State.endOne_room (st := .predecessorFailed) (c := .nothing) job held none (Nat.not_le.mp full)
      have rest := ih (List.nodup_cons.mp alone).2 (State.endOne_rest job held alone all) (by rw [one]; exact none)
      rw [State.cascaded_cons, rest, one]

/-- The ends of HELD jobs whose reports all have room. -/
theorem State.cascaded_room (deps : List Slot) (alone : deps.Nodup)
    (all : ∀ m ∈ deps, ∃ d, u.jobAt m = some d ∧ d.state = .held) (none : u.claims = [])
    (room : u.reports.length + deps.length ≤ 64) :
    (u.cascaded deps).claims = [] ∧
      (u.cascaded deps).reports.map (·.owner) = u.reports.map (·.owner) ++ deps.map .jobEnded := by
  induction deps generalizing u with
  | nil => exact ⟨none, by simp [State.cascaded]⟩
  | cons k deps ih =>
    rw [List.length_cons] at room
    obtain ⟨d, job, held⟩ := all k (List.mem_cons_self ..)
    obtain ⟨r, owner, one⟩ := State.endOne_room (st := .predecessorFailed) (c := .nothing) job held none (by omega)
    have rest := ih (u := u.endOne k .predecessorFailed .nothing) (List.nodup_cons.mp alone).2
      (State.endOne_rest job held alone all) (by rw [one]; exact none)
      (by rw [one]; simp only [List.length_append, List.length_singleton]; omega)
    rw [State.cascaded_cons]
    refine ⟨rest.1, rest.2.trans ?_⟩
    rw [one]
    simp [owner]

end Claims

section Dependents

variable {s : State} {i k : Slot} {j : Job} {st : EndStatus} {c : EndCounts}

theorem State.mem_markChoice_iff (u : State) (f g : Seg) : g ∈ (u.markChoice f).choiceDue ↔ g ∈ u.choiceDue ∨ g = f := by
  unfold State.markChoice
  split
  · next due => exact ⟨.inl, fun h => h.elim id (· ▸ due)⟩
  · simp

/-- A choice point that is due stays due while others become due. -/
theorem State.foldl_markOf_due {a u : State} {g : Seg} (deps : List Slot)
    (due : g ∈ u.choiceDue ∨ ∃ k ∈ deps, ∃ d, a.jobAt k = some d ∧ d.segment = g) :
    g ∈ (deps.foldl a.markOf u).choiceDue := by
  induction deps generalizing u with
  | nil => simpa using due
  | cons k deps ih =>
    refine ih ?_
    rcases due with due | ⟨m, mem, d, job, on⟩
    · left
      unfold State.markOf
      split
      · exact (State.mem_markChoice_iff ..).mpr (.inl due)
      · exact due
    · rcases List.mem_cons.mp mem with rfl | mem
      · left
        simp only [State.markOf, job]
        exact (State.mem_markChoice_iff ..).mpr (.inr on.symm)
      · exact .inr ⟨m, mem, d, job, on⟩

/-- What waits on the job is HELD, and the end itself leaves it as it was. -/
theorem State.endOne_dependent (base : PlacesOk s) (job : s.jobAt i = some j) (live : j.state ≠ .ended)
    (mem : k ∈ s.dependents i) : ∃ d, s.jobAt k = some d ∧ d.state = .held ∧ (s.endOne i st c).jobAt k = some d := by
  obtain ⟨d, there, held, -⟩ := State.waitsOn_iff.mp ((State.mem_dependents base.off).mp mem)
  exact ⟨d, there, held, State.endOne_held job live there held fun is => base.off.not_own (is ▸ mem)⟩

/-- After OK no job waits on the job (R24). -/
theorem State.endJob_ok_waitsOn (base : PlacesOk s) (job : s.jobAt i = some j) (live : j.state ≠ .ended) (k : Slot) :
    (s.endJob i .ok c).waitsOn k (s.idAt i) = false := by
  have run := State.endJob_ok (c := c) base.off job live
  by_cases mem : k ∈ s.dependents i
  · obtain ⟨d, -, -, there⟩ := State.endOne_dependent (st := .ok) (c := c) base job live mem
    rw [State.waitsOn, run.released k mem, there]
    rfl
  · rw [run.waitsOn mem, State.endOne_waitsOn base.off job live, ← Bool.not_eq_true]
    exact fun waits => mem ((State.mem_dependents base.off).mpr waits)

/-- No HELD job waits on a job that did not end OK, after an end and its cascade (R25). -/
theorem State.EndedIn.waitsOnFailed_eq_false {u : State} {o : Option Slot} {done : List Slot} (base : PlacesOff s o)
    (h : u.EndedIn s done) (closed : s.Closed done) (k : Slot) : u.waitsOnFailed k = false := by
  rw [← Bool.not_eq_true, h.waitsOnFailed_iff base]
  rintro ⟨out, m, mem, waits⟩
  exact out (closed m mem k waits)

/-- The claim of a job's end where claims wait only for room (R171, R172). -/
theorem State.endOne_claims (job : s.jobAt i = some j) (live : j.state ≠ .ended) :
    (64 ≤ s.reports.length → (s.endOne i st c).reports = s.reports) ∧
    (s.claims = [] → s.reports.length < 64 →
      (s.endOne i st c).claims = [] ∧ (s.endOne i st c).reports.length = s.reports.length + 1) := by
  obtain ⟨reports, claims, -, -⟩ := State.endWrites_queue (s := s) (i := i) (j := j) (st := st) (c := c)
  rw [State.endOne_eq job live]
  refine ⟨fun full => ?_, fun none room => ?_⟩
  · rw [State.placeClaim_full (reports ▸ full)]
    exact reports
  · obtain ⟨body, form⟩ : ∃ body, formReport (s.endWrites i j st c) (.jobEnded i) = some (0x81, body) :=
      ⟨_, formReport_jobEnded State.endWrites_jobAt_self rfl⟩
    rw [State.placeClaim_room (claims.trans none) (reports ▸ room) form]
    exact ⟨claims.trans none, by rw [List.length_append, reports]; rfl⟩

/-- Settles O29: the two ends, each by what is said of it above. -/
theorem endLeavesNoHeldDependentBehind : Obligations.EndLeavesNoHeldDependentBehind := by
  unfold Obligations.EndLeavesNoHeldDependentBehind
  refine ⟨fun s k => ⟨fun id => State.waitsOn_iff, State.waitsOnFailed_iff⟩, fun s i j st c places job live => ?_⟩
  have base := places.off
  refine ⟨(State.CalmJobs.endJob s i st c).gen, fun ok => ?ok, fun failed => ?failed⟩
  case ok =>
    subst ok
    have run := State.endJob_ok (c := c) base job live
    have kept (m : Slot) (mem : m ∈ s.dependents i) : (s.endOne i .ok c).jobAt m = s.jobAt m := by
      obtain ⟨d, there, -, stays⟩ := State.endOne_dependent (st := .ok) (c := c) places job live mem
      rw [stays, there]
    have marks : (s.dependents i).foldl (s.endOne i .ok c).markOf (s.endOne i .ok c) =
        (s.dependents i).foldl s.markOf (s.endOne i .ok c) :=
      List.foldl_ext _ _ _ fun u m mem => by rw [State.markOf, State.markOf, kept m mem]
    refine ⟨State.endJob_ok_waitsOn places job live, fun k mem => ?_, run.others, run.heldSet, fun g cl => ?_,
      fun k d mem there => ?_, run.segs, ?_⟩
    · rw [run.released k mem, kept k mem]
      rfl
    · rw [run.lists]
      exact congrArg _ (List.filter_congr fun m mem => by rw [kept m mem])
    · rw [run.whole]
      exact State.foldl_markOf_due _ (.inr ⟨k, mem, d, (kept k mem).trans there, rfl⟩)
    · refine run.whole.trans ?_
      rw [marks]
      rfl
  case failed =>
    obtain ⟨deps, sub, run, ended, closed, members, own, records⟩ := State.endJob_failed (c := c) base job live failed
    have alone : deps.Nodup := sub.nodup base.accepted.1
    have held (m : Slot) (mem : m ∈ deps) : ∃ d, (s.endOne i st c).jobAt m = some d ∧ d.state = .held := by
      obtain ⟨d, there, stands⟩ := ((members m).mp mem).held
      exact ⟨d, State.endOne_held job live there stands (((members m).mp mem).ne base), stands⟩
    have full (room : 64 ≤ s.reports.length) := State.cascaded_full deps alone held (by
      rwa [(State.endOne_claims (st := st) (c := c) job live).1 room])
    refine ⟨ended.waitsOnFailed_eq_false base closed, deps, sub, members, records,
      own.trans ((State.endOne_jobAt job live i).trans (if_pos rfl)).symm, fun k out other => ?_, ?_, fun g cl => ?_,
      fun entry => ?_, fun room => ?_, fun none room => ?_⟩
    · rw [ended.others k (by simp [out, other])]
      simp [Job.afterEnds]
    · rw [ended.heldSet, (State.EndedIn.endOne base (.refl s) List.not_mem_nil job live failed).heldSet, List.filter_filter]
      exact List.filter_congr fun e _ => by simp [Bool.and_comm]
    · have out : ((s.endOne i st c).seg g).classList cl = ((s.seg g).classList cl).filter (· != i) :=
        State.endOne_lists base (.refl s) job live job rfl rfl rfl g cl
      rw [ended.lists, out]
      refine List.filter_congr fun m mem => ?_
      obtain ⟨d, there, queued, -⟩ := ((base.lists g cl).2 m).mp mem
      have apart : m ∉ deps := fun waits => by
        obtain ⟨p, here, stands⟩ := ((members m).mp waits).held
        simp [← Option.some.inj (there.symm.trans here), queued] at stands
      by_cases is : m = i <;> simp [apart, is]
    · rw [run]
      by_cases room : 64 ≤ s.reports.length
      · rw [full room]
      · have none := entry.resolve_right room
        exact State.cascaded_entry deps alone held ((State.endOne_claims job live).2 none (Nat.not_le.mp room)).1
    · rw [run, full room]
      exact ⟨rfl, rfl⟩
    · obtain ⟨none', length⟩ := (State.endOne_claims (st := st) (c := c) job live).2 none (by omega)
      rw [run]
      exact State.cascaded_room deps alone held none' (by omega)

end Dependents

end Sys2Proof.Machine

/-!
The places of jobs (R15, R21, R23, R28) slot by slot: what a change of one job, or of what is handed, has to bring with it
so that places and states agree again.
-/

namespace Sys2Proof.Machine

/-! ### One slot -/

/-- The places that hold one slot number agree with its job. -/
structure State.Placed (s : State) (o : Option Slot) (k : Slot) : Prop where
  accepted : k ∈ s.accepted ↔ (s.jobAt k).isSome
  jobs : ∀ j, s.jobAt k = some j → JobOk j
  lists : ∀ g c, k ∈ (s.seg g).classList c ↔ ∃ j, s.jobAt k = some j ∧ j.state = .queued ∧ j.segment = g ∧ j.cls = c
  held : k ∈ s.heldSet.map (·.slot) ↔ ∃ j, s.jobAt k = some j ∧ j.state = .held
  current : ∀ g, (s.seg g).current = some k ↔ ∃ j, s.jobAt k = some j ∧ j.state.isCurrent = true ∧ j.segment = g
  handed : ∀ g, (s.seg g).handed = some (.job k) ↔
    some k ≠ o ∧ ∃ j, s.jobAt k = some j ∧ j.state = .active ∧ j.segment = g

/-- What is said of the lists themselves: each slot stands in them once, and what waits names what it waits for. -/
structure State.ListsOk (s : State) : Prop where
  accepted : s.accepted.Nodup
  lists : ∀ g c, ((s.seg g).classList c).Nodup
  held : (s.heldSet.map (·.slot)).Nodup
  heldFor : ∀ e ∈ s.heldSet, ∀ j, s.jobAt e.slot = some j → j.predecessor = .job e.predecessor
  chain : AcceptedInOrder s

section Slots

variable {s t : State} {o : Option Slot} {i k : Slot} {j : Job}

theorem PlacesOff.placed (h : PlacesOff s o) (k : Slot) : s.Placed o k :=
  ⟨h.accepted.2 k, h.jobs k, fun g c => (h.lists g c).2 k, h.held.2 k, fun g => h.current g k, fun g => h.handed g k⟩

theorem PlacesOff.of_placed (lists : s.ListsOk) (placed : ∀ k, s.Placed o k) : PlacesOff s o :=
  ⟨⟨lists.accepted, fun k => (placed k).accepted⟩, fun k => (placed k).jobs,
    fun g c => ⟨lists.lists g c, fun k => (placed k).lists g c⟩, ⟨lists.held, fun k => (placed k).held⟩, lists.heldFor,
    lists.chain, fun g k => (placed k).current g, fun g k => (placed k).handed g⟩

/-- What holds a slot, read slot by slot, is what it was. -/
structure State.SamePlaces (t s : State) (k : Slot) : Prop where
  accepted : k ∈ t.accepted ↔ k ∈ s.accepted
  lists : ∀ g c, k ∈ (t.seg g).classList c ↔ k ∈ (s.seg g).classList c
  held : k ∈ t.heldSet.map (·.slot) ↔ k ∈ s.heldSet.map (·.slot)
  current : ∀ g, (t.seg g).current = some k ↔ (s.seg g).current = some k
  handed : ∀ g, (t.seg g).handed = some (.job k) ↔ (s.seg g).handed = some (.job k)

theorem State.Placed.same (h : s.Placed o k) (same : t.SamePlaces s k) (job : t.jobAt k = s.jobAt k) : t.Placed o k where
  accepted := by rw [same.accepted, job, h.accepted]
  jobs := by rw [job]; exact h.jobs
  lists g c := by rw [same.lists, job, h.lists]
  held := by rw [same.held, job, h.held]
  current g := by rw [same.current, job, h.current]
  handed g := by rw [same.handed, job, h.handed]

/-- Where live jobs stay live, and none waits that did not, the order of acceptance is kept. -/
theorem AcceptedInOrder.of_live (h : AcceptedInOrder s) (gen : ∀ k, t.genAt k = s.genAt k) (accepted : t.accepted = s.accepted)
    (live : ∀ k j, s.jobAt k = some j → j.state ≠ .ended → ∃ j', t.jobAt k = some j' ∧ j'.state ≠ .ended)
    (waits : ∀ k j' id, t.jobAt k = some j' → j'.state = .held ∨ j'.state = .staging → j'.predecessor = .job id →
      ∃ j, s.jobAt k = some j ∧ (j.state = .held ∨ j.state = .staging) ∧ j.predecessor = .job id) : AcceptedInOrder t := by
  intro k j' id job waiting predecessor
  obtain ⟨j, before, waited, named⟩ := waits k j' id job waiting predecessor
  obtain ⟨below, order⟩ := h k j id before waited named
  obtain ⟨own, p, there, alive⟩ := (s.liveId_iff id).mp below
  rw [accepted]
  exact ⟨(t.liveId_iff id).mpr ⟨(gen _).trans own, live _ p there alive⟩, order⟩

/-- No job is named. -/
theorem PlacesOff.all (h : PlacesOff s none) : PlacesOk s := h.ok fun _ _ named => by cases named

/-! ### Nothing moves -/

/-- The same jobs stand in the same places. -/
theorem PlacesOff.stand (h : PlacesOff s o) (same : t.JobsStand s) : PlacesOff t o := by
  have job := same.jobAt
  have gen (k : Slot) : t.genAt k = s.genAt k := by rw [State.genAt, State.genAt, same.slots]
  have places (g : Seg) : (∀ c, (t.seg g).classList c = (s.seg g).classList c) ∧ (t.seg g).current = (s.seg g).current ∧
      (t.seg g).handed = (s.seg g).handed := by
    have here := same.places g
    simp only [Segment.places, Prod.mk.injEq] at here
    obtain ⟨urgent, routine, current, handed⟩ := here
    exact ⟨fun c => by cases c <;> assumption, current, handed⟩
  have chain : AcceptedInOrder t := h.chain.of_live gen same.accepted (fun k j there live => ⟨j, (job k).trans there, live⟩)
    fun k j id there waits named => ⟨j, (job k).symm.trans there, waits, named⟩
  have lists : t.ListsOk := by
    refine ⟨?_, fun g c => ?_, ?_, ?_, chain⟩
    · rw [same.accepted]; exact h.accepted.1
    · rw [(places g).1]; exact (h.lists g c).1
    · rw [same.heldSet]; exact h.held.1
    · simp only [same.heldSet, job]; exact h.heldFor
  refine .of_placed lists fun k => (h.placed k).same ?_ (job k)
  refine ⟨?_, fun g c => ?_, ?_, fun g => ?_, fun g => ?_⟩
  · rw [same.accepted]
  · rw [(places g).1]
  · rw [same.heldSet]
  · rw [(places g).2.1]
  · rw [(places g).2.2]

theorem PlacesOk.stand (h : PlacesOk s) (same : t.JobsStand s) : PlacesOk t := (h.off.stand same).all

/-- A record changes where it stands: its state stays, or it is that of the current job whose attempt is named as not
handed. -/
theorem PlacesOff.restate {f : Job → Job} (h : PlacesOff s o) (job : s.jobAt i = some j) (fine : JobOk (f j))
    (segment : (f j).segment = j.segment) (cls : (f j).cls = j.cls)
    (kept : (f j).state = j.state ∧ (f j).predecessor = j.predecessor ∨
      o = some i ∧ j.state.isCurrent = true ∧ (f j).state.isCurrent = true) : PlacesOff (s.modJob i f) o := by
  have own : (s.modJob i f).jobAt i = some (f j) := by rw [State.jobAt_modJob_self, job]; rfl
  have other (k : Slot) (away : k ≠ i) : (s.modJob i f).jobAt k = s.jobAt k := State.jobAt_modJob_ne _ _ _ _ away
  have current (st : JobState) (is : st.isCurrent = true) : st ≠ .held ∧ st ≠ .staging ∧ st ≠ .queued ∧ st ≠ .ended := by
    revert is; cases st <;> decide
  have same (k : Slot) : (s.modJob i f).SamePlaces s k := ⟨.rfl, fun _ _ => .rfl, .rfl, fun _ => .rfl, fun _ => .rfl⟩
  have chain : AcceptedInOrder (s.modJob i f) := by
    refine h.chain.of_live (fun k => State.genAt_modJob s i k f) rfl (fun k d there live => ?_) fun k d id there waits named => ?_
    · by_cases is : k = i
      · subst is
        rw [job, Option.some.injEq] at there
        subst there
        refine ⟨f j, own, ?_⟩
        rcases kept with ⟨state, -⟩ | ⟨-, -, now⟩
        · rwa [state]
        · exact (current _ now).2.2.2
      · exact ⟨d, (other k is).trans there, live⟩
    · by_cases is : k = i
      · subst is
        rw [own, Option.some.injEq] at there
        subst there
        rcases kept with ⟨state, predecessor⟩ | ⟨-, -, now⟩
        · exact ⟨j, job, state ▸ waits, predecessor ▸ named⟩
        · exact absurd waits (not_or.mpr ⟨(current _ now).1, (current _ now).2.1⟩)
      · exact ⟨d, (other k is).symm.trans there, waits, named⟩
  have heldFor : ∀ e ∈ s.heldSet, ∀ d, (s.modJob i f).jobAt e.slot = some d → d.predecessor = .job e.predecessor := by
    intro e he d there
    by_cases is : e.slot = i
    · obtain ⟨p, below, held⟩ := (h.held.2 e.slot).mp (List.mem_map_of_mem he)
      rw [is, job, Option.some.injEq] at below
      subst below
      rw [is, own, Option.some.injEq] at there
      rcases kept with ⟨-, predecessor⟩ | ⟨-, was, -⟩
      · rw [← there, predecessor]
        exact h.heldFor e he j (is ▸ job)
      · exact absurd held (current _ was).1
    · exact h.heldFor e he d ((other _ is).symm.trans there)
  refine .of_placed ⟨h.accepted.1, fun g c => (h.lists g c).1, h.held.1, heldFor, chain⟩ fun k => ?_
  by_cases is : k = i
  · subst is
    obtain ⟨accepted, -, lists, held, now, handed⟩ := h.placed k
    simp only [job, Option.some.injEq, exists_eq_left'] at lists held now handed
    refine ⟨?_, ?_, fun g c => (lists g c).trans ?_, held.trans ?_, fun g => (now g).trans ?_, fun g => (handed g).trans ?_⟩
    · exact accepted.trans (by simp [own, job])
    · rintro d there
      rw [own, Option.some.injEq] at there
      exact there ▸ fine
    all_goals simp only [own, Option.some.injEq, exists_eq_left', segment, cls]
    · rcases kept with ⟨state, -⟩ | ⟨-, was, is⟩
      · rw [state]
      · simp [(current _ was).2.2.1, (current _ is).2.2.1]
    · rcases kept with ⟨state, -⟩ | ⟨-, was, is⟩
      · rw [state]
      · simp [(current _ was).1, (current _ is).1]
    · rcases kept with ⟨state, -⟩ | ⟨-, was, is⟩
      · rw [state]
      · simp [was, is]
    · rcases kept with ⟨state, -⟩ | ⟨named, -, -⟩
      · rw [state]
      · simp [named]
  · exact (h.placed k).same (same k) (other k is)

/-! ### What is handed changes -/

variable {g : Seg} {a : Activity}

/-- A job that is not ACTIVE may be named. -/
theorem PlacesOk.naming (h : PlacesOk s) (rests : ∀ j, s.jobAt i = some j → j.state ≠ .active) : PlacesOff s (some i) := by
  refine ⟨h.accepted, h.jobs, h.lists, h.held, h.heldFor, h.chain, h.current, fun g k => (h.handed g k).trans ?_⟩
  refine (and_iff_right_of_imp ?_).symm
  rintro ⟨j, job, active, -⟩ named
  exact rests j (Option.some.inj named ▸ job) active

/-- What is handed on one segment is written. -/
def State.withHanded (s : State) (g : Seg) (x : Option Activity) : State := s.modSeg g fun sg => { sg with handed := x }

theorem State.withHanded_handed (s : State) (g f : Seg) (x : Option Activity) :
    ((s.withHanded g x).seg f).handed = if f = g then x else (s.seg f).handed := by
  unfold State.withHanded
  split
  · next is => rw [is, State.seg_modSeg_self]
  · next other => rw [State.seg_modSeg_ne _ _ _ _ other]

theorem PlacesOff.withHanded {o' : Option Slot} {x : Option Activity} (h : PlacesOff s o)
    (fine : ∀ f k, (if f = g then x else (s.seg f).handed) = some (.job k) ↔
      some k ≠ o' ∧ ∃ j, s.jobAt k = some j ∧ j.state = .active ∧ j.segment = f) : PlacesOff (s.withHanded g x) o' := by
  have seg (f : Seg) : (∀ c, ((s.withHanded g x).seg f).classList c = (s.seg f).classList c) ∧
      ((s.withHanded g x).seg f).current = (s.seg f).current := by
    by_cases is : f = g
    · subst is
      rw [State.withHanded, State.seg_modSeg_self]
      exact ⟨fun c => by cases c <;> rfl, rfl⟩
    · rw [State.withHanded, State.seg_modSeg_ne _ _ _ _ is]
      exact ⟨fun _ => rfl, rfl⟩
  refine ⟨h.accepted, h.jobs, fun f c => ?_, h.held, h.heldFor, h.chain, fun f k => ?_, fun f k => ?_⟩
  · rw [(seg f).1]; exact h.lists f c
  · rw [(seg f).2]; exact h.current f k
  · rw [State.withHanded_handed]; exact fine f k

/-- The attempt of a job is handed no more. -/
theorem PlacesOk.drop (h : PlacesOk s) (handed : (s.seg g).handed = some (.job i)) :
    PlacesOff (s.withHanded g none) (some i) := by
  obtain ⟨j, job, -, own⟩ := (h.handed g i).mp handed
  refine h.off.withHanded fun f k => ?_
  split
  · next is =>
    subst is
    refine ⟨nofun, fun ⟨other, stands⟩ => (other ?_).elim⟩
    rw [(h.handed f k).mpr stands, Option.some.injEq, Activity.job.injEq] at handed
    rw [handed]
  · next away =>
    rw [h.handed f k]
    refine (and_iff_right_of_imp ?_).symm
    rintro ⟨d, there, -, on⟩ named
    rw [Option.some.inj named, job, Option.some.injEq] at there
    exact away (by rw [← on, ← there, own])

/-- An activity that is no job's attempt is handed, or handed no more. -/
theorem PlacesOk.withOther {x : Option Activity} (h : PlacesOk s) (was : ∀ k, (s.seg g).handed ≠ some (.job k))
    (is : ∀ k, x ≠ some (.job k)) : PlacesOk (s.withHanded g x) := by
  refine (h.off.withHanded (o' := none) fun f k => ?_).all
  split
  · next own =>
    subst own
    exact ⟨fun e => absurd e (is k), fun stands => absurd ((h.handed f k).mpr stands.2) (was k)⟩
  · simp [h.handed f k]

/-- The attempt of a job is handed. -/
theorem PlacesOff.hand (h : PlacesOff s (some i)) (job : s.jobAt i = some j) (active : j.state = .active)
    (free : (s.seg j.segment).handed = none) : PlacesOk (s.withHanded j.segment (some (.job i))) := by
  refine (h.withHanded (o' := none) fun f k => ?_).all
  split
  · next own =>
    subst own
    constructor
    · intro e
      cases e
      exact ⟨nofun, j, job, active, rfl⟩
    · rintro ⟨-, stands⟩
      by_cases named : k = i
      · rw [named]
      · rw [(h.handed j.segment k).mpr ⟨fun e => named (Option.some.inj e), stands⟩] at free
        cases free
  · next away =>
    rw [h.handed f k]
    refine ⟨fun stands => ⟨nofun, stands.2⟩, fun ⟨_, stands⟩ => ⟨fun named => ?_, stands⟩⟩
    obtain ⟨d, there, -, on⟩ := stands
    rw [Option.some.inj named, job, Option.some.injEq] at there
    exact away (there ▸ on.symm)

/-! ### The end of one job -/

variable {c : EndCounts} {st : EndStatus}

theorem JobOk.queued {d : Job} (h : JobOk d) (held : d.state = .held) : JobOk d.queued where
  outcome := by simp [Job.queued, show d.outcome.isSome = false by simpa [held] using h.outcome]
  timers ended := by simp [Job.queued] at ended
  staging := by simpa [Job.queued, held] using h.staging
  staged := h.staged
  complete _ _ := h.complete (by simp [held]) (by simp [held])

theorem Job.visited_eq (d : Job) (id : JobId) (ok : Bool) :
    d.visited id ok = { d with predecessor := (d.visited id ok).predecessor } := by
  unfold Job.visited
  split <;> rfl

/-- The end of a job takes it out of the held set, and no other job (R15). -/
theorem State.endOne_heldSet_filter (base : PlacesOff s o) (job : s.jobAt i = some j) (live : j.state ≠ .ended) :
    (s.endOne i st c).heldSet = s.heldSet.filter (·.slot != i) := by
  rw [State.endOne_heldSet job live]
  split
  · rfl
  · next other =>
    refine (List.filter_eq_self.mpr fun e he => bne_iff_ne.mpr ?_).symm
    rintro rfl
    obtain ⟨d, there, held⟩ := (base.held.2 e.slot).mp (List.mem_map_of_mem he)
    rw [job, Option.some.injEq] at there
    exact other (there ▸ held)

/-- Where each slot stands after the end of a job OK. -/
theorem State.endJob_ok_stands (base : PlacesOff s o) (job : s.jobAt i = some j) (live : j.state ≠ .ended) :
    (∀ g cl, ((s.endJob i .ok c).seg g).classList cl = ((s.seg g).classList cl).filter (· != i) ++
      (s.dependents i).filter fun k => (s.jobAt k).any fun d => d.segment == g && d.cls == cl) ∧
    (s.endJob i .ok c).heldSet = s.heldSet.filter (fun e => e.slot != i && !(s.dependents i).contains e.slot) ∧
    (∀ g, ((s.endJob i .ok c).seg g).current = (s.seg g).current.filter (· != i)) ∧
    ∀ g, ((s.endJob i .ok c).seg g).handed = (s.seg g).handed := by
  have run := State.endJob_ok (c := c) base job live
  have refl := State.EndedIn.refl s
  refine ⟨fun g cl => ?_, ?_, fun g => ?_, fun g => ?_⟩
  · rw [run.lists, State.endOne_lists base refl job live job rfl rfl rfl]
    refine congrArg _ (List.filter_congr fun k mem => ?_)
    obtain ⟨d, there, held, -⟩ := State.waitsOn_iff.mp ((State.mem_dependents base).mp mem)
    rw [State.endOne_held job live there held fun is => base.not_own (is ▸ mem), there]
  · rw [run.heldSet, State.endOne_heldSet_filter base job live, List.filter_filter]
    exact List.filter_congr fun e _ => Bool.and_comm ..
  · rw [run.segs]
    exact State.endOne_current base refl job live job rfl rfl g
  · rw [run.segs]
    exact (State.endOne_places job live g).2.2

/-- The records after the end of a job OK, by the three cases. -/
theorem State.endJob_ok_records (base : PlacesOff s o) (job : s.jobAt i = some j) (live : j.state ≠ .ended) :
    (s.endJob i .ok c).jobAt i = some (j.ended .ok c) ∧
    (∀ k ∈ s.dependents i, ∃ d, s.jobAt k = some d ∧ d.state = .held ∧ (s.endJob i .ok c).jobAt k = some d.queued) ∧
    ∀ k, k ∉ s.dependents i → k ≠ i → (s.endJob i .ok c).jobAt k = (s.jobAt k).map (·.visited (s.idAt i) true) := by
  have jobAt := State.endJob_ok_jobAt (c := c) base job live
  refine ⟨by rw [jobAt, if_neg base.not_own, if_pos rfl], fun k mem => ?_, fun k out away => ?_⟩
  · obtain ⟨d, there, held, -⟩ := State.waitsOn_iff.mp ((State.mem_dependents base).mp mem)
    exact ⟨d, there, held, by rw [jobAt, if_pos mem, there]; rfl⟩
  · rw [jobAt, if_neg out, if_neg away]

/-- What waits on a job that is not released still has its predecessor (R10, R23). -/
theorem AcceptedInOrder.endJob_ok (base : PlacesOff s o) (job : s.jobAt i = some j) (live : j.state ≠ .ended) :
    AcceptedInOrder (s.endJob i .ok c) := by
  obtain ⟨own, dependent, other⟩ := State.endJob_ok_records (c := c) base job live
  have calm := State.CalmJobs.endJob s i .ok c
  intro k d id there waits named
  by_cases is : k = i
  · subst is
    rw [own, Option.some.injEq] at there
    subst there
    simp [Job.ended] at waits
  by_cases released : k ∈ s.dependents i
  · obtain ⟨p, -, -, wrote⟩ := dependent k released
    rw [wrote, Option.some.injEq] at there
    subst there
    cases named
  obtain ⟨p, before, rfl⟩ := Option.map_eq_some_iff.mp ((other k released is).symm.trans there)
  have state : (p.visited (s.idAt i) true).state = p.state := by rw [Job.visited_eq]
  rw [state] at waits
  have unvisited : p.predecessor = .job id ∧ id ≠ s.idAt i := by
    unfold Job.visited at named
    split at named
    · cases named
    · next stays =>
      refine ⟨named, ?_⟩
      rintro rfl
      rcases waits with held | staging
      · exact released ((State.mem_dependents base).mpr (State.waitsOn_iff.mpr ⟨p, before, held, named⟩))
      · exact stays ⟨staging, named⟩
  obtain ⟨is', ⟨q, below, alive⟩, order⟩ := base.named before waits unvisited.1
  have away : id.slot ≠ i := fun e => unvisited.2 (e ▸ is')
  rw [calm.accepted]
  refine ⟨(State.liveId_iff _ id).mpr ⟨(calm.gen id.slot).trans (by rw [is']; rfl), ?_⟩, order⟩
  by_cases released' : id.slot ∈ s.dependents i
  · obtain ⟨p, -, -, wrote⟩ := dependent _ released'
    exact ⟨_, wrote, by simp [Job.queued]⟩
  · refine ⟨_, by rw [other _ released' away, below]; rfl, ?_⟩
    show (q.visited _ _).state ≠ .ended
    rwa [Job.visited_eq]

/-- After the end of a job OK the places that hold a slot agree with its job (R15, R24). -/
theorem State.endJob_ok_placed (base : PlacesOff s o) (job : s.jobAt i = some j) (live : j.state ≠ .ended)
    (started : j.state = .active → o = some i) (k : Slot) : (s.endJob i .ok c).Placed o k := by
  obtain ⟨own, dependent, other⟩ := State.endJob_ok_records (c := c) base job live
  obtain ⟨lists, heldSet, current, handed⟩ := State.endJob_ok_stands (c := c) base job live
  have accepted : (s.endJob i .ok c).accepted = s.accepted := (State.CalmJobs.endJob s i .ok c).accepted
  have slot := base.placed k
  have held : k ∈ (s.endJob i .ok c).heldSet.map (·.slot) ↔
      (k ≠ i ∧ k ∉ s.dependents i) ∧ k ∈ s.heldSet.map (·.slot) := by
    rw [heldSet]
    simp only [List.mem_map, List.mem_filter, Bool.and_eq_true, bne_iff_ne, Bool.not_eq_true', List.contains_eq_mem,
      decide_eq_false_iff_not]
    constructor
    · rintro ⟨e, ⟨mem, stays⟩, rfl⟩
      exact ⟨stays, e, mem, rfl⟩
    · rintro ⟨stays, e, mem, rfl⟩
      exact ⟨e, ⟨mem, stays⟩, rfl⟩
  have now (g : Seg) : ((s.endJob i .ok c).seg g).current = some k ↔ k ≠ i ∧ (s.seg g).current = some k := by
    rw [current, Option.filter_eq_some_iff, bne_iff_ne, and_comm]
  by_cases is : k = i
  · subst is
    refine ⟨?_, fun d there => ?_, fun g cl => ?_, ?_, fun g => ?_, fun g => ?_⟩
    · rw [accepted, slot.accepted, own, job]; rfl
    · rw [own, Option.some.injEq] at there
      exact there ▸ (slot.jobs j job).ended .ok c
    · simp [lists, own, Job.ended, base.not_own]
    · simp [held, own, Job.ended]
    · simp [now, own, Job.ended, JobState.isCurrent]
    · rw [handed, slot.handed, job, own]
      simp only [Option.some.injEq, exists_eq_left', Job.ended, reduceCtorEq, false_and, and_false, iff_false, not_and]
      exact fun unnamed active => absurd (started active).symm unnamed
  by_cases released : k ∈ s.dependents i
  · obtain ⟨d, there, waits, wrote⟩ := dependent k released
    refine ⟨?_, fun p here => ?_, fun g cl => ?_, ?_, fun g => ?_, fun g => ?_⟩
    · rw [accepted, slot.accepted, wrote, there]; rfl
    · rw [wrote, Option.some.injEq] at here
      exact here ▸ (slot.jobs d there).queued waits
    · have out : k ∉ (s.seg g).classList cl := by rw [slot.lists, there]; simp [waits]
      simp [lists, wrote, out, released, there, Job.queued]
    · simp [held, wrote, released, Job.queued]
    · rw [now, slot.current, there, wrote]
      simp [waits, Job.queued, JobState.isCurrent]
    · rw [handed, slot.handed, there, wrote]
      simp [waits, Job.queued]
  have wrote := other k released is
  have stays {P : Job → Prop} (blind : ∀ (d : Job) pr, P { d with predecessor := pr } ↔ P d) :
      (∃ d, (s.endJob i .ok c).jobAt k = some d ∧ P d) ↔ ∃ d, s.jobAt k = some d ∧ P d := by
    rw [wrote]
    cases s.jobAt k with
    | none => simp
    | some d =>
      simp only [Option.map_some, Option.some.injEq, exists_eq_left']
      rw [Job.visited_eq]
      exact blind d _
  refine ⟨?_, fun p here => ?_, fun g cl => ?_, ?_, fun g => ?_, fun g => ?_⟩
  · rw [accepted, slot.accepted, wrote, Option.isSome_map]
  · obtain ⟨d, there, rfl⟩ := Option.map_eq_some_iff.mp (wrote.symm.trans here)
    rw [Job.visited_eq]
    exact (slot.jobs d there).withPredecessor _
  · rw [lists, stays (P := fun d => d.state = .queued ∧ d.segment = g ∧ d.cls = cl) fun _ _ => .rfl, ← slot.lists]
    simp [is, released]
  · rw [held, stays (P := fun d => d.state = .held) fun _ _ => .rfl, ← slot.held]
    exact and_iff_right ⟨is, released⟩
  · rw [now, stays (P := fun d => d.state.isCurrent = true ∧ d.segment = g) fun _ _ => .rfl, ← slot.current]
    exact and_iff_right is
  · rw [handed, slot.handed, stays (P := fun d => d.state = .active ∧ d.segment = g) fun _ _ => .rfl]

/-- After the end of a job OK, and the release of what waited on it, places and states agree again (R10, R15, R24). -/
theorem PlacesOff.endJob_ok (base : PlacesOff s o) (job : s.jobAt i = some j) (live : j.state ≠ .ended)
    (started : j.state = .active → o = some i) : PlacesOff (s.endJob i .ok c) o := by
  obtain ⟨own, dependent, other⟩ := State.endJob_ok_records (c := c) base job live
  obtain ⟨lists, heldSet, -, -⟩ := State.endJob_ok_stands (c := c) base job live
  refine .of_placed ⟨?_, fun g cl => ?_, ?_, fun e he d there => ?_, .endJob_ok base job live⟩
    (State.endJob_ok_placed base job live started)
  · rw [(State.CalmJobs.endJob s i .ok c).accepted]
    exact base.accepted.1
  · rw [lists]
    refine List.Nodup.append ((base.lists g cl).1.filter _) ((base.accepted.1.filter _).filter _) fun k hk released => ?_
    obtain ⟨d, there, queued, -⟩ := ((base.lists g cl).2 k).mp (List.mem_filter.mp hk).1
    obtain ⟨p, here, held, -⟩ := dependent k (List.mem_filter.mp released).1
    rw [there, Option.some.injEq] at here
    rw [here, held] at queued
    cases queued
  · rw [heldSet]
    exact base.held.1.sublist (List.filter_sublist.map _)
  · rw [heldSet] at he
    obtain ⟨mem, stays⟩ := List.mem_filter.mp he
    simp only [Bool.and_eq_true, bne_iff_ne, Bool.not_eq_true', List.contains_eq_mem, decide_eq_false_iff_not] at stays
    obtain ⟨p, before, rfl⟩ := Option.map_eq_some_iff.mp ((other _ stays.2 stays.1).symm.trans there)
    obtain ⟨q, here, held⟩ := (base.held.2 e.slot).mp (List.mem_map_of_mem mem)
    rw [before, Option.some.injEq] at here
    rw [Job.visited, if_neg fun staging => by simp [here, held] at staging]
    exact base.heldFor e mem p before

theorem PlacesOff.endJob (base : PlacesOff s o) (job : s.jobAt i = some j) (live : j.state ≠ .ended)
    (started : j.state = .active → o = some i) : PlacesOff (s.endJob i st c) o := by
  by_cases ok : st = .ok
  · subst ok
    exact base.endJob_ok job live started
  · exact base.endJob_failed job live ok started

end Slots

end Sys2Proof.Machine

/-!
Jobs accepted, placed, taken up by Dispatch, ended and freed: places and states agree after each.
-/

namespace Sys2Proof.Machine

/-! ### One job changes its place -/

/-- The record of one live job, and where it stands, have changed to those of `j'`; no other job has moved. -/
structure State.Moves (t s : State) (o : Option Slot) (i : Slot) (j' : Job) : Prop where
  own : t.jobAt i = some j'
  other : ∀ k, k ≠ i → t.jobAt k = s.jobAt k
  gen : ∀ k, t.genAt k = s.genAt k
  accepted : t.accepted = s.accepted
  lists : ∀ g c, ((t.seg g).classList c).Nodup
  held : (t.heldSet.map (·.slot)).Nodup
  heldFor : ∀ e ∈ t.heldSet, ∀ j, t.jobAt e.slot = some j → j.predecessor = .job e.predecessor
  elsewhere : ∀ k, k ≠ i → t.SamePlaces s k
  placed : t.Placed o i

section Moves

variable {s t : State} {o : Option Slot} {i : Slot} {j j' : Job}

theorem PlacesOff.moves (h : PlacesOff s o) (moved : t.Moves s o i j') (job : s.jobAt i = some j) (live : j'.state ≠ .ended)
    (waits : j'.state = .held ∨ j'.state = .staging →
      (j.state = .held ∨ j.state = .staging) ∧ j'.predecessor = j.predecessor) : PlacesOff t o := by
  have chain : AcceptedInOrder t := by
    refine h.chain.of_live moved.gen moved.accepted (fun k d there alive => ?_) fun k d id there waiting named => ?_
    · by_cases is : k = i
      · exact ⟨j', is ▸ moved.own, live⟩
      · exact ⟨d, (moved.other k is).trans there, alive⟩
    · by_cases is : k = i
      · subst is
        rw [moved.own, Option.some.injEq] at there
        subst there
        obtain ⟨waited, same⟩ := waits waiting
        exact ⟨j, job, waited, same ▸ named⟩
      · exact ⟨d, (moved.other k is).symm.trans there, waiting, named⟩
  refine .of_placed ⟨moved.accepted ▸ h.accepted.1, moved.lists, moved.held, moved.heldFor, chain⟩ fun k => ?_
  by_cases is : k = i
  · exact is ▸ moved.placed
  · exact (h.placed k).same (moved.elsewhere k is) (moved.other k is)

end Moves

/-! ### Placement -/

section Placement

variable {s : State} {o : Option Slot} {i : Slot} {j : Job} {g : Seg} {cl : JobClass}

/-- A job in STAGING stands in no list, in no held set, and is no segment's current job. -/
theorem PlacesOff.staging_nowhere (h : PlacesOff s o) (job : s.jobAt i = some j) (staging : j.state = .staging) :
    (∀ g cl, i ∉ (s.seg g).classList cl) ∧ i ∉ s.heldSet.map (·.slot) ∧ (∀ g, (s.seg g).current ≠ some i) ∧
      ∀ g, (s.seg g).handed ≠ some (.job i) := by
  obtain ⟨-, -, lists, held, current, handed⟩ := h.placed i
  simp only [job, Option.some.injEq, exists_eq_left'] at lists held current handed
  refine ⟨fun g cl => ?_, ?_, fun g => ?_, fun g => ?_⟩
  · rw [lists]; simp [staging]
  · rw [held]; simp [staging]
  · rw [ne_eq, current]; simp [staging, JobState.isCurrent]
  · rw [ne_eq, handed]; simp [staging]

/-- A record written, and one segment with it. -/
theorem State.modJob_modSeg_seg (s : State) (i : Slot) (f : Job → Job) (g k : Seg) (f' : Segment → Segment) :
    ((s.modJob i f).modSeg g f').seg k = if k = g then f' (s.seg g) else s.seg k := by
  split
  · next is => rw [is, State.seg_modSeg_self]; rfl
  · next other => rw [State.seg_modSeg_ne _ _ _ _ other]; rfl

/-- A job in STAGING becomes QUEUED at the tail of its list (R9, R21). -/
theorem PlacesOff.queue {f : Job → Job} (h : PlacesOff s o) (job : s.jobAt i = some j) (staging : j.state = .staging)
    (fine : JobOk (f j)) (queued : (f j).state = .queued) (segment : (f j).segment = j.segment) (cls : (f j).cls = j.cls) :
    PlacesOff ((s.modJob i f).modSeg j.segment (·.enqueue j.cls i)) o := by
  obtain ⟨lists, held, current, handed⟩ := h.staging_nowhere job staging
  have own : (s.modJob i f).jobAt i = some (f j) := by rw [State.jobAt_modJob_self, job]; rfl
  have seg (k : Seg) : ((s.modJob i f).modSeg j.segment (·.enqueue j.cls i)).seg k =
      if k = j.segment then (s.seg k).enqueue j.cls i else s.seg k := by
    rw [State.modJob_modSeg_seg]
    split
    · next is => rw [is]
    · rfl
  have list (k : Seg) (c : JobClass) : (((s.modJob i f).modSeg j.segment (·.enqueue j.cls i)).seg k).classList c =
      (s.seg k).classList c ++ if k = j.segment ∧ c = j.cls then [i] else [] := by
    rw [seg]
    by_cases on : k = j.segment
    · rw [if_pos on, Segment.enqueue_classList]
      by_cases same : c = j.cls <;> simp [on, same]
    · simp [on]
  have rest (k : Seg) : (((s.modJob i f).modSeg j.segment (·.enqueue j.cls i)).seg k).current = (s.seg k).current ∧
      (((s.modJob i f).modSeg j.segment (·.enqueue j.cls i)).seg k).handed = (s.seg k).handed := by
    rw [seg]
    split
    · rw [Segment.enqueue_eq]; exact ⟨rfl, rfl⟩
    · exact ⟨rfl, rfl⟩
  refine h.moves (j' := f j) ⟨own, fun k away => State.jobAt_modJob_ne _ _ _ _ away, fun k => State.genAt_modJob s i k f, rfl,
    fun k c => ?lists, h.held.1, fun e he d there => ?heldFor, fun k away => ?elsewhere, ?placed⟩ job (by simp [queued])
    (by simp [queued])
  case lists =>
    rw [list]
    split
    · exact (h.lists k c).1.append (List.nodup_singleton i) (by simpa using lists k c)
    · simpa using (h.lists k c).1
  case heldFor =>
    have away : e.slot ≠ i := fun is => held (is ▸ List.mem_map_of_mem he)
    exact h.heldFor e he d ((State.jobAt_modJob_ne s i _ f away).symm.trans there)
  case elsewhere =>
    refine ⟨.rfl, fun g c => ?_, .rfl, fun g => by rw [(rest g).1], fun g => by rw [(rest g).2]⟩
    rw [list]
    split <;> simp [away]
  case placed =>
    refine ⟨?_, fun d there => ?_, fun g c => ?_, ?_, fun g => ?_, fun g => ?_⟩
    · refine (h.accepted.2 i).trans ?_
      rw [job, State.modSeg_jobAt, own]
      rfl
    · exact Option.some.inj (own.symm.trans there) ▸ fine
    · rw [list, State.modSeg_jobAt, own]
      by_cases on : g = j.segment ∧ c = j.cls
      · simp [queued, segment, cls, on]
      · have off : ¬ (j.segment = g ∧ j.cls = c) := fun same => on ⟨same.1.symm, same.2.symm⟩
        simp [queued, segment, cls, on, off, lists]
    · rw [State.modSeg_jobAt, own]
      simpa [queued] using held
    · rw [(rest g).1, State.modSeg_jobAt, own]
      simp [queued, JobState.isCurrent, current]
    · rw [(rest g).2, State.modSeg_jobAt, own]
      simp [queued, handed]

/-- A job in STAGING becomes HELD under its predecessor (R9, R23). -/
theorem PlacesOff.hold {f : Job → Job} {id : JobId} (h : PlacesOff s o) (job : s.jobAt i = some j)
    (staging : j.state = .staging) (named : j.predecessor = .job id) (fine : JobOk (f j)) (held' : (f j).state = .held)
    (predecessor : (f j).predecessor = j.predecessor) :
    PlacesOff { s.modJob i f with heldSet := s.heldSet ++ [⟨i, id⟩] } o := by
  obtain ⟨lists, held, current, handed⟩ := h.staging_nowhere job staging
  have own : (s.modJob i f).jobAt i = some (f j) := by rw [State.jobAt_modJob_self, job]; rfl
  have slots : (s.heldSet ++ [(⟨i, id⟩ : HeldEntry)]).map HeldEntry.slot = s.heldSet.map (·.slot) ++ [i] := List.map_append
  refine h.moves (j' := f j) ⟨own, fun k away => State.jobAt_modJob_ne _ _ _ _ away, fun k => State.genAt_modJob s i k f, rfl,
    fun k c => (h.lists k c).1, ?held, fun e he d there => ?heldFor, fun k away => ?elsewhere, ?placed⟩ job (by simp [held'])
    fun _ => ⟨.inr staging, predecessor⟩
  case held =>
    rw [slots]
    exact h.held.1.append (List.nodup_singleton i) (by simpa using held)
  case heldFor =>
    rcases List.mem_append.mp he with before | last
    · have away : e.slot ≠ i := fun is => held (is ▸ List.mem_map_of_mem before)
      exact h.heldFor e before d ((State.jobAt_modJob_ne s i _ f away).symm.trans there)
    · rw [List.mem_singleton.mp last] at there ⊢
      rw [← Option.some.inj (own.symm.trans there), predecessor, named]
  case elsewhere =>
    refine ⟨.rfl, fun _ _ => .rfl, ?_, fun _ => .rfl, fun _ => .rfl⟩
    rw [slots]
    simp [away]
  case placed =>
    have is : State.jobAt { s.modJob i f with heldSet := s.heldSet ++ [⟨i, id⟩] } i = some (f j) := own
    refine ⟨?_, fun d there => ?_, fun g c => ?_, ?_, fun g => ?_, fun g => ?_⟩
    · refine (h.accepted.2 i).trans ?_
      rw [job, is]
      rfl
    · exact Option.some.inj (is.symm.trans there) ▸ fine
    · rw [is]
      exact iff_of_false (lists g c) (by simp [held'])
    · rw [is, slots]
      simp [held']
    · rw [is]
      exact iff_of_false (current g) (by simp [held', JobState.isCurrent])
    · rw [is]
      exact iff_of_false (handed g) (by simp [held'])

/-- What a selection does to the lists and to the current job (R31). -/
theorem Segment.selection_eq {sg : Segment} (taken : sg.selection = .select cl i) :
    sg.classList cl = i :: (sg.select cl i).classList cl ∧ (∀ c, c ≠ cl → (sg.select cl i).classList c = sg.classList c) ∧
      (sg.select cl i).current = some i ∧ (sg.select cl i).handed = sg.handed := by
  have first : ∃ rest, sg.classList cl = i :: rest := by
    unfold Segment.selection at taken
    repeat' split at taken
    all_goals cases taken
    all_goals exact ⟨_, ‹_›⟩
  obtain ⟨rest, list⟩ := first
  cases cl with
  | urgent =>
    have urgent : sg.urgent = i :: rest := list
    refine ⟨?_, fun c other => ?_, rfl, rfl⟩
    · simp [Segment.classList, Segment.select, urgent]
    · cases c with
      | urgent => exact absurd rfl other
      | routine => rfl
  | routine =>
    have routine : sg.routine = i :: rest := list
    refine ⟨?_, fun c other => ?_, rfl, rfl⟩
    · simp [Segment.classList, Segment.select, routine]
    · cases c with
      | urgent => rfl
      | routine => exact absurd rfl other

theorem JobOk.active {d : Job} (h : JobOk d) (alive : d.state = .queued ∨ d.state = .backoff) :
    JobOk { d with state := .active } := by
  have waits : d.state ≠ .ended ∧ d.state ≠ .staging := by rcases alive with st | st <;> simp [st]
  refine ⟨?_, by simp, ?_, h.staged, fun _ _ => h.complete waits.2 waits.1⟩
  · simpa [waits.1] using h.outcome
  · simpa [waits.2] using h.staging

/-- The job that Dispatch selects is QUEUED on its segment, at the head of the list (R21, R31). -/
theorem PlacesOk.selected (h : PlacesOk s) (taken : (s.seg g).selection = .select cl i) :
    ∃ j, s.jobAt i = some j ∧ j.state = .queued ∧ j.segment = g ∧ j.cls = cl := by
  obtain ⟨list, -⟩ := Segment.selection_eq taken
  exact ((h.lists g cl).2 i).mp (list ▸ List.mem_cons_self ..)

/-- The job selected becomes the current job of its segment (R31). -/
def State.selectJob (s : State) (g : Seg) (cl : JobClass) (i : Slot) : State :=
  (s.modSeg g (·.select cl i)).modJob i fun j => { j with state := .active }

theorem State.selectJob_seg (s : State) (g : Seg) (cl : JobClass) (i : Slot) (k : Seg) :
    (s.selectJob g cl i).seg k = if k = g then (s.seg k).select cl i else s.seg k := by
  rw [State.selectJob, State.modJob_seg]
  split
  · next is => rw [is, State.seg_modSeg_self]
  · next other => exact State.seg_modSeg_ne _ _ _ _ other

/-- The job selected leaves its list, and no other job does. -/
theorem PlacesOk.selectJob_lists (h : PlacesOk s) (taken : (s.seg g).selection = .select cl i) (k : Seg) (c : JobClass) :
    ((s.selectJob g cl i).seg k).classList c = ((s.seg k).classList c).filter (· != i) := by
  obtain ⟨j, job, queued, segment, cls⟩ := h.selected taken
  obtain ⟨list, others, -, -⟩ := Segment.selection_eq taken
  have elsewhere (away : ¬ (k = g ∧ c = cl)) : i ∉ (s.seg k).classList c := by
    intro mem
    obtain ⟨d, there, -, on, of⟩ := ((h.lists k c).2 i).mp mem
    rw [job, Option.some.injEq] at there
    exact away ⟨by rw [← on, ← there, segment], by rw [← of, ← there, cls]⟩
  rw [State.selectJob_seg]
  by_cases on : k = g
  · rw [if_pos on]
    by_cases of : c = cl
    · subst on of
      have alone := (h.lists k c).1
      rw [list, List.nodup_cons] at alone
      rw [list, List.filter_cons_of_neg (by simp), ← filter_ne_of_not_mem alone.1]
    · rw [on, others c of, ← filter_ne_of_not_mem (on ▸ elsewhere fun both => of both.2)]
  · rw [if_neg on, ← filter_ne_of_not_mem (elsewhere fun both => on both.1)]

/-- A job selected stands with its attempt not handed yet (R31, R32). -/
theorem PlacesOk.selectJob (h : PlacesOk s) (taken : (s.seg g).selection = .select cl i) (free : (s.seg g).current = none) :
    PlacesOff (s.selectJob g cl i) (some i) := by
  obtain ⟨j, job, queued, segment, -⟩ := h.selected taken
  have lists := h.selectJob_lists taken
  have base := h.naming (i := i) fun d there => by
    rw [job, Option.some.injEq] at there
    simp [← there, queued]
  have slot := base.placed i
  have own : (s.selectJob g cl i).jobAt i = some { j with state := .active } := by
    rw [State.selectJob, State.jobAt_modJob_self, State.modSeg_jobAt, job]
    rfl
  have other (k : Slot) (away : k ≠ i) : (s.selectJob g cl i).jobAt k = s.jobAt k :=
    (State.jobAt_modJob_ne _ _ _ _ away).trans rfl
  have current (k : Seg) : ((s.selectJob g cl i).seg k).current = if k = g then some i else (s.seg k).current := by
    rw [State.selectJob_seg]
    split
    · next is => rw [is, (Segment.selection_eq taken).2.2.1]
    · rfl
  have handed (k : Seg) : ((s.selectJob g cl i).seg k).handed = (s.seg k).handed := by
    rw [State.selectJob_seg]
    split
    · next is => rw [is, (Segment.selection_eq taken).2.2.2]
    · rfl
  have outside : i ∉ s.heldSet.map (·.slot) := by
    rw [slot.held, job]
    simp [queued]
  refine base.moves (j' := { j with state := .active }) ⟨own, other, fun k => State.genAt_modJob (s.modSeg g _) i k _, rfl,
    fun k c => ?lists, h.held.1, fun e he d there => ?heldFor, fun k away => ?elsewhere, ?placed⟩ job (by simp) (by simp)
  case lists =>
    rw [lists]
    exact (h.lists k c).1.filter _
  case heldFor =>
    have away : e.slot ≠ i := fun is => outside (is ▸ List.mem_map_of_mem he)
    exact h.heldFor e he d ((other _ away).symm.trans there)
  case elsewhere =>
    refine ⟨.rfl, fun f c => ?_, .rfl, fun f => ?_, fun f => by rw [handed]⟩
    · rw [lists]
      simp [away]
    · rw [current]
      split
      · next is => rw [is, free]; simp [Ne.symm away]
      · rfl
  case placed =>
    refine ⟨?_, fun d there => ?_, fun f c => ?_, ?_, fun f => ?_, fun f => ?_⟩
    · refine (h.accepted.2 i).trans ?_
      rw [own, job]
      rfl
    · rw [own, Option.some.injEq] at there
      exact there ▸ (h.jobs i j job).active (.inl queued)
    · rw [lists, own]
      simp
    · rw [own]
      exact iff_of_false outside (by simp)
    · rw [current, own]
      simp only [Option.some.injEq, exists_eq_left', JobState.isCurrent, segment]
      split
      · next is => simp [is]
      · next away =>
        rw [slot.current, job]
        simp [queued, JobState.isCurrent, Ne.symm away]
    · rw [handed, slot.handed]
      simp

end Placement

end Sys2Proof.Machine

/-!
Jobs accepted, placed, ended and freed: places and states agree after each.
-/

namespace Sys2Proof.Machine

section Ends

variable {s t : State} {o : Option Slot} {i : Slot} {j : Job} {st : EndStatus} {c : EndCounts} {g : Seg}

/-! ### Ends -/

/-- The job itself has ended. -/
theorem State.endJob_jobAt_self (base : PlacesOff s o) (job : s.jobAt i = some j) (live : j.state ≠ .ended) :
    (s.endJob i st c).jobAt i = some (j.ended st c) := by
  by_cases ok : st = .ok
  · subst ok
    exact (State.endJob_ok_records base job live).1
  · obtain ⟨_, -, -, -, -, -, own, -⟩ := State.endJob_failed (c := c) base job live ok
    exact own

/-- The end of a job whose attempt is not handed, or no longer. -/
theorem PlacesOff.endJob_done (base : PlacesOff s (some i)) (job : s.jobAt i = some j) (live : j.state ≠ .ended) :
    PlacesOk (s.endJob i st c) := by
  refine (base.endJob job live fun _ => rfl).ok fun k d named there => ?_
  rw [← Option.some.inj named, State.endJob_jobAt_self base job live, Option.some.injEq] at there
  simp [← there, Job.ended]

/-- The end of a job that has no attempt. -/
theorem PlacesOk.endJob (h : PlacesOk s) (job : s.jobAt i = some j) (live : j.state ≠ .ended) (rests : j.state ≠ .active) :
    PlacesOk (s.endJob i st c) :=
  (h.off.endJob job live fun active => absurd active rests).all

/-- A request or an event ends a job, whatever its state but ACTIVE; one that has ended is left (R15). -/
theorem PlacesOk.endJob_any (h : PlacesOk s) (failed : st ≠ .ok) (rests : ∀ j, s.jobAt i = some j → j.state ≠ .active) :
    PlacesOk (s.endJob i st c) := by
  cases job : s.jobAt i with
  | none =>
    have same : s.endOne i st c = s := by simp only [State.endOne, job]
    rw [State.endJob, if_neg failed, same, h.cascade]
    exact h
  | some j =>
    by_cases ended : j.state = .ended
    · rw [h.endJob_ended job ended failed]
      exact h
    · exact h.endJob job ended (rests j job)

/-! ### Placement -/

/-- A change of a record in STAGING is lost in the end of its job. -/
theorem State.endJob_modJob {f : Job → Job} (job : s.jobAt i = some j) (staging : j.state = .staging)
    (same : (f j).state = .staging) (ended : (f j).ended st c = j.ended st c) :
    (s.modJob i f).endJob i st c = s.endJob i st c := by
  have own : (s.modJob i f).jobAt i = some (f j) := by rw [State.jobAt_modJob_self, job]; rfl
  have id : (s.modJob i f).idAt i = s.idAt i := by rw [State.idAt, State.idAt, State.genAt_modJob]
  have writes : (s.modJob i f).endWrites i (f j) st c = s.endWrites i j st c := by
    rw [State.endWrites, State.endWrites, id]
    simp only [State.leavePlace, staging, same, ended, State.modJob, State.putJob_putJob]
  have one : (s.modJob i f).endOne i st c = s.endOne i st c := by
    rw [State.endOne_eq own (by simp [same]), State.endOne_eq job (by simp [staging]), writes]
  rw [State.endJob, State.endJob, one, id]

/-- A job in STAGING whose data is complete is placed (R9). -/
theorem PlacesOk.placeJob (h : PlacesOk s) (job : s.jobAt i = some j) (staging : j.state = .staging)
    (all : j.staged = j.writeTotal) : PlacesOk (s.placeJob i) := by
  have fine := h.jobs i j job
  have open' : j.outcome.isSome = false := by simpa [staging] using fine.outcome
  cases place : (s.modJob i fun j => { j with stagingTimer := none }).placement j with
  | queue =>
    rw [State.placeJob_queue job place]
    refine PlacesOk.stand ?_ (.markChoice _ _)
    refine (h.off.queue job staging ⟨?_, by simp, by simp, fine.staged, fun _ _ => all⟩ rfl rfl rfl).all
    simp [open']
  | hold id =>
    have named : j.predecessor = .job id := by
      unfold State.placement at place
      split at place
      · cases place
      · cases place
      · next named => split at place; cases place; exact named; split at place <;> cases place
    rw [State.placeJob_hold job place]
    refine (h.off.hold job staging named ⟨?_, by simp, by simp, fine.staged, fun _ _ => all⟩ rfl rfl).all
    simp [open']
  | fail =>
    rw [State.placeJob_fail job place, State.endJob_modJob job staging staging rfl]
    exact h.endJob job (by simp [staging]) (by simp [staging])

theorem PlacesOk.placeIfComplete (h : PlacesOk s) (job : s.jobAt i = some j) (staging : j.state = .staging) :
    PlacesOk (s.placeIfComplete i) := by
  by_cases all : j.staged = j.writeTotal
  · rw [State.placeIfComplete_complete job all]
    exact h.placeJob job staging all
  · rw [State.placeIfComplete_incomplete job all]
    have fine := h.jobs i j job
    refine (h.off.restate job ⟨fine.outcome, ?_, ?_, fine.staged, fine.complete⟩ rfl rfl (.inl ⟨rfl, rfl⟩)).all
    · simp [staging]
    · simp [staging]

/-! ### A slot is taken, or freed -/

/-- The bytes stored (R11). -/
theorem PlacesOk.stage {data : List Byte} (h : PlacesOk s) (job : s.jobAt i = some j) (staging : j.state = .staging)
    (fits : j.staged + data.length ≤ j.writeTotal) : PlacesOk (s.modJob i (·.stage data)) := by
  have fine := h.jobs i j job
  refine (h.off.restate job ⟨fine.outcome, fine.timers, fine.staging, ⟨?_, fits⟩, ?_⟩ rfl rfl (.inl ⟨rfl, rfl⟩)).all
  · simp [Job.stage, fine.staged.1]
  · exact fun other => absurd staging other

/-- The record of a job accepted agrees with its state (R8). -/
theorem JobOk.newJob {body : List Byte} {r : SubmitReq} (req : submitReqOf body = some r) (t : Target) (p : Predecessor) :
    JobOk (newJob r t g p) := by
  obtain ⟨-, -, -, -, -, -, -, -, -, -, -, fits⟩ := submitReqOf_eq_some_iff.mp req
  exact ⟨by simp [Machine.newJob], by simp [Machine.newJob], by simp [Machine.newJob], ⟨rfl, Nat.not_lt.mp fits⟩,
    fun other => absurd rfl other⟩

/-- A predecessor recorded has not ended (R7). -/
theorem State.recordedPredecessor_live {p : Option JobId} {id : JobId} (named : s.recordedPredecessor p = .job id) :
    s.liveId id = true := by
  unfold State.recordedPredecessor at named
  split at named
  · cases named
  · split at named
    · next live => cases named; exact live
    · cases named

/-- A job accepted stands in STAGING, after those accepted before it (R8). -/
theorem PlacesOk.takeSlot (h : PlacesOk s) (free : s.jobAt i = none) (fine : JobOk j) (staging : j.state = .staging)
    (below : ∀ id, j.predecessor = .job id → s.liveId id = true) : PlacesOk (s.takeSlot i j) := by
  have own : (s.takeSlot i j).jobAt i = some j := s.takeSlot_jobAt_self i j
  have other (k : Slot) (away : k ≠ i) : (s.takeSlot i j).jobAt k = s.jobAt k := s.takeSlot_jobAt_ne j away
  have slot := h.off.placed i
  have new : i ∉ s.accepted := by simp [slot.accepted, free]
  have outside : i ∉ s.heldSet.map (·.slot) := by simp [slot.held, free]
  have named {id : JobId} (live : s.liveId id = true) : id.slot ≠ i ∧ (s.takeSlot i j).liveId id = true ∧
      id.slot ∈ s.accepted := by
    obtain ⟨gen, p, there, alive⟩ := (s.liveId_iff id).mp live
    have away : id.slot ≠ i := by
      intro is
      rw [is, free] at there
      cases there
    exact ⟨away, ((s.takeSlot i j).liveId_iff id).mpr ⟨(s.takeSlot_genAt_ne j away).trans gen, p, (other _ away).trans there,
      alive⟩, h.off.mem_accepted there⟩
  have chain : AcceptedInOrder (s.takeSlot i j) := by
    intro k d id there waits predecessor
    by_cases is : k = i
    · subst is
      rw [own, Option.some.injEq] at there
      obtain ⟨away, live, mem⟩ := named (below id (there ▸ predecessor))
      refine ⟨live, ?_⟩
      show (s.accepted ++ [k]).idxOf id.slot < (s.accepted ++ [k]).idxOf k
      rw [List.idxOf_append_of_mem mem, List.idxOf_append_of_notMem new]
      exact Nat.lt_of_lt_of_le (List.idxOf_lt_length_of_mem mem) (Nat.le_add_right _ _)
    · rw [other k is] at there
      obtain ⟨live, order⟩ := h.chain k d id there waits predecessor
      obtain ⟨away, live, mem⟩ := named live
      refine ⟨live, ?_⟩
      show (s.accepted ++ [i]).idxOf id.slot < (s.accepted ++ [i]).idxOf k
      rwa [List.idxOf_append_of_mem mem, List.idxOf_append_of_mem (h.off.mem_accepted there)]
  refine (PlacesOff.of_placed (s := s.takeSlot i j) (o := none) ⟨?_, fun g c => (h.lists g c).1, h.held.1,
    fun e he d there => ?_, chain⟩ fun k => ?_).all
  · exact h.accepted.1.append (List.nodup_singleton i) (by simpa using new)
  · have away : e.slot ≠ i := fun is => outside (is ▸ List.mem_map_of_mem he)
    exact h.heldFor e he d ((other _ away).symm.trans there)
  · by_cases is : k = i
    · subst is
      refine ⟨?_, fun d there => ?_, fun g c => (slot.lists g c).trans ?_, slot.held.trans ?_, fun g => (slot.current g).trans ?_,
        fun g => (slot.handed g).trans ?_⟩
      · rw [own]
        simp [State.takeSlot]
      · rw [own, Option.some.injEq] at there
        exact there ▸ fine
      all_goals
        rw [own, free]
        simp [staging, JobState.isCurrent]
    · refine (h.off.placed k).same ⟨?_, fun _ _ => .rfl, .rfl, fun _ => .rfl, fun _ => .rfl⟩ (other k is)
      simp [State.takeSlot, is]

/-- An order in a list is that in what is left of it. -/
theorem idxOf_filter_lt {l : List Slot} {p : Slot → Bool} {a b : Slot} (ha : p a = true) (hb : p b = true)
    (order : l.idxOf a < l.idxOf b) : (l.filter p).idxOf a < (l.filter p).idxOf b := by
  induction l with
  | nil => simp at order
  | cons x l ih =>
    by_cases first : x = a
    · subst first
      have apart : x ≠ b := by
        rintro rfl
        exact Nat.lt_irrefl _ order
      rw [List.filter_cons_of_pos ha, List.idxOf_cons_self, List.idxOf_cons_ne _ apart]
      exact Nat.succ_pos _
    · by_cases second : x = b
      · subst second
        rw [List.idxOf_cons_self] at order
        exact absurd order (Nat.not_lt_zero _)
      · rw [List.idxOf_cons_ne _ first, List.idxOf_cons_ne _ second] at order
        have rest := ih (Nat.lt_of_succ_lt_succ order)
        by_cases keep : p x = true
        · rw [List.filter_cons_of_pos keep, List.idxOf_cons_ne _ first, List.idxOf_cons_ne _ second]
          exact Nat.succ_lt_succ rest
        · rwa [List.filter_cons_of_neg keep]

/-- The slot of a job that has ended becomes FREE (R16). -/
theorem PlacesOk.freeSlot (h : PlacesOk s) (i : Slot) : PlacesOk (s.freeSlot i) := by
  cases job : s.jobAt i with
  | none =>
    have same : s.freeSlot i = s := by simp only [State.freeSlot, job]
    rwa [same]
  | some j =>
    by_cases ended : j.state = .ended
    · have freed : s.freeSlot i = { s.putJob i none with
          poolFree := s.poolFree + j.blocksHeld, accepted := s.accepted.filter (· != i) } := by
        simp only [State.freeSlot, job, if_pos ended]
      have own : (s.freeSlot i).jobAt i = none := by rw [freed]; exact State.jobAt_putJob_self _ _ _
      have other (k : Slot) (away : k ≠ i) : (s.freeSlot i).jobAt k = s.jobAt k := by
        rw [freed]; exact State.jobAt_putJob_ne _ _ _ _ away
      have gen (k : Slot) : (s.freeSlot i).genAt k = s.genAt k := by rw [freed]; exact State.genAt_putJob _ _ _ _
      have accepted : (s.freeSlot i).accepted = s.accepted.filter (· != i) := by rw [freed]
      have seg (g : Seg) : (s.freeSlot i).seg g = s.seg g := by rw [freed]; rfl
      have heldSet : (s.freeSlot i).heldSet = s.heldSet := by rw [freed]; rfl
      have slot := h.off.placed i
      have chain : AcceptedInOrder (s.freeSlot i) := by
        intro k d id there waits predecessor
        have is : k ≠ i := by
          rintro rfl
          rw [own] at there
          cases there
        rw [other k is] at there
        obtain ⟨live, order⟩ := h.chain k d id there waits predecessor
        obtain ⟨same, p, below, alive⟩ := (s.liveId_iff id).mp live
        have away : id.slot ≠ i := by
          intro e
          rw [e, job, Option.some.injEq] at below
          exact alive (below ▸ ended)
        refine ⟨((s.freeSlot i).liveId_iff id).mpr ⟨(gen _).trans same, p, (other _ away).trans below, alive⟩, ?_⟩
        rw [accepted]
        exact idxOf_filter_lt (by simpa using away) (by simpa using is) order
      refine (PlacesOff.of_placed (o := none) ⟨?_, fun g c => ?_, ?_, fun e he d there => ?_, chain⟩ fun k => ?_).all
      · rw [accepted]; exact h.accepted.1.filter _
      · rw [seg]; exact (h.lists g c).1
      · rw [heldSet]; exact h.held.1
      · have away : e.slot ≠ i := by
          intro e
          rw [e, own] at there
          cases there
        exact h.heldFor e (heldSet ▸ he) d ((other _ away).symm.trans there)
      · by_cases is : k = i
        · subst is
          obtain ⟨-, -, lists, held, current, handed⟩ := slot
          simp only [job, Option.some.injEq, exists_eq_left', ended] at lists held current handed
          refine ⟨by simp [accepted, own], by simp [own], fun g c => ?_, ?_, fun g => ?_, fun g => ?_⟩
          · rw [seg, lists, own]; simp
          · rw [heldSet, held, own]; simp
          · rw [seg, current, own]; simp [JobState.isCurrent]
          · rw [seg, handed, own]; simp
        · refine (h.off.placed k).same ⟨by simp [accepted, is], fun g c => ?_, ?_, fun g => ?_, fun g => ?_⟩ (other k is)
          · rw [seg]
          · rw [heldSet]
          · rw [seg]
          · rw [seg]
    · have same : s.freeSlot i = s := by simp only [State.freeSlot, job, if_neg ended]
      rwa [same]

end Ends

end Sys2Proof.Machine

/-!
What is handed, and the attempts of jobs: places and states agree after each choice, start, end and abandonment.
-/

namespace Sys2Proof.Machine

section Attempts

variable {s u : State} {i : Slot} {j : Job} {g : Seg} {st : EndStatus} {c : EndCounts}

/-! ### What is handed, and nothing else, changes -/

/-- A change of one segment that leaves its places but for what is handed. -/
theorem State.JobsStand.rehand (s : State) (g : Seg) {f : Segment → Segment} {x : Option Activity}
    (h : (f (s.seg g)).places = ({ s.seg g with handed := x } : Segment).places) :
    (s.modSeg g f).JobsStand (s.withHanded g x) := by
  refine ⟨rfl, rfl, rfl, fun k => ?_⟩
  by_cases is : k = g
  · rw [is, State.withHanded, State.seg_modSeg_self, State.seg_modSeg_self]
    exact h
  · rw [State.withHanded, State.seg_modSeg_ne _ _ _ _ is, State.seg_modSeg_ne _ _ _ _ is]

theorem State.JobsStand.abandonWait (s : State) (g : Seg) : (s.abandonWait g).JobsStand (s.withHanded g none) := by
  unfold State.abandonWait
  split
  · exact (State.JobsStand.markChoice _ g).trans (.rehand s g rfl)
  · exact .rehand s g rfl

theorem State.JobsStand.leaveBus (s : State) (g : Seg) (w : TxWay) : (s.leaveBus g w).JobsStand (s.withHanded g none) := by
  have left : (s.modSeg g (·.afterWay w)).JobsStand (s.withHanded g none) := by
    refine .rehand s g ?_
    cases w <;> simp only [Segment.afterWay, seeStop_eq] <;> rfl
  unfold State.leaveBus
  simp only
  split
  · exact (State.JobsStand.markChoice _ g).trans ((State.JobsStand.addressSeen _ g _).trans left)
  · exact (State.JobsStand.markChoice _ g).trans left

theorem State.JobsStand.handActivity (s : State) (g : Seg) (a : Activity) :
    (s.handActivity g a).JobsStand (s.withHanded g (some a)) :=
  .rehand s g (Segment.driveStart_places _)

/-! ### The end of an attempt -/

theorem JobOk.backoff {d : Job} (h : JobOk d) (active : d.state = .active) : JobOk { d with state := .backoff } := by
  refine ⟨?_, by simp, ?_, h.staged, fun _ _ => h.complete (by simp [active]) (by simp [active])⟩
  · simpa [active] using h.outcome
  · simpa [active] using h.staging

/-- The Job Table takes the result of an attempt that has left the bus (R74, R76). -/
theorem PlacesOff.jobOutcome (base : PlacesOff s (some i)) (job : s.jobAt i = some j) (active : j.state = .active)
    (r : TxRun) (w : TxWay) : PlacesOk (s.jobOutcome g i r w) := by
  have told := State.Calm.presenceAck s j r
  have base := base.stand told.jobsStand
  have job' : (s.presenceAck j r).jobAt i = some j := (told.jobsStand.jobAt i).trans job
  have ends (st : EndStatus) (c : EndCounts) : PlacesOk ((s.presenceAck j r).endAttempt i j st c) :=
    (base.endJob_done job' (by simp [active])).stand (State.Calm.presenceMiss _ j st).jobsStand
  unfold State.jobOutcome
  simp only [job]
  repeat' split
  · exact ends _ _
  · exact ends _ _
  · have waits := base.restate (f := fun d => { d with state := .backoff }) job' ((base.jobs i j job').backoff active) rfl rfl
      (.inr ⟨rfl, by rw [active]; rfl, rfl⟩)
    refine PlacesOk.stand (waits.ok fun k d named there => ?_) (.modSeg _ g rfl)
    rw [← Option.some.inj named, State.jobAt_modJob_self, job', Option.map_some, Option.some.injEq] at there
    simp [← there]

/-- The attempt of a job is dropped, however, and the job is still ACTIVE. -/
theorem PlacesOk.dropped (h : PlacesOk s) (handed : (s.seg g).handed = some (.job i)) (left : u.JobsStand (s.withHanded g none)) :
    PlacesOff u (some i) ∧ ∃ j, u.jobAt i = some j ∧ j.state = .active ∧ j.segment = g := by
  obtain ⟨j, job, stands⟩ := (h.handed g i).mp handed
  exact ⟨(h.drop handed).stand left, j, (left.jobAt i).trans job, stands⟩

/-- Another activity than a job's attempt is handed no more. -/
theorem PlacesOk.droppedOther (h : PlacesOk s) (other : ∀ k, (s.seg g).handed ≠ some (.job k))
    (left : u.JobsStand (s.withHanded g none)) : PlacesOk u := (h.withOther other fun _ => by simp).stand left

theorem PlacesOk.attemptEnds (h : PlacesOk s) (bus : List BusAnswer) (stopMade : Bool) : PlacesOk (attemptEnds g bus stopMade s) := by
  unfold Machine.attemptEnds
  split
  · next i handed =>
    split
    · obtain ⟨base, j, job, active, -⟩ := h.dropped handed (.leaveBus s g _)
      exact base.jobOutcome job active _ _
    · exact h.stand (State.Calm.attemptGoesOn s g _ bus).jobsStand
  · exact h

theorem PlacesOk.cancelReaches (h : PlacesOk s) (bus : List BusAnswer) (next : Option BusAnswer) (stopMade : Bool) :
    PlacesOk (cancelReaches g bus next stopMade s) := by
  unfold Machine.cancelReaches
  split
  · next i handed =>
    repeat' split
    · obtain ⟨base, j, job, active, -⟩ := h.dropped handed (.leaveBus s g _)
      exact base.jobOutcome job active _ _
    all_goals exact h
  · exact h

theorem PlacesOk.probeEnds (h : PlacesOk s) (bus : List BusAnswer) (stopMade : Bool) : PlacesOk (probeEnds g bus stopMade s) := by
  unfold Machine.probeEnds
  split
  · next handed =>
    split
    · exact (h.droppedOther (by simp [handed]) (.leaveBus s g _)).stand (State.Calm.probeOutcome _ g _ _ _).jobsStand
    · exact h
  · exact h

/-- A transaction that ends is that of the activity handed. -/
theorem State.txEnd_handed {a : Activity} {bus : List BusAnswer} {stopMade : Bool} {run : TxRun × TxWay}
    (ends : s.txEnd g a bus stopMade = some run) : (s.seg g).handed = some a := by
  unfold State.txEnd at ends
  split at ends
  · next runs => exact runs.2
  · cases ends

theorem PlacesOk.queryEnds (h : PlacesOk s) (bus : List BusAnswer) (stopMade : Bool) : PlacesOk (queryEnds g bus stopMade s) := by
  unfold Machine.queryEnds
  split
  · next r w ends =>
    have left := h.droppedOther (by simp [State.txEnd_handed ends]) (.leaveBus s g w)
    exact left.stand (State.Calm.noticeOutcome _ g _ _).jobsStand
  · exact h

theorem PlacesOk.enrolEnds (h : PlacesOk s) (st : SweepState) (bus : List BusAnswer) (stopMade : Bool) :
    PlacesOk (s.enrolEnds st g bus stopMade) := by
  unfold State.enrolEnds
  repeat' split
  · next r w ends =>
    have left := h.droppedOther (by simp [State.txEnd_handed ends]) (.leaveBus s g w)
    exact left.stand (State.CalmEnrol.engineOutcome _ g _ _ _).jobsStand
  all_goals exact h

/-! ### Cancels, deadlines and faults -/

/-- An attempt that waits is abandoned, and its job ends (R80). -/
theorem PlacesOk.endWaiting (h : PlacesOk s) (waits : (s.seg g).waits i = true) : PlacesOk (s.endWaiting g i st) := by
  have handed : (s.seg g).handed = some (.job i) := by
    simp only [Segment.waits, Bool.and_eq_true, beq_iff_eq] at waits
    exact waits.1
  obtain ⟨base, j, job, active, -⟩ := h.dropped handed (.abandonWait s g)
  exact base.endJob_done job (by simp [active])

/-- A flag of an ACTIVE job is set. -/
theorem PlacesOk.flag {f : Job → Job} (h : PlacesOk s) (job : s.jobAt i = some j) (fine : JobOk (f j))
    (segment : (f j).segment = j.segment) (cls : (f j).cls = j.cls) (state : (f j).state = j.state)
    (predecessor : (f j).predecessor = j.predecessor) : PlacesOk (s.modJob i f) :=
  (h.off.restate job fine segment cls (.inl ⟨state, predecessor⟩)).all

theorem PlacesOk.cancelJob (h : PlacesOk s) (job : s.jobAt i = some j) (live : j.state ≠ .ended) : PlacesOk (s.cancelJob i j) := by
  have fine := h.jobs i j job
  have marked : PlacesOk (s.modJob i fun j => { j with cancelPending := true }) :=
    h.flag job ⟨fine.outcome, fine.timers, fine.staging, fine.staged, fine.complete⟩ rfl rfl rfl rfl
  unfold State.cancelJob
  split
  · simp only
    split
    · next waits => exact marked.endWaiting waits
    · exact marked
  · next rests => exact h.endJob job live rests

theorem PlacesOk.stagingExpires (h : PlacesOk s) (i : Slot) : PlacesOk (stagingExpires i s) := by
  unfold Machine.stagingExpires
  repeat' split
  · exact h
  · next j job expires => exact h.endJob job (by simp [expires.1]) (by simp [expires.1])
  · exact h

theorem PlacesOk.deadlineExpires (h : PlacesOk s) (i : Slot) : PlacesOk (deadlineExpires i s) := by
  unfold Machine.deadlineExpires
  split
  · exact h
  · next j job =>
    have fine := h.jobs i j job
    split
    · next runs =>
      have live : j.state ≠ .ended := fun ended => by simp [(fine.timers ended).1] at runs
      unfold State.deadlineReaches
      split
      · next active =>
        split
        · next waits => exact h.endWaiting waits
        · refine h.flag job ⟨fine.outcome, fun ended => absurd ended live, fine.staging, fine.staged, fine.complete⟩ rfl rfl rfl rfl
      · next rests => exact h.endJob job live rests
    · exact h

/-- The result of another activity than a job's attempt moves no job. -/
theorem State.JobsStand.activityOutcome (s : State) (g : Seg) {a : Activity} (other : ∀ i, a ≠ .job i) (r : TxRun) (w : TxWay)
    (eighth : Bool) : (s.activityOutcome g a r w eighth).JobsStand s := by
  cases a with
  | job i => exact absurd rfl (other i)
  | notice => exact (State.Calm.noticeOutcome s g r w).jobsStand
  | enrol => exact (State.CalmEnrol.engineOutcome s g r w eighth).jobsStand
  | probe entry addr => exact (State.Calm.probeOutcome s g entry addr w).jobsStand

theorem PlacesOk.faultActivity (h : PlacesOk s) (cut : BusCut) : PlacesOk (s.faultActivity g cut) := by
  unfold State.faultActivity
  split
  · exact h
  · next a handed =>
    have left : (s.modSeg g fun sg => { sg with handed := none, stretch := none }).JobsStand (s.withHanded g none) :=
      .rehand s g rfl
    cases a with
    | job i =>
      obtain ⟨base, j, job, active, -⟩ := h.dropped handed left
      exact base.jobOutcome (g := g) job active (s.runSoFar g (.job i) cut) (.busFault false)
    | notice | enrol | probe =>
      exact (h.droppedOther (by simp [handed]) left).stand (.activityOutcome _ g (by simp) _ _ _)

theorem State.JobsStand.passTo (s : State) (g : Seg) (sc : ScState) : (s.passTo g sc).JobsStand s := .modSeg s g rfl

theorem PlacesOk.enterFault (h : PlacesOk s) (line : BusLine) (cut : BusCut) : PlacesOk (s.enterFault g line cut) :=
  (h.faultActivity cut).stand ((State.Calm.claimFault _ g _).jobsStand.trans
    ((State.JobsStand.abandonService _ g _).trans (.passTo _ g .fault)))

theorem PlacesOk.enterRecovering (h : PlacesOk s) (cut : BusCut) : PlacesOk (s.enterRecovering g cut) := by
  have passed (u : State) : ((u.passTo g .recovering).abandonService g cut.sent).JobsStand u :=
    (State.JobsStand.abandonService _ g _).trans (.passTo u g .recovering)
  unfold State.enterRecovering
  simp only
  split
  · exact (h.faultActivity cut).stand (passed _)
  · exact h.stand (passed _)

theorem PlacesOk.stuckDetected (h : PlacesOk s) (line : BusLine) (cut : BusCut) : PlacesOk (stuckDetected g line cut s) := by
  have stuck : PlacesOk (s.modSeg g fun sg => { sg with monitor := .stuck, stopSeen := false }) := h.stand (.modSeg s g rfl)
  unfold Machine.stuckDetected
  simp only
  repeat' split
  · exact stuck
  · exact stuck
  · exact stuck
  · exact stuck.enterFault _ cut
  · exact stuck.enterRecovering cut
  · exact h

theorem PlacesOk.recoveryEnds (h : PlacesOk s) (pulses : List RecoveryPulse) : PlacesOk (recoveryEnds g pulses s) := by
  unfold Machine.recoveryEnds
  repeat' split
  · next r _ =>
    have watched : PlacesOk (s.modSeg g (·.recoveryWatched pulses r)) := h.stand (.recoveryWatched s g pulses r)
    cases r with
    | stopMade => exact watched.stand (.recovered _ g)
    | dataHeld => exact watched.enterFault .data _
    | clockHeld => exact watched.enterFault .clock _
  · exact h
  · exact h

/-! ### Choices -/

/-- The attempt of a job taken up is resolved, and handed or ended (R65). -/
theorem PlacesOff.handAttempt (base : PlacesOff s (some i)) (job : s.jobAt i = some j) (active : j.state = .active)
    (segment : j.segment = g) (free : (s.seg g).handed = none) : PlacesOk (s.handAttempt g i) := by
  subst segment
  unfold State.handAttempt
  simp only [job]
  split
  · exact (base.endJob_done job (by simp [active])).stand (.markChoice _ _)
  · next a _ =>
    have fine := base.jobs i j job
    have resolved := base.restate (f := fun j => { j with attempts := j.attempts + 1, resolved := some a }) job
      ⟨fine.outcome, fine.timers, fine.staging, fine.staged, fine.complete⟩ rfl rfl (.inl ⟨rfl, rfl⟩)
    refine PlacesOk.stand ?_ (.handActivity _ _ _)
    exact resolved.hand (j := { j with attempts := j.attempts + 1, resolved := some a })
      (by rw [State.jobAt_modJob_self, job]; rfl) active free

/-- The current job in BACKOFF is taken up again (R30, R37). -/
theorem PlacesOk.resume (h : PlacesOk s) (current : (s.seg g).current = some i) (job : s.jobAt i = some j)
    (backoff : j.state = .backoff) (free : (s.seg g).handed = none) : PlacesOk (s.handWork g (.resume i)) := by
  have base := (h.naming (i := i) fun d there => by
    rw [job, Option.some.injEq] at there
    simp [← there, backoff]).restate (f := fun j => { j with state := .active }) job ((h.jobs i j job).active (.inr backoff)) rfl rfl
      (.inr ⟨rfl, by rw [backoff]; rfl, rfl⟩)
  obtain ⟨d, there, -, segment⟩ := (h.current g i).mp current
  rw [job, Option.some.injEq] at there
  have stands : ((s.modJob i fun j => { j with state := .active }).modSeg g fun sg => { sg with backoffExpired := false }).JobsStand
      (s.modJob i fun j => { j with state := .active }) := .modSeg _ g rfl
  refine (base.stand stands).handAttempt (j := { j with state := .active }) ?_ rfl (there ▸ segment) ?_
  · rw [stands.jobAt, State.jobAt_modJob_self, job]
    rfl
  · rw [stands.handed]
    exact free

/-- What is no job's attempt is handed. -/
theorem PlacesOk.handActivity {a : Activity} (h : PlacesOk s) (free : (s.seg g).handed = none) (other : ∀ k, a ≠ .job k) :
    PlacesOk (s.handActivity g a) :=
  (h.withOther (x := some a) (by simp [free]) fun k e => other k (Option.some.inj e)).stand (.handActivity s g a)

theorem State.pick_select_free {cl : JobClass} (picked : s.pick g = .select cl i) : (s.seg g).current = none := by
  unfold State.pick at picked
  repeat' split at picked
  case h_2.isFalse.isFalse.isTrue due =>
    simp only [Segment.selectDue, Bool.and_eq_true, Option.isNone_iff_eq_none] at due
    exact due.1.1
  all_goals cases picked

theorem PlacesOk.choicePoint (h : PlacesOk s) (g : Seg) : PlacesOk (s.choicePoint g) := by
  unfold State.choicePoint
  split
  · next ready =>
    have free : (s.seg g).handed = none := by
      simp only [Segment.ready, Bool.and_eq_true, Option.isNone_iff_eq_none] at ready
      exact ready.2
    cases picked : s.pick g with
    | resume i =>
      obtain ⟨current, -, j, job, backoff⟩ := State.resumable_eq_some_iff.mp (State.pick_eq_resume picked)
      exact h.resume current job backoff free
    | query =>
      have querying : (s.modSeg g fun sg => { sg with notice := { sg.notice with state := .querying } }).JobsStand s :=
        .modSeg s g rfl
      exact (h.stand querying).handActivity ((querying.handed g).trans free) (by simp)
    | enrol =>
      have begun : (s.modSeg g fun sg => { sg with engine := sg.engine.handed }).JobsStand s := .modSeg s g rfl
      exact (h.stand begun).handActivity ((begun.handed g).trans free) (by simp)
    | select cl i =>
      have taken := State.pick_takes picked
      obtain ⟨j, job, -, segment, -⟩ := h.selected taken
      refine (h.selectJob taken (State.pick_select_free picked)).handAttempt (j := { j with state := .active }) ?_ rfl segment ?_
      · rw [State.selectJob, State.jobAt_modJob_self, State.modSeg_jobAt, job]
        rfl
      · rw [State.selectJob_seg, if_pos rfl, (Segment.selection_eq taken).2.2.2, free]
    | probe k =>
      simp only [State.handWork]
      split
      · exact h.handActivity free (by simp)
      · exact h
    | nothing => exact h
  · exact h

end Attempts

end Sys2Proof.Machine

/-!
Requests and events keep the places of jobs (O30), and the state after reset meets the laws (O60).
-/

namespace Sys2Proof.Machine

section Requests

variable {s : State} {i : Slot} {j : Job} {g : Seg}

/-! ### Ends in order of acceptance -/

/-- Forced removal reaches the jobs that name a handle, one after the other (R94). -/
theorem PlacesOk.removeReaches (h : PlacesOk s) (i : Slot) : PlacesOk (s.removeReaches i) := by
  cases job : s.jobAt i with
  | none =>
    have same : s.removeReaches i = s := by simp only [State.removeReaches, job]
    rwa [same]
  | some j =>
    by_cases active : j.state = .active
    · rw [State.removeReaches_active job active]
      have fine := h.jobs i j job
      exact h.flag job ⟨fine.outcome, fine.timers, fine.staging, fine.staged, fine.complete⟩ rfl rfl rfl rfl
    · rw [State.removeReaches_other job active]
      refine h.endJob_any (by simp) fun d there => ?_
      rw [job, Option.some.injEq] at there
      exact there ▸ active

theorem PlacesOk.foldl {α : Type} {f : State → α → State} (keeps : ∀ s a, PlacesOk s → PlacesOk (f s a)) (as : List α)
    (h : PlacesOk s) : PlacesOk (as.foldl f s) := by
  induction as generalizing s with
  | nil => exact h
  | cons a as ih => exact ih (keeps s a h)

/-- No job that FLUSH ends is ACTIVE (R159). -/
theorem Job.flushed_waits {d : Job} (flushed : d.flushed g = true) : d.state ≠ .ended ∧ d.state ≠ .active := by
  simp only [Job.flushed, Bool.and_eq_true, Bool.or_eq_true, beq_iff_eq] at flushed
  obtain ⟨-, (staging | held) | queued⟩ := flushed <;> simp [*]

/-- One job of a FLUSH (R159). -/
def State.flushOne (s : State) (g : Seg) (i : Slot) : State :=
  if (s.jobAt i).any (·.flushed g) then s.endJob i .segmentDisabled .nothing else s

theorem State.flush_eq (s : State) (g : Seg) : s.flush g = s.accepted.foldl (fun s i => s.flushOne g i) s := rfl

theorem State.flushOne_cases (s : State) (g : Seg) (i : Slot) : s.flushOne g i = s ∨
    ∃ j, s.jobAt i = some j ∧ j.flushed g = true ∧ s.flushOne g i = s.endJob i .segmentDisabled .nothing := by
  unfold State.flushOne
  split
  · next flushed =>
    cases job : s.jobAt i with
    | none => simp [job] at flushed
    | some j => exact .inr ⟨j, rfl, by simpa [job] using flushed, rfl⟩
  · exact .inl rfl

theorem PlacesOk.flushOne (h : PlacesOk s) (g : Seg) (i : Slot) : PlacesOk (s.flushOne g i) := by
  obtain same | ⟨j, job, flushed, ends⟩ := s.flushOne_cases g i
  · rwa [same]
  · rw [ends]
    exact h.endJob job (Job.flushed_waits flushed).1 (Job.flushed_waits flushed).2

theorem PlacesOk.flush (h : PlacesOk s) (g : Seg) : PlacesOk (s.flush g) :=
  PlacesOk.foldl (fun _ i h => h.flushOne g i) s.accepted h

/-! ### Disable -/

/-- The end of a job not OK gives no segment a current job. -/
theorem PlacesOff.endJob_current {o : Option Slot} {st : EndStatus} {c : EndCounts} (base : PlacesOff s o) (job : s.jobAt i = some j)
    (live : j.state ≠ .ended) (failed : st ≠ .ok) {f : Seg} (own : (s.seg f).current = none ∨ (s.seg f).current = some i) :
    ((s.endJob i st c).seg f).current = none := by
  obtain ⟨deps, -, -, ended, -, -, -, -⟩ := State.endJob_failed (c := c) base job live failed
  rw [ended.current]
  rcases own with free | is
  · rw [free]; rfl
  · rw [is]; simp [Option.filter]

theorem PlacesOk.flush_current (h : PlacesOk s) (f : Seg) (free : (s.seg f).current = none) (is : List Slot) :
    PlacesOk (is.foldl (fun s i => s.flushOne g i) s) ∧ ((is.foldl (fun s i => s.flushOne g i) s).seg f).current = none := by
  induction is generalizing s with
  | nil => exact ⟨h, free⟩
  | cons i is ih =>
    refine ih (s := s.flushOne g i) (h.flushOne g i) ?_
    obtain same | ⟨j, job, flushed, ends⟩ := s.flushOne_cases g i
    · rwa [same]
    · rw [ends]
      exact h.off.endJob_current job (Job.flushed_waits flushed).1 (by simp) (.inl free)

/-- The lines are released, and the current job ends (R158). -/
theorem PlacesOk.endCurrent (h : PlacesOk s) (g : Seg) (c : EndCounts) :
    PlacesOk ((s.modSeg g (·.release)).endCurrent g c) ∧ (((s.modSeg g (·.release)).endCurrent g c).seg g).current = none := by
  have left : (s.modSeg g (·.release)).JobsStand (s.withHanded g none) := .rehand s g rfl
  have current : ((s.modSeg g (·.release)).seg g).current = (s.seg g).current := by rw [State.seg_modSeg_self]; rfl
  cases own : (s.seg g).current with
  | none =>
    have other (k : Slot) : (s.seg g).handed ≠ some (.job k) := fun handed => by
      obtain ⟨j, job, active, on⟩ := (h.handed g k).mp handed
      have stands := (h.current g k).mpr ⟨j, job, by rw [active]; rfl, on⟩
      rw [own] at stands
      cases stands
    have same : (s.modSeg g (·.release)).endCurrent g c = s.modSeg g (·.release) := by
      simp only [State.endCurrent, current, own]
    rw [same]
    exact ⟨h.droppedOther other left, current.trans own⟩
  | some i =>
    obtain ⟨j, job, is, on⟩ := (h.current g i).mp own
    have job' : (s.modSeg g (·.release)).jobAt i = some j := (left.jobAt i).trans job
    have live : j.state ≠ .ended := fun ended => by simp [ended, JobState.isCurrent] at is
    have ends : (s.modSeg g (·.release)).endCurrent g c = (s.modSeg g (·.release)).endJob i .segmentDisabled
        (if j.state = .active then c else .nothing) := by
      simp only [State.endCurrent, current, own, job']
    have base : PlacesOff (s.modSeg g (·.release)) (some i) := by
      by_cases active : j.state = .active
      · exact (h.dropped ((h.handed g i).mpr ⟨j, job, active, on⟩) left).1
      · have other (k : Slot) : (s.seg g).handed ≠ some (.job k) := fun handed => by
          obtain ⟨d, there, active', on'⟩ := (h.handed g k).mp handed
          have stands := (h.current g k).mpr ⟨d, there, by rw [active']; rfl, on'⟩
          rw [own, Option.some.injEq] at stands
          rw [← stands, job, Option.some.injEq] at there
          exact active (there ▸ active')
        refine (h.droppedOther other left).naming fun d there => ?_
        rw [job', Option.some.injEq] at there
        exact there ▸ active
    rw [ends]
    exact ⟨base.endJob_done job' live, base.endJob_current job' live (by simp) (.inr (current.trans own))⟩

theorem PlacesOk.jobsDisabled (h : PlacesOk s) (g : Seg) (flush : Bool) (cut : BusCut) :
    PlacesOk (s.jobsDisabled g flush cut) ∧ ((s.jobsDisabled g flush cut).seg g).current = none := by
  have released := (h.stand (State.Calm.cutPresence s g cut).jobsStand).endCurrent g (s.cutRun g cut)
  unfold State.jobsDisabled
  simp only
  split
  · exact released.1.flush_current g released.2 _
  · exact released

theorem PlacesOk.disable (h : PlacesOk s) (g : Seg) (flush : Bool) (cut : BusCut) : PlacesOk (s.disable g flush cut) := by
  obtain ⟨jobs, free⟩ := h.jobsDisabled g flush cut
  rw [State.disable_eq, State.restDisabled]
  have gone : (((s.jobsDisabled g flush cut).abortSweep g).abandonService g cut.sent).JobsStand (s.jobsDisabled g flush cut) :=
    (State.JobsStand.abandonService _ g _).trans (State.Calm.abortSweep _ g).jobsStand
  have none : ((((s.jobsDisabled g flush cut).abortSweep g).abandonService g cut.sent).seg g).current = none :=
    (congrArg (·.2.2.1) (gone.places g)).trans free
  refine (jobs.stand gone).stand (State.JobsStand.trans (State.Calm.mapEntries_probeDue _ g false).jobsStand (.modSeg _ g ?_))
  simp only [Segment.places, Segment.quiet, none]

/-! ### The law -/

/-- A probe in flight forgets its entry (R100); no job's attempt is touched. -/
theorem Segment.forgetProbe_job (sg : Segment) (h : Handle) (i : Slot) :
    (sg.forgetProbe h).handed = some (.job i) ↔ sg.handed = some (.job i) := by
  unfold Segment.forgetProbe
  split
  · next probes =>
    split
    · simp [probes]
    · rfl
  · rfl

theorem PlacesOk.dropEntry (h : PlacesOk s) (k : Handle) : PlacesOk (s.dropEntry k) := by
  have withdrawn := (State.Calm.withdrawClaim s (.roster k)).jobsStand
  have job (i : Slot) : (s.dropEntry k).jobAt i = s.jobAt i := withdrawn.jobAt i
  have base : PlacesOk (s.withdrawClaim (.roster k)) := h.stand withdrawn
  have kept (g : Seg) : (∀ c, ((s.dropEntry k).seg g).classList c = (s.seg g).classList c) ∧
      ((s.dropEntry k).seg g).current = (s.seg g).current := by
    rw [State.dropEntry_seg]
    unfold Segment.forgetProbe
    repeat' split
    · exact ⟨fun c => by cases c <;> rfl, rfl⟩
    · exact ⟨fun _ => rfl, rfl⟩
    · exact ⟨fun _ => rfl, rfl⟩
  refine ⟨base.accepted, base.jobs, fun g c => ?_, base.held, base.heldFor, base.chain, fun g i => ?_, fun g i => ?_⟩
  · rw [(kept g).1]
    simp only [job]
    exact h.lists g c
  · rw [(kept g).2, job]
    exact h.current g i
  · rw [State.dropEntry_seg, Segment.forgetProbe_job, job]
    exact h.handed g i

theorem Segment.reconfigured_places (sg : Segment) (c : SegConfig) : (sg.reconfigured c).places = sg.places := by
  unfold Segment.reconfigured
  rw [Segment.dropPosted_both]
  unfold Segment.rollItem
  split <;> rfl

theorem PlacesOk.enable (h : PlacesOk s) (g : Seg) : PlacesOk (s.enable g) := by
  have on : ((s.modSeg g (·.enable)).markChoice g).JobsStand s := (State.JobsStand.markChoice _ g).trans (.modSeg s g rfl)
  unfold State.enable
  simp only
  split
  · exact h.stand ((State.Calm.enterWatching _ g).jobsStand.trans on)
  · exact h.stand on

theorem PlacesOk.block {t : State} (change : BlockChange s t) (h : PlacesOk s) : PlacesOk t := by
  cases change with
  | @configure g c items list live fine =>
    rw [State.configure_eq]
    exact h.stand ((State.Calm.noticeItem _ g _ c).jobsStand.trans (.modSeg s g (Segment.reconfigured_places _ c)))
  | enable off => exact h.enable _
  | flush off => exact h.flush _
  | disable flush cut on => exact h.disable _ flush cut
  | recover fault => exact h.stand (.modSeg s _ rfl)
  | @submit body r t g i req target predecessor slot pool =>
    have free : s.jobAt i = none := by simpa using (find_finRange_eq_some_iff.mp slot).1
    have taken := h.takeSlot free (.newJob (g := g) req t (s.recordedPredecessor r.predecessor)) rfl
      fun id named => State.recordedPredecessor_live named
    exact taken.placeIfComplete (s.takeSlot_jobAt_self i _) rfl
  | @append i j data job staging fits =>
    refine (h.stage job staging fits).placeIfComplete (j := j.stage data) ?_ staging
    rw [State.jobAt_modJob_self, job]
    rfl
  | cancel job live => exact h.cancelJob job live
  | addFixed small checked free => exact h.stand ⟨rfl, rfl, rfl, fun _ => rfl⟩
  | @remove k entry => exact PlacesOk.dropEntry (h.foldl (fun _ i h => h.removeReaches i) _) k
  | @enrol g w on idle => exact h.stand ((State.JobsStand.markChoice _ g).trans (State.CalmEnrol.modEngine s g _).jobsStand)
  | post g ix p => exact h.stand (.modSeg s g rfl)
  | withdraw g ix => exact h.stand (.modSeg s g rfl)

theorem PlacesOk.event {f : State → State} (hf : Event f) (h : PlacesOk s) : PlacesOk (f s) := by
  cases hf with
  | nothing => exact h
  | stagingExpires i => exact h.stagingExpires i
  | deadlineExpires i => exact h.deadlineExpires i
  | backoffExpires g => exact h.stand (State.Calm.backoffExpires s g).jobsStand
  | rollExpires g => exact h.stand (State.Calm.rollExpires s g).jobsStand
  | holdExpires g => exact h.stand (.holdExpires s g)
  | retryWaitExpires g => exact h.stand (State.Calm.retryWaitExpires s g).jobsStand
  | attemptEnds g bus stopMade => exact h.attemptEnds bus stopMade
  | cancelReaches g bus next stopMade => exact h.cancelReaches bus next stopMade
  | probeEnds g bus stopMade => exact h.probeEnds bus stopMade
  | enrolEnds st g bus stopMade => exact h.enrolEnds st bus stopMade
  | queryEnds g bus stopMade => exact h.queryEnds bus stopMade
  | lineAsserted g => exact h.stand (State.Calm.lineAsserted s g).jobsStand
  | lineReleased g => exact h.stand (State.Calm.lineReleased s g).jobsStand
  | startSeen g => exact h.stand (.modSeg s g (Segment.startSeen_places _))
  | clockFall g => exact h.stand (.modSeg s g (Segment.clockFall_places _))
  | stopSeen g n => exact h.stand (.stopSeen s g n)
  | repeatedStartSeen g n => exact h.stand (.repeatedStartSeen s g n)
  | freeTimeElapses g => exact h.stand (.freeTimeElapses s g)
  | linesHigh g n => exact h.stand (.linesHigh s g n)
  | stuckDetected g line cut => exact h.stuckDetected line cut
  | stretched g eighth => exact h.stand (.modSeg s g (by unfold Segment.stretched; split <;> rfl))
  | recoveryEnds g pulses => exact h.recoveryEnds pulses
  | addressSeen g b => exact h.stand (.addressSeen s g b)
  | byteArrives g b => exact h.stand (.byteArrives s g b)
  | endRead g n => exact h.stand (.endRead s g n)

/-- The owner of an acknowledged report is told (R173). -/
theorem PlacesOk.tellOwner (h : PlacesOk s) (r : Report) : PlacesOk (s.tellOwner r) := by
  unfold State.tellOwner
  split
  · exact h.freeSlot _
  · next g k _ =>
    unfold State.freeMessage
    split
    · exact h
    · exact h.stand ((State.JobsStand.withPoolFree _ _).trans (.modSeg s g rfl))
  · exact h

/-- After a reset there is no job (R178). -/
theorem PlacesOk.cleared (s : State) (warm : Bool) : PlacesOk (s.cleared warm) := by
  have job (i : Slot) : (s.cleared warm).jobAt i = none := by simp [State.cleared, State.jobAt]
  refine ⟨⟨List.nodup_nil, fun i => ?_⟩, fun i j there => ?_, fun g c => ?_, ⟨List.nodup_nil, fun i => ?_⟩, nofun,
    fun k j id there => ?_, fun g i => ?_, fun g i => ?_⟩
  · rw [job]
    exact iff_of_false List.not_mem_nil (by simp)
  · rw [job] at there; cases there
  · rw [State.seg_cleared]
    cases c <;> exact ⟨List.nodup_nil, fun i => by rw [job]; simp [Segment.classList, Segment.after]⟩
  · rw [job]
    exact iff_of_false List.not_mem_nil (by simp)
  · rw [job] at there; cases there
  · rw [State.seg_cleared, job]; simp [Segment.after]
  · rw [State.seg_cleared, job]; simp [Segment.after]

theorem PlacesOk.coreLaw : CoreLaw PlacesOk where
  blind s t same h := by
    simp only [State.core, Prod.mk.injEq] at same
    obtain ⟨slots, heldSet, accepted, segs, -, -⟩ := same
    exact h.stand ⟨slots, heldSet, accepted, fun g => by simp only [State.seg, segs]⟩
  calm s t calm h := h.stand calm.jobsStand
  cold s := .cleared s false
  warm s _ := .cleared s true
  owner s r h := h.tellOwner r
  block s t change h := h.block change
  event f s hf h := h.event hf
  choice s g h := h.choicePoint g

end Requests

/-- Settles O30: requests, events, resets and choice points each move a job to the place of its state. -/
theorem stepKeepsJobPlaces : Obligations.StepKeepsJobPlaces := by
  unfold Obligations.StepKeepsJobPlaces
  exact fun _ _ h ht => PlacesOk.coreLaw.keeps.step h ht

/-! ### Reset -/

/-- The state after power-on is what POWER_ON makes of itself (R178). -/
theorem State.reset_eq : State.reset =
    (({ State.reset.cleared false with rstLow := false } : State).started .powerOn).transmit := by
  have segs : State.reset.segs.map (fun sg => Segment.after SegConfig.default sg.noticeLine) = State.reset.segs :=
    Vector.map_replicate
  have slots : State.reset.slots.map (fun _ => (⟨0, none⟩ : JobSlot)) = State.reset.slots := Vector.map_replicate
  have roster : State.reset.roster.map (fun _ => (none : Option Entry)) = State.reset.roster := Vector.map_replicate
  have cleared : State.reset.cleared false =
      { State.reset with reports := [], nextSeq := 0, attn := false, htx := none } := by
    simp only [State.cleared, Bool.false_eq_true, if_false, slots, segs, roster]
    rfl
  rw [cleared]
  rfl

/-- Settles O60: every law holds after POWER_ON, whatever the state before. -/
theorem resetStateMeetsTheLaws : Obligations.ResetStateMeetsTheLaws := by
  unfold Obligations.ResetStateMeetsTheLaws
  rw [State.reset_eq]
  exact ⟨HostLinkOk.keeps.powerOn _, PoolOk.coreLaw.keeps.powerOn _, SegmentsOk.coreLaw.keeps.powerOn _,
    RosterOk.coreLaw.keeps.powerOn _, PlacesOk.coreLaw.keeps.powerOn _⟩

end Sys2Proof.Machine

/-!
The jobs of a disable (R158, R159): the current job and, with FLUSH, the waiting jobs of the segment end one after the other
in order of acceptance, each followed by the jobs that its own end cascades.
-/

namespace Sys2Proof.Machine

/-! ### Ends, one after the other -/

/-- `v` is `u` after the ends of these jobs, none of them OK, each of a job of the kind `P`. -/
inductive State.Ends (P : Job → Prop) : State → List Slot → State → Prop
  | none (u : State) : State.Ends P u [] u
  | one (u : State) (i : Slot) (j : Job) (st : EndStatus) (c : EndCounts) (rest : List Slot) (v : State) :
    u.jobAt i = some j → j.state ≠ .ended → st ≠ .ok → P j → State.Ends P (u.endOne i st c) rest v →
    State.Ends P u (i :: rest) v

section Ends

variable {P : Job → Prop} {u v w : State} {ks ls : List Slot}

theorem State.Ends.append (h : State.Ends P u ks v) (k : State.Ends P v ls w) : State.Ends P u (ks ++ ls) w := by
  induction h with
  | none => exact k
  | one u i j st c rest v job live failed kind _ ih => exact .one u i j st c _ w job live failed kind (ih k)

/-- The ends of HELD jobs are such ends. -/
theorem State.Ends.cascaded (held : ∀ j : Job, j.state = .held → P j) (deps : List Slot) (alone : deps.Nodup)
    (all : ∀ m ∈ deps, ∃ d, u.jobAt m = some d ∧ d.state = .held) : State.Ends P u deps (u.cascaded deps) := by
  induction deps generalizing u with
  | nil => exact .none u
  | cons k deps ih =>
    obtain ⟨d, job, stands⟩ := all k (List.mem_cons_self ..)
    refine .one u k d .predecessorFailed .nothing deps _ job (by simp [stands]) (by simp) (held d stands) ?_
    exact ih (List.nodup_cons.mp alone).2 (State.endOne_rest job stands alone all)

end Ends

/-! ### What has ended, and with what record -/

/-- The record that a disable leaves of a job that it ends (R84, R159): a HELD job whose predecessor it ended is
PREDECESSOR_FAILED. -/
def Job.disabledAs (j : Job) (ids : List JobId) (c : EndCounts) : Job :=
  (j.afterEnds ids).ended
    (if j.state = .held ∧ ∃ id ∈ ids, j.predecessor = .job id then .predecessorFailed else .segmentDisabled)
    (if j.state = .active then c else .nothing)

/-- In `u` a disable has ended the jobs `done` of `b`, having come in order of acceptance through `before`. -/
structure State.DisabledIn (u b : State) (before done : List Slot) (c : EndCounts) : Prop where
  ended : u.EndedIn b done
  closed : b.Closed done
  records : ∀ k ∈ done, ∀ j, b.jobAt k = some j → u.jobAt k = some (j.disabledAs (done.map b.idAt) c)
  settled : ∀ k ∈ done, ∀ j, b.jobAt k = some j → j.state = .held ∨ j.state = .staging →
    (∃ id ∈ done.map b.idAt, j.predecessor = .job id) ∨ k ∈ before

theorem State.DisabledIn.refl (b : State) (c : EndCounts) : b.DisabledIn b [] [] c :=
  ⟨.refl b, nofun, nofun, nofun⟩

/-- The record depends on the jobs ended as far as the job waits on one of them. -/
theorem Job.disabledAs_congr {j : Job} {ids ids' : List JobId} (c : EndCounts)
    (same : j.state = .held ∨ j.state = .staging →
      ((∃ id ∈ ids, j.predecessor = .job id) ↔ ∃ id ∈ ids', j.predecessor = .job id)) :
    j.disabledAs ids c = j.disabledAs ids' c := by
  have marked : j.afterEnds ids = j.afterEnds ids' := by
    unfold Job.afterEnds
    exact if_congr (and_congr_right fun staging => same (.inr staging)) rfl rfl
  have status : (if j.state = .held ∧ ∃ id ∈ ids, j.predecessor = .job id then EndStatus.predecessorFailed else .segmentDisabled) =
      if j.state = .held ∧ ∃ id ∈ ids', j.predecessor = .job id then .predecessorFailed else .segmentDisabled :=
    if_congr (and_congr_right fun held => same (.inl held)) rfl rfl
  rw [Job.disabledAs, Job.disabledAs, marked, status]

section Disabled

variable {b u : State} {o : Option Slot} {before done deps : List Slot} {i k : Slot} {j : Job} {c : EndCounts} {g : Seg}

/-- A job does not wait on one that ends after those accepted before it (R23). -/
theorem PlacesOff.not_later (base : PlacesOff b o) (job : b.jobAt k = some j) (waits : j.state = .held ∨ j.state = .staging)
    {m : Slot} (later : b.accepted.idxOf k ≤ b.accepted.idxOf m) : j.predecessor ≠ .job (b.idAt m) := fun named =>
  Nat.lt_irrefl _ (Nat.lt_of_lt_of_le (base.named job waits named).2.2 later)

/-- What waits on a job among these, directly or through others, waits on one of these itself. -/
theorem State.Closed.waits {done : List Slot} (closed : b.Closed done) (root : i ∈ done) (waits : DependsOn b (b.idAt i) k)
    (job : b.jobAt k = some j) : ∃ id ∈ done.map b.idAt, j.predecessor = .job id := by
  have named {m : Slot} (mem : m ∈ done) (waits : b.waitsOn k (b.idAt m) = true) :
      ∃ id ∈ done.map b.idAt, j.predecessor = .job id := by
    obtain ⟨p, there, -, named⟩ := State.waitsOn_iff.mp waits
    rw [job, Option.some.injEq] at there
    exact ⟨_, List.mem_map_of_mem mem, there ▸ named⟩
  cases waits with
  | direct _ waits => exact named root waits
  | through m _ below waits => exact named (closed.dependsOn root below) waits

/-- One more job ends, and what waits on it. -/
theorem State.DisabledIn.endJob (base : PlacesOff b o) (h : u.DisabledIn b before done c) (fresh : i ∉ done)
    (job : b.jobAt i = some j) (live : j.state ≠ .ended) (order : ∀ k ∈ before, b.accepted.idxOf k < b.accepted.idxOf i)
    {before' : List Slot} (more : ∀ k ∈ before, k ∈ before')
    (own : j.state = .held ∨ j.state = .staging → i ∈ before') :
    ∃ deps : List Slot, deps.Sublist b.accepted ∧ (∀ k, k ∈ deps ↔ DependsOn b (b.idAt i) k ∧ k ∉ done) ∧
      (u.endJob i .segmentDisabled (if j.state = .active then c else .nothing)).DisabledIn b before' (done ++ i :: deps) c ∧
      u.endJob i .segmentDisabled (if j.state = .active then c else .nothing) =
        (u.endOne i .segmentDisabled (if j.state = .active then c else .nothing)).cascaded deps := by
  have here := h.ended.job fresh job
  have alive : (j.afterEnds (done.map b.idAt)).state ≠ .ended := by rwa [Job.afterEnds_state]
  have one := h.ended.endOne (st := .segmentDisabled) (c := if j.state = .active then c else .nothing) base fresh job live
    (by simp)
  obtain ⟨deps, sub, run, ended, closed, members, keeps, records⟩ := one.cascade base
  have whole : done ++ [i] ++ deps = done ++ i :: deps := by rw [List.append_assoc, List.singleton_append]
  have all : u.endJob i .segmentDisabled (if j.state = .active then c else .nothing) =
      (u.endOne i .segmentDisabled (if j.state = .active then c else .nothing)).cascaded deps := by
    rw [State.endJob, if_neg (by simp), run]
  rw [whole] at ended closed
  have depends (k : Slot) : k ∈ deps ↔ DependsOn b (b.idAt i) k ∧ k ∉ done := by
    constructor
    · intro mem
      obtain ⟨out, m, root, waits⟩ := members k mem
      rw [List.mem_append, not_or] at out
      rcases List.mem_append.mp root with root | root
      · exact absurd (h.closed.dependsOn root waits) out.1
      · rw [List.mem_singleton.mp root] at waits
        exact ⟨waits, out.1⟩
    · rintro ⟨waits, out⟩
      rcases List.mem_append.mp (closed.dependsOn (by simp) waits) with mem | mem
      · exact absurd mem out
      · exact (List.mem_cons.mp mem).resolve_left (waits.ne base)
  have later (m : Slot) (mem : m ∈ i :: deps) : b.accepted.idxOf i ≤ b.accepted.idxOf m := by
    rcases List.mem_cons.mp mem with rfl | mem
    · exact le_rfl
    · exact (((depends m).mp mem).1.later base).le
  have stays {k : Slot} {d : Job} (there : b.jobAt k = some d) (first : b.accepted.idxOf k ≤ b.accepted.idxOf i)
      (waits : d.state = .held ∨ d.state = .staging) :
      (∃ id ∈ done.map b.idAt, d.predecessor = .job id) ↔ ∃ id ∈ (done ++ i :: deps).map b.idAt, d.predecessor = .job id := by
    refine ⟨fun ⟨id, mem, named⟩ => ⟨id, by rw [List.map_append]; exact List.mem_append_left _ mem, named⟩, ?_⟩
    rintro ⟨id, is, named⟩
    obtain ⟨m, mem, rfl⟩ := List.mem_map.mp is
    rcases List.mem_append.mp mem with mem | mem
    · exact ⟨_, List.mem_map_of_mem mem, named⟩
    · exact absurd named (base.not_later there waits (first.trans (later m mem)))
  refine ⟨deps, sub, depends, ⟨all ▸ ended, closed, fun k mem d there => ?_, fun k mem d there waits => ?_⟩, all⟩
  · rw [all]
    rcases List.mem_append.mp mem with old | new
    · have before_ := h.records k old d there
      have stable : d.disabledAs (done.map b.idAt) c = d.disabledAs ((done ++ i :: deps).map b.idAt) c := by
        refine Job.disabledAs_congr c fun waits => ?_
        rcases h.settled k old d there waits with waits' | passed
        · obtain ⟨id, mem, named⟩ := waits'
          exact iff_of_true ⟨id, mem, named⟩ ⟨id, by rw [List.map_append]; exact List.mem_append_left _ mem, named⟩
        · exact stays there (order k passed).le waits
      rw [← stable]
      exact keeps k _ (State.endOne_keeps_ended here alive before_ rfl) rfl
    · rcases List.mem_cons.mp new with rfl | new
      · rw [job, Option.some.injEq] at there
        subst there
        have stable : j.disabledAs (done.map b.idAt) c = j.disabledAs ((done ++ k :: deps).map b.idAt) c :=
          Job.disabledAs_congr c (stays job le_rfl)
        have alone : ¬ (j.state = .held ∧ ∃ id ∈ done.map b.idAt, j.predecessor = .job id) := by
          rintro ⟨held, id, is, named⟩
          obtain ⟨m, mem, rfl⟩ := List.mem_map.mp is
          exact fresh (h.closed m mem k (State.waitsOn_iff.mpr ⟨j, job, held, named⟩))
        rw [← stable, Job.disabledAs, if_neg alone]
        exact keeps k _ ((State.endOne_jobAt here alive k).trans (if_pos rfl)) rfl
      · obtain ⟨waits, out⟩ := (depends k).mp new
        obtain ⟨p, job', held⟩ := waits.held
        rw [there, Option.some.injEq] at job'
        subst job'
        have on := closed.waits (by simp) waits there
        rw [records k new, there, Job.disabledAs, if_pos ⟨held, on⟩, if_neg (by simp [held]),
          Job.afterEnds_of_not_staging (by simp [held])]
        rfl
  · rcases List.mem_append.mp mem with old | new
    · rcases h.settled k old d there waits with ⟨id, mem, named⟩ | passed
      · exact .inl ⟨id, by rw [List.map_append]; exact List.mem_append_left _ mem, named⟩
      · exact .inr (more k passed)
    · rcases List.mem_cons.mp new with rfl | new
      · rw [job, Option.some.injEq] at there
        exact .inr (own (there ▸ waits))
      · exact .inl (closed.waits (by simp) ((depends k).mp new).1 there)

/-- The jobs that a FLUSH ends one after the other: waiting jobs of the segment, and HELD jobs (R159). -/
def Job.waitsOrHeld (g : Seg) (j : Job) : Prop := j.state = .held ∨ j.flushed g = true

theorem Job.afterEnds_flushed (j : Job) (ids : List JobId) (g : Seg) : (j.afterEnds ids).flushed g = j.flushed g := by
  rw [Job.afterEnds_eq]
  rfl

theorem State.DisabledIn.passed {before' : List Slot} (h : u.DisabledIn b before done c) (more : ∀ k ∈ before, k ∈ before') :
    u.DisabledIn b before' done c :=
  ⟨h.ended, h.closed, h.records, fun k mem j job waits => (h.settled k mem j job waits).imp_right (more k)⟩

/-- A FLUSH reaches a job that has not ended as it stood before (R159). -/
theorem State.DisabledIn.flushed_iff (h : u.DisabledIn b before done c) (i : Slot) :
    (u.jobAt i).any (·.flushed g) = true ↔ i ∉ done ∧ (b.jobAt i).any (·.flushed g) = true := by
  by_cases mem : i ∈ done
  · obtain ⟨j, pr, st, c', -, -, -, wrote⟩ := h.ended.ended i mem
    rw [wrote]
    simp [Job.flushed, Job.ended, mem]
  · rw [h.ended.others i mem]
    cases b.jobAt i <;> simp [mem, Job.afterEnds_flushed]

/-- One job that a FLUSH ends, and what waits on it. -/
theorem State.DisabledIn.flushOne (base : PlacesOff b o) (h : u.DisabledIn b before done c) (fresh : i ∉ done)
    (job : b.jobAt i = some j) (flushed : j.flushed g = true) (order : ∀ k ∈ before, b.accepted.idxOf k < b.accepted.idxOf i) :
    ∃ deps : List Slot, deps.Sublist b.accepted ∧ (∀ k, k ∈ deps ↔ DependsOn b (b.idAt i) k ∧ k ∉ done) ∧
      (u.endJob i .segmentDisabled .nothing).DisabledIn b (before ++ [i]) (done ++ i :: deps) c ∧
      State.Ends (Job.waitsOrHeld g) u (i :: deps) (u.endJob i .segmentDisabled .nothing) := by
  obtain ⟨live, rests⟩ := Job.flushed_waits flushed
  obtain ⟨deps, sub, depends, next, run⟩ := h.endJob base fresh job live order
    (before' := before ++ [i]) (fun k mem => List.mem_append_left _ mem) (fun _ => by simp)
  rw [if_neg rests] at next run
  refine ⟨deps, sub, depends, next, ?_⟩
  rw [run]
  have here := h.ended.job fresh job
  have alive : (j.afterEnds (done.map b.idAt)).state ≠ .ended := by rwa [Job.afterEnds_state]
  refine .one u i _ .segmentDisabled .nothing deps _ here alive (by simp) (.inr (by rwa [Job.afterEnds_flushed])) ?_
  refine .cascaded (fun _ held => .inl held) deps (sub.nodup base.accepted.1) fun m mem => ?_
  obtain ⟨waits, out⟩ := (depends m).mp mem
  obtain ⟨d, there, held⟩ := waits.held
  have stays := h.ended.unchanged out there (by simp [held])
  exact ⟨d, State.endOne_held here alive stays held (waits.ne base), held⟩

/-- A FLUSH, `rest` of the jobs accepted being still to be looked at (R159). -/
theorem State.DisabledIn.flush_rest (base : PlacesOff b o) (g : Seg) (rest : List Slot) {before : List Slot}
    (order : b.accepted = before ++ rest) (h : u.DisabledIn b before done c) :
    ∃ ended : List Slot, EndOrder b (rest.filter fun i => (b.jobAt i).any (·.flushed g)) done ended ∧
      (rest.foldl (fun s i => s.flushOne g i) u).DisabledIn b b.accepted (done ++ ended) c ∧
      State.Ends (Job.waitsOrHeld g) u ended (rest.foldl (fun s i => s.flushOne g i) u) := by
  induction rest generalizing before done u with
  | nil => exact ⟨[], .none _, by simpa [order] using h, .none u⟩
  | cons i rest ih =>
    have next : b.accepted = (before ++ [i]) ++ rest := by rw [order, List.append_assoc, List.singleton_append]
    rw [List.foldl_cons]
    by_cases flushed : (u.jobAt i).any (·.flushed g) = true
    · obtain ⟨fresh, was⟩ := h.flushed_iff i |>.mp flushed
      obtain ⟨j, job, kind⟩ : ∃ j, b.jobAt i = some j ∧ j.flushed g = true := by
        cases job : b.jobAt i with
        | none => simp [job] at was
        | some j => exact ⟨j, rfl, by simpa [job] using was⟩
      obtain ⟨deps, sub, depends, one, ends⟩ := h.flushOne base fresh job kind fun k mem =>
        idxOf_lt_of_append order base.accepted.1 mem
      obtain ⟨ended, run, rest', ends'⟩ := ih next one
      have step : u.flushOne g i = u.endJob i .segmentDisabled .nothing := if_pos flushed
      rw [List.filter_cons_of_pos (p := fun i => (b.jobAt i).any (·.flushed g)) was, step]
      refine ⟨i :: deps ++ ended, .ends i _ done deps ended fresh sub depends run, ?_, ends.append ends'⟩
      rwa [← List.append_assoc]
    · have step : u.flushOne g i = u := if_neg flushed
      obtain ⟨ended, run, rest', ends'⟩ := ih next (h.passed fun k mem => List.mem_append_left _ mem)
      rw [step]
      refine ⟨ended, ?_, rest', ends'⟩
      by_cases was : (b.jobAt i).any (·.flushed g) = true
      · rw [List.filter_cons_of_pos (p := fun i => (b.jobAt i).any (·.flushed g)) was]
        exact .passed i _ done ended (not_not.mp fun fresh => flushed ((h.flushed_iff i).mpr ⟨fresh, was⟩)) run
      · rwa [List.filter_cons_of_neg (p := fun i => (b.jobAt i).any (·.flushed g)) was]

/-- The jobs of a FLUSH of a whole segment (R159). -/
theorem State.DisabledIn.flush (base : PlacesOff b o) (g : Seg) (h : u.DisabledIn b [] done c) :
    ∃ ended : List Slot, EndOrder b (b.accepted.filter fun i => (b.jobAt i).any (·.flushed g)) done ended ∧
      (u.flush g).DisabledIn b b.accepted (done ++ ended) c ∧ State.Ends (Job.waitsOrHeld g) u ended (u.flush g) := by
  rw [State.flush_eq, h.ended.accepted]
  exact h.flush_rest base g b.accepted rfl

/-- Every root has ended, and what has ended is a root or was HELD. -/
theorem EndOrder.mem_iff {s : State} {roots done ended : List Slot} (h : EndOrder s roots done ended) :
    (∀ i ∈ roots, i ∈ done ∨ i ∈ ended) ∧
      ∀ k ∈ ended, k ∈ roots ∨ ∃ d, s.jobAt k = some d ∧ d.state = .held := by
  induction h with
  | none done => exact ⟨nofun, nofun⟩
  | passed i roots done rest mem _ ih =>
    refine ⟨fun k hk => ?_, fun k hk => (ih.2 k hk).imp_left (List.mem_cons_of_mem _)⟩
    rcases List.mem_cons.mp hk with rfl | hk
    · exact .inl mem
    · exact ih.1 k hk
  | ends i roots done deps rest fresh sub depends _ ih =>
    refine ⟨fun k hk => ?_, fun k hk => ?_⟩
    · rcases List.mem_cons.mp hk with rfl | hk
      · exact .inr (by simp)
      · rcases ih.1 k hk with mem | mem
        · rcases List.mem_append.mp mem with mem | mem
          · exact .inl mem
          · exact .inr (List.mem_append_left _ mem)
        · exact .inr (List.mem_append_right _ mem)
    · rcases List.mem_append.mp hk with hk | hk
      · rcases List.mem_cons.mp hk with rfl | hk
        · exact .inl (List.mem_cons_self ..)
        · exact .inr ((depends k).mp hk).1.held
      · exact (ih.2 k hk).imp_left (List.mem_cons_of_mem _)

end Disabled

end Sys2Proof.Machine

/-!
Claims in the order of their placing (R172): while the laws of the Report Queue hold, a claim placed stands after all reports
and claims before it, whether it enters or waits. With them, what the ends of jobs leave of the segments.
-/

namespace Sys2Proof.Machine

/-! ### The order of claims -/

/-- The claimants in order: the owners of the reports queued, and then those whose claims wait (R172). -/
def State.owners (s : State) : List Claimant := s.reports.map (·.owner) ++ s.claims

section Owners

variable {s : State} {c : Claimant} {kind : Byte} {body : List Byte}

/-- A claim placed enters a queue with room, and waits where the queue is full (R171, R172). -/
theorem State.placeClaim_cases (queue : s.QueueOk) (form : formReport s c = some (kind, body)) :
    (s.claims = [] ∧ s.reports.length < 64 ∧ s.placeClaim c = { clearClaim s c with
      reports := s.reports ++ [⟨kind, s.nextSeq, body, c, false⟩], nextSeq := s.nextSeq + 1, attn := true }) ∨
    (64 ≤ s.reports.length ∧ s.placeClaim c = { s with claims := s.claims ++ [c] }) := by
  by_cases full : 64 ≤ s.reports.length
  · exact .inr ⟨full, State.placeClaim_full full c⟩
  · have none : s.claims = [] := by
      by_contra waits
      exact full (queue.claims waits).ge
    exact .inl ⟨none, Nat.not_le.mp full, State.placeClaim_room none (Nat.not_le.mp full) form⟩

/-- A claim placed stands last (R171, R172). -/
theorem State.placeClaim_owners (queue : s.QueueOk) (form : formReport s c = some (kind, body)) :
    (s.placeClaim c).QueueOk ∧ (s.placeClaim c).owners = s.owners ++ [c] ∧ s.reports <+: (s.placeClaim c).reports := by
  refine ⟨State.placeClaim_queueOk queue c, ?_⟩
  obtain ⟨none, -, placed⟩ | ⟨-, placed⟩ := State.placeClaim_cases queue form
  · have waits := (clearClaim_queue s c).2.2.1
    simp [placed, State.owners, none, waits]
  · simp [placed, State.owners]

end Owners

/-! ### What the ends of jobs on one segment leave -/

/-- Nothing of the segment has changed but its lists. -/
def Segment.Listed (a b : Segment) : Prop :=
  a = { b with urgent := a.urgent, routine := a.routine, fairness := a.fairness }

/-- Nothing of the segment has changed but its lists and its current job. -/
def Segment.Left (a b : Segment) : Prop :=
  a = { b with
    urgent := a.urgent, routine := a.routine, fairness := a.fairness
    current := a.current, backoffTimer := a.backoffTimer, backoffExpired := a.backoffExpired }

theorem Segment.Listed.trans {a b c : Segment} (h : a.Listed b) (k : b.Listed c) : a.Listed c := by
  rw [Segment.Listed] at *
  rw [k] at h
  exact h

theorem Segment.Left.trans {a b c : Segment} (h : a.Left b) (k : b.Left c) : a.Left c := by
  rw [Segment.Left] at *
  rw [k] at h
  exact h

theorem Segment.Listed.left {a b : Segment} (h : a.Listed b) : a.Left b := by
  rw [Segment.Left]
  rw [Segment.Listed] at h
  rw [h]

/-- In `t` jobs of the segment `g`, and HELD jobs, of `s` have ended, and the claims `cs` been placed; the segment is related
to what it was by `S`. -/
structure State.EndsOn (S : Segment → Segment → Prop) (t s : State) (g : Seg) (cs : List Claimant) : Prop where
  queue : t.QueueOk
  owners : t.owners = s.owners ++ cs
  ahead : s.reports <+: t.reports
  others : ∀ k, k ≠ g → t.seg k = s.seg k
  own : S (t.seg g) (s.seg g)
  due : ∀ k ∈ t.choiceDue, k ∈ s.choiceDue ∨ k = g
  rest : t = { s with
    slots := t.slots, heldSet := t.heldSet, segs := t.segs, reports := t.reports, claims := t.claims
    nextSeq := t.nextSeq, attn := t.attn, choiceDue := t.choiceDue }

section EndsOn

variable {S : Segment → Segment → Prop} {s t u : State} {g : Seg} {cs ds : List Claimant} {i : Slot} {j : Job} {st : EndStatus}
  {c : EndCounts}

theorem State.EndsOn.trans (step : ∀ {x y z : Segment}, S x y → S y z → S x z) (h : State.EndsOn S u t g ds)
    (k : State.EndsOn S t s g cs) : State.EndsOn S u s g (cs ++ ds) where
  queue := h.queue
  owners := by rw [h.owners, k.owners, List.append_assoc]
  ahead := k.ahead.trans h.ahead
  others f hf := (h.others f hf).trans (k.others f hf)
  own := step h.own k.own
  due f hf := (h.due f hf).elim (k.due f) .inr
  rest := by
    have rest := h.rest
    rw [k.rest] at rest
    exact rest

theorem State.EndsOn.mono {S' : Segment → Segment → Prop} (weaker : ∀ {x y : Segment}, S x y → S' x y)
    (h : State.EndsOn S t s g cs) : State.EndsOn S' t s g cs :=
  ⟨h.queue, h.owners, h.ahead, h.others, weaker h.own, h.due, h.rest⟩

/-- The end of one job of the segment, or of a HELD job. -/
theorem State.EndsOn.endOne (queue : s.QueueOk) (job : s.jobAt i = some j) (live : j.state ≠ .ended)
    (on : j.state = .held ∨ j.segment = g) (own : S ((s.seg g).leaves i j) (s.seg g)) (same : S (s.seg g) (s.seg g)) :
    State.EndsOn S (s.endOne i st c) s g [.jobEnded i] := by
  obtain ⟨reports, claims, seq, attn⟩ := State.endWrites_queue (s := s) (i := i) (j := j) (st := st) (c := c)
  have wrote : (s.endWrites i j st c).QueueOk := by
    unfold State.QueueOk
    rw [reports, claims, seq, attn]
    exact queue
  obtain ⟨body, form⟩ : ∃ body, formReport (s.endWrites i j st c) (.jobEnded i) = some (0x81, body) :=
    ⟨_, formReport_jobEnded State.endWrites_jobAt_self rfl⟩
  obtain ⟨queue', owners, ahead⟩ := State.placeClaim_owners wrote form
  have placed := State.endOne_eq (st := st) (c := c) job live
  have whole : s.endOne i st c = { s.endWrites i j st c with
      reports := (s.endOne i st c).reports, claims := (s.endOne i st c).claims
      nextSeq := (s.endOne i st c).nextSeq, attn := (s.endOne i st c).attn } := by
    rw [placed]
    obtain ⟨-, -, placed⟩ | ⟨-, placed⟩ := State.placeClaim_cases wrote form
    · rw [placed]; rfl
    · rw [placed]
  have seg (k : Seg) : (s.endOne i st c).seg k = if k = j.segment then (s.seg k).leaves i j else s.seg k := by
    rw [whole]
    exact State.endWrites_seg (st := st) (c := c) k
  have stays (held : j.state = .held) (k : Seg) : (s.seg k).leaves i j = s.seg k := by
    simp only [Segment.leaves, held]
  have due : (s.endOne i st c).choiceDue = (if j.state = .backoff then s.markChoice j.segment else s).choiceDue := by
    rw [whole]
    show (s.endWrites i j st c).choiceDue = _
    rw [State.endWrites_eq]
  have rest : s.endOne i st c = { s with
      slots := (s.endOne i st c).slots, heldSet := (s.endOne i st c).heldSet, segs := (s.endOne i st c).segs
      reports := (s.endOne i st c).reports, claims := (s.endOne i st c).claims, nextSeq := (s.endOne i st c).nextSeq
      attn := (s.endOne i st c).attn, choiceDue := (s.endOne i st c).choiceDue } := by
    rw [whole, State.endWrites_eq]
    unfold State.markChoice
    split
    · split <;> rfl
    · rfl
  refine ⟨placed ▸ queue', ?_, ?_, fun k other => ?_, ?_, fun k hk => ?_, rest⟩
  · rw [placed, owners, State.owners, reports, claims]
    rfl
  · rwa [placed, ← reports]
  · rw [seg]
    split
    · next is =>
      rcases on with held | here
      · exact stays held k
      · exact absurd (is.trans here) other
    · rfl
  · rw [seg]
    split
    · exact own
    · exact same
  · rw [due] at hk
    split at hk
    · next backoff =>
      have here : j.segment = g := on.resolve_left (by simp [backoff])
      exact here ▸ (State.mem_markChoice_iff s j.segment k).mp hk
    · exact .inl hk

theorem State.EndsOn.refl (S : Segment → Segment → Prop) (queue : s.QueueOk) (same : S (s.seg g) (s.seg g)) :
    State.EndsOn S s s g [] :=
  ⟨queue, (List.append_nil _).symm, List.prefix_rfl, fun _ _ => rfl, same, fun _ => .inl, rfl⟩

theorem Segment.leaves_left (sg : Segment) (i : Slot) (j : Job) : (sg.leaves i j).Left sg := by
  rw [Segment.Left, Segment.leaves_eq]

theorem Segment.leaves_listed {sg : Segment} (waits : j.state.isCurrent = false) : (sg.leaves i j).Listed sg := by
  have other : ¬ (j.state = .active ∨ j.state = .backoff) := by
    rintro (active | backoff)
    · simp [active, JobState.isCurrent] at waits
    · simp [backoff, JobState.isCurrent] at waits
  rw [Segment.Listed, Segment.leaves_eq]
  simp only [if_neg other]

/-- The ends of waiting jobs of the segment and of HELD jobs, one after the other. -/
theorem State.Ends.endsOn {ks : List Slot} (h : State.Ends (Job.waitsOrHeld g) s ks t) (queue : s.QueueOk) :
    State.EndsOn Segment.Listed t s g (ks.map .jobEnded) := by
  induction h with
  | none s => exact .refl _ queue rfl
  | one s i j st c rest t job live failed kind _ ih =>
    have waits : j.state.isCurrent = false := by
      rcases kind with held | flushed
      · simp [held, JobState.isCurrent]
      · simp only [Job.flushed, Bool.and_eq_true, Bool.or_eq_true, beq_iff_eq] at flushed
        obtain ⟨-, (staging | held) | queued⟩ := flushed <;> simp [*, JobState.isCurrent]
    have on : j.state = .held ∨ j.segment = g := kind.imp_right fun flushed => by
      simp only [Job.flushed, Bool.and_eq_true, beq_iff_eq] at flushed
      exact flushed.1
    have one := State.EndsOn.endOne (S := Segment.Listed) (st := st) (c := c) queue job live on (Segment.leaves_listed waits) rfl
    exact (ih one.queue).trans (fun h k => h.trans k) one

end EndsOn

/-! ### The sweep and the service of a disable -/

section Rest

variable {s : State} {g : Seg}

/-- In `v` a disable has ended the work of the Enrolment Engine of `u` ABORTED, if there was one (R116, R158). -/
structure State.Aborted (v u : State) (g : Seg) : Prop where
  queue : v.QueueOk
  owners : v.owners = u.owners ++
    if (u.seg g).engine.state ≠ .none ∧ (u.seg g).sweepClaim = none then [.sweepEnded g] else []
  ahead : u.reports <+: v.reports
  others : ∀ k, k ≠ g → v.seg k = u.seg k
  own : v.seg g = { u.seg g with
    engine := if (u.seg g).engine.state = .none then (u.seg g).engine else Engine.reset, sweepClaim := (v.seg g).sweepClaim }
  rest : v = { u with
    segs := v.segs, reports := v.reports, claims := v.claims, nextSeq := v.nextSeq, attn := v.attn }
  merged : (u.seg g).engine.state ≠ .none → ∀ old, (u.seg g).sweepClaim = some old →
    (v.seg g).sweepClaim = some ⟨.aborted, (u.seg g).engine.assigned, min (old.ends + 1) 255⟩
  placed : (u.seg g).engine.state ≠ .none → (u.seg g).sweepClaim = none →
    (.sweepEnded g ∈ v.claims → (v.seg g).sweepClaim = some ⟨.aborted, (u.seg g).engine.assigned, 1⟩) ∧
    (.sweepEnded g ∉ v.claims → (v.seg g).sweepClaim = none ∧
      ∃ q, ⟨0x89, q, [byteOf g.val, 6, byteOf (u.seg g).engine.assigned, 1], .sweepEnded g, false⟩ ∈ v.reports)

theorem State.abortSweep_idle (idle : (s.seg g).engine.state = .none) : s.abortSweep g = s :=
  if_neg (by simp [Engine.busy, idle])

/-- The engine reset, with the claim that tells of the end (R116). -/
def Segment.aborted (sg : Segment) (n : Nat) : Segment :=
  { sg with engine := Engine.reset, sweepClaim := some ⟨.aborted, sg.engine.assigned, n⟩ }

theorem State.abortSweep_merges (works : (s.seg g).engine.state ≠ .none) {old : SweepClaim}
    (claim : (s.seg g).sweepClaim = some old) : s.abortSweep g = s.modSeg g (·.aborted (min (old.ends + 1) 255)) := by
  have busy : (s.seg g).engine.busy = true := by simpa [Engine.busy] using works
  simp only [State.abortSweep, busy, if_true, State.endSweep, claim, Option.isSome_some]
  exact State.modSeg_congr s g (by simp [claim, sweepClaimAfter, bump, Segment.aborted, Config.countLimit])

theorem State.abortSweep_places (works : (s.seg g).engine.state ≠ .none) (none : (s.seg g).sweepClaim = none) :
    s.abortSweep g = (s.modSeg g (·.aborted 1)).placeClaim (.sweepEnded g) := by
  have busy : (s.seg g).engine.busy = true := by simpa [Engine.busy] using works
  simp only [State.abortSweep, busy, if_true, State.endSweep, none, Option.isSome_none, Bool.false_eq_true, if_false]
  exact congrArg (State.placeClaim · (.sweepEnded g))
    (State.modSeg_congr s g (by simp [none, sweepClaimAfter, Segment.aborted]))

theorem State.abortSweep_aborted (queue : s.QueueOk) : (s.abortSweep g).Aborted s g := by
  by_cases idle : (s.seg g).engine.state = .none
  · rw [State.abortSweep_idle idle]
    refine ⟨queue, by simp [idle], List.prefix_rfl, fun _ _ => rfl, by simp [idle], rfl, ?_, ?_⟩
    · exact fun works => absurd idle works
    · exact fun works => absurd idle works
  cases claim : (s.seg g).sweepClaim with
  | some old =>
    rw [State.abortSweep_merges idle claim]
    refine ⟨queue, by simp [State.owners, claim], List.prefix_rfl, fun k other => State.seg_modSeg_ne _ _ _ _ other, ?_, rfl,
      fun _ c same => ?_, fun _ none => ?_⟩
    · rw [State.seg_modSeg_self, if_neg idle]
      rfl
    · rw [State.seg_modSeg_self, ← Option.some.inj (claim.symm.trans same)]
      rfl
    · rw [claim] at none
      cases none
  | none =>
    rw [State.abortSweep_places idle claim]
    have seg : (s.modSeg g (·.aborted 1)).seg g = (s.seg g).aborted 1 := State.seg_modSeg_self _ _ _
    have form : formReport (s.modSeg g (·.aborted 1)) (.sweepEnded g) =
        some (0x89, [byteOf g.val, 6, byteOf (s.seg g).engine.assigned, 1]) := by
      simp only [formReport, seg]
      rfl
    obtain ⟨queue', owners, ahead⟩ := State.placeClaim_owners (s := s.modSeg g (·.aborted 1)) queue form
    have others (k : Seg) (other : k ≠ g) : (s.modSeg g (·.aborted 1)).seg k = s.seg k := State.seg_modSeg_ne _ _ _ _ other
    obtain ⟨none, room, placed⟩ | ⟨full, placed⟩ := State.placeClaim_cases (s := s.modSeg g (·.aborted 1)) queue form
    · have none' : s.claims = [] := none
      rw [placed] at queue' owners ahead ⊢
      have cleared (k : Seg) : (State.modSeg (s.modSeg g (·.aborted 1)) g fun sg => { sg with sweepClaim := Option.none }).seg k =
          if k = g then { (s.seg g).aborted 1 with sweepClaim := Option.none } else s.seg k := by
        split
        · next is => rw [is, State.seg_modSeg_self, seg]
        · next other => rw [State.seg_modSeg_ne _ _ _ _ other, others k other]
      refine ⟨queue', ?_, ahead, fun k other => (cleared k).trans (if_neg other), ?_, rfl, fun _ c same => ?_, fun _ _ => ⟨?_, ?_⟩⟩
      · rw [owners, if_pos ⟨idle, claim⟩]
        rfl
      · refine (cleared g).trans ?_
        rw [if_pos rfl, if_neg idle]
        exact congrArg (fun c => { s.seg g with engine := Engine.reset, sweepClaim := c })
          (congrArg Segment.sweepClaim ((cleared g).trans (if_pos rfl))).symm
      · rw [claim] at same
        cases same
      · intro waits
        exact absurd (none' ▸ waits) List.not_mem_nil
      · exact fun _ => ⟨congrArg Segment.sweepClaim ((cleared g).trans (if_pos rfl)), s.nextSeq, by simp⟩
    · rw [placed] at queue' owners ahead ⊢
      refine ⟨queue', ?_, ahead, fun k other => others k other, ?_, rfl, fun _ c same => ?_, fun _ _ => ⟨fun _ => ?_, fun out => ?_⟩⟩
      · rw [owners, if_pos ⟨idle, claim⟩]
        rfl
      · refine seg.trans ?_
        rw [if_neg idle]
        exact congrArg (fun c => { s.seg g with engine := Engine.reset, sweepClaim := c }) (congrArg Segment.sweepClaim seg).symm
      · rw [claim] at same
        cases same
      · exact congrArg Segment.sweepClaim seg
      · exact absurd (List.mem_append_right _ (List.mem_singleton_self _)) out

end Rest

end Sys2Proof.Machine

/-!
Which jobs a disable ends, and what becomes of each job (R158, R159).
-/

namespace Sys2Proof.Machine

/-! ### The jobs that end -/

/-- A job that a disable ends for itself: the current job of an enabled segment, and with FLUSH one that waits (R158, R159). -/
def Job.disabled (j : Job) (g : Seg) (on flush : Bool) : Prop :=
  on = true ∧ j.state.isCurrent = true ∧ j.segment = g ∨ flush = true ∧ j.flushed g = true

/-- These jobs, in the order in which a disable comes to them. -/
def State.disableRoots (s : State) (g : Seg) (on flush : Bool) : List Slot :=
  (if on then (s.seg g).current.toList else []) ++
    if flush then s.accepted.filter fun i => (s.jobAt i).any (·.flushed g) else []

section Order

variable {s t : State} {o : Option Slot} {roots done ended : List Slot} {i : Slot} {j : Job} {g : Seg} {on flush : Bool}

/-- What has ended is a root or waited on a job that has ended. -/
theorem EndOrder.root_or_waits (h : EndOrder s roots done ended) :
    ∀ k ∈ ended, k ∈ roots ∨ ∃ m ∈ done ++ ended, s.waitsOn k (s.idAt m) = true := by
  induction h with
  | none done => nofun
  | passed i roots done rest mem _ ih => exact fun k hk => (ih k hk).imp_left (List.mem_cons_of_mem _)
  | ends i roots done deps rest fresh sub depends _ ih =>
    have all (m : Slot) : m ∈ done ++ i :: deps ++ rest → m ∈ done ++ (i :: deps ++ rest) := by simp
    intro k hk
    rcases List.mem_append.mp hk with hk | hk
    · rcases List.mem_cons.mp hk with rfl | hk
      · exact .inl (List.mem_cons_self ..)
      · cases ((depends k).mp hk).1 with
        | direct _ waits => exact .inr ⟨i, by simp, waits⟩
        | through m _ below waits =>
          refine .inr ⟨m, ?_, waits⟩
          by_cases old : m ∈ done
          · exact List.mem_append_left _ old
          · exact all m (List.mem_append_left _ (by simp [(depends m).mpr ⟨below, old⟩]))
    · rcases ih k hk with root | ⟨m, mem, waits⟩
      · exact .inl (List.mem_cons_of_mem _ root)
      · exact .inr ⟨m, all m mem, waits⟩

theorem State.mem_disableRoots (base : PlacesOff s o) (job : s.jobAt i = some j) :
    i ∈ s.disableRoots g on flush ↔ j.disabled g on flush := by
  have current : i ∈ (s.seg g).current.toList ↔ j.state.isCurrent = true ∧ j.segment = g := by
    simp [Option.mem_toList, base.current, job]
  have accepted := base.mem_accepted job
  unfold State.disableRoots Job.disabled
  rw [List.mem_append]
  refine or_congr ?_ ?_
  · cases on <;> simp [current]
  · cases flush <;> simp [accepted, job]

end Order

/-! ### The jobs after a disable -/

/-- In `t` a disable of the segment `g` has ended the jobs `ended` of `s`, one that was ACTIVE with the counts `c`. -/
structure State.Disabled (t s : State) (g : Seg) (on flush : Bool) (ended : List Slot) (c : EndCounts) : Prop where
  gen : ∀ k, t.genAt k = s.genAt k
  order : EndOrder s (s.disableRoots g on flush) [] ended
  mem : ∀ i j, s.jobAt i = some j → (i ∈ ended ↔
    j.disabled g on flush ∨ j.state = .held ∧ ∃ id ∈ ended.map s.idAt, j.predecessor = .job id)
  records : ∀ i j, s.jobAt i = some j → i ∈ ended → t.jobAt i = some (j.disabledAs (ended.map s.idAt) c)
  others : ∀ i, i ∉ ended → t.jobAt i = (s.jobAt i).map (·.afterEnds (ended.map s.idAt))
  used : ∀ i ∈ ended, (s.jobAt i).isSome
  heldSet : t.heldSet = s.heldSet.filter fun e => !ended.contains e.slot
  lists : ∀ f c, (t.seg f).classList c = ((s.seg f).classList c).filter fun k => !ended.contains k

section Disabled

variable {s t u b : State} {o : Option Slot} {before ended : List Slot} {i : Slot} {j : Job} {c : EndCounts} {g : Seg}
  {on flush : Bool}

theorem State.DisabledIn.disabled (base : PlacesOff b o) (h : u.DisabledIn b before ended c)
    (order : EndOrder b (b.disableRoots g on flush) [] ended) : u.Disabled b g on flush ended c where
  gen := h.ended.gen
  order := order
  mem i j job := by
    constructor
    · intro mem
      rcases order.root_or_waits i mem with root | ⟨m, is, waits⟩
      · exact .inl ((State.mem_disableRoots base job).mp root)
      · obtain ⟨d, there, held, named⟩ := State.waitsOn_iff.mp waits
        rw [job, Option.some.injEq] at there
        exact .inr (there ▸ ⟨held, _, List.mem_map_of_mem is, named⟩)
    · rintro (root | ⟨held, id, is, named⟩)
      · exact (order.mem_iff.1 i ((State.mem_disableRoots base job).mpr root)).resolve_left List.not_mem_nil
      · obtain ⟨m, mem, rfl⟩ := List.mem_map.mp is
        exact h.closed m mem i (State.waitsOn_iff.mpr ⟨j, job, held, named⟩)
  records i j job mem := h.records i mem j job
  others := h.ended.others
  used i mem := by
    obtain ⟨j, -, -, -, job, -⟩ := h.ended.ended i mem
    simp [job]
  heldSet := h.ended.heldSet
  lists := h.ended.lists

/-- Two states with the same jobs, at the same places, but for what is handed. -/
structure State.SameJobs (t s : State) : Prop where
  slots : t.slots = s.slots
  heldSet : t.heldSet = s.heldSet
  accepted : t.accepted = s.accepted
  lists : ∀ f c, (t.seg f).classList c = (s.seg f).classList c
  current : ∀ f, (t.seg f).current = (s.seg f).current

theorem State.JobsStand.sameJobs (h : t.JobsStand s) : t.SameJobs s where
  slots := h.slots
  heldSet := h.heldSet
  accepted := h.accepted
  lists f c := by
    have places := h.places f
    simp only [Segment.places, Prod.mk.injEq] at places
    obtain ⟨urgent, routine, -, -⟩ := places
    cases c
    · exact urgent
    · exact routine
  current f := congrArg (·.2.2.1) (h.places f)

theorem State.SameJobs.trans (h : u.SameJobs t) (k : t.SameJobs s) : u.SameJobs s :=
  ⟨h.slots.trans k.slots, h.heldSet.trans k.heldSet, h.accepted.trans k.accepted, fun f c => (h.lists f c).trans (k.lists f c),
    fun f => (h.current f).trans (k.current f)⟩

theorem State.SameJobs.withHanded (s : State) (g : Seg) (x : Option Activity) : (s.withHanded g x).SameJobs s := by
  have seg (f : Seg) : ∃ y, (s.withHanded g x).seg f = { s.seg f with handed := y } := by
    by_cases is : f = g
    · exact ⟨x, is ▸ State.seg_modSeg_self _ _ _⟩
    · exact ⟨(s.seg f).handed, State.seg_modSeg_ne _ _ _ _ is⟩
  refine ⟨rfl, rfl, rfl, fun f c => ?_, fun f => ?_⟩
  · obtain ⟨y, is⟩ := seg f
    rw [is]
    cases c <;> rfl
  · obtain ⟨y, is⟩ := seg f
    rw [is]

/-- Dependence is a matter of the Job Table. -/
theorem DependsOn.congr (slots : t.slots = s.slots) {id : JobId} {k : Slot} (h : DependsOn t id k) : DependsOn s id k := by
  have job (k : Slot) : t.jobAt k = s.jobAt k := by simp [State.jobAt, slots]
  have gen (k : Slot) : t.idAt k = s.idAt k := by simp [State.idAt, State.genAt, slots]
  induction h with
  | direct k waits => exact .direct k (by simpa only [State.waitsOn, job] using waits)
  | through m k _ waits ih => exact .through m k ih (by simpa only [State.waitsOn, job, gen] using waits)

theorem EndOrder.congr (slots : t.slots = s.slots) (accepted : t.accepted = s.accepted) {roots done ended : List Slot}
    (h : EndOrder t roots done ended) : EndOrder s roots done ended := by
  have gen (k : Slot) : t.idAt k = s.idAt k := by simp [State.idAt, State.genAt, slots]
  induction h with
  | none done => exact .none done
  | passed i roots done rest mem _ ih => exact .passed i roots done rest mem ih
  | ends i roots done deps rest fresh sub depends _ ih =>
    refine .ends i roots done deps rest fresh (accepted ▸ sub) (fun k => (depends k).trans (and_congr_left fun _ => ?_)) ih
    rw [gen]
    exact ⟨.congr slots, .congr slots.symm⟩

/-- What a disable has ended can be told of the jobs as they stood in any state with the same jobs. -/
theorem State.Disabled.of_same (h : u.Disabled b g on flush ended c) (same : b.SameJobs s) : u.Disabled s g on flush ended c := by
  have job (k : Slot) : b.jobAt k = s.jobAt k := by simp [State.jobAt, same.slots]
  have gen (k : Slot) : b.genAt k = s.genAt k := by simp [State.genAt, same.slots]
  have id : b.idAt = s.idAt := funext fun k => by simp [State.idAt, gen]
  have roots : b.disableRoots g on flush = s.disableRoots g on flush := by
    simp only [State.disableRoots, same.current, same.accepted, job]
  exact ⟨fun k => (h.gen k).trans (gen k), (roots ▸ h.order).congr same.slots same.accepted,
    fun i j there => id ▸ h.mem i j ((job i).trans there), fun i j there => id ▸ h.records i j ((job i).trans there),
    fun i out => id ▸ job i ▸ h.others i out, fun i mem => job i ▸ h.used i mem, same.heldSet ▸ h.heldSet,
    fun f c => same.lists f c ▸ h.lists f c⟩

/-- It stays so while the jobs stand. -/
theorem State.Disabled.stand (h : u.Disabled s g on flush ended c) (same : t.SameJobs u) : t.Disabled s g on flush ended c := by
  have job (k : Slot) : t.jobAt k = u.jobAt k := by simp [State.jobAt, same.slots]
  have gen (k : Slot) : t.genAt k = u.genAt k := by simp [State.genAt, same.slots]
  exact ⟨fun k => (gen k).trans (h.gen k), h.order, h.mem, fun i j there mem => (job i).trans (h.records i j there mem),
    fun i out => (job i).trans (h.others i out), h.used, same.heldSet.trans h.heldSet, fun f c => (same.lists f c).trans (h.lists f c)⟩

/-! ### What becomes of each job -/

theorem Job.disabled.live (h : j.disabled g on flush) : j.state ≠ .ended := by
  rcases h with ⟨-, current, -⟩ | ⟨-, flushed⟩
  · intro ended
    simp [ended, JobState.isCurrent] at current
  · exact (Job.flushed_waits flushed).1

theorem Job.endedAs_nothing (j : Job) (st : EndStatus) : j.ended st .nothing = j.endedAs st 0 [] := rfl

/-- A job has ended after a disable if it had ended before or is among those that the disable ended. -/
theorem State.Disabled.ended_iff (h : t.Disabled s g on flush ended c) (job : s.jobAt i = some j) (live : j.state ≠ .ended) :
    (∃ p, t.jobAt i = some p ∧ p.state = .ended) ↔ i ∈ ended := by
  constructor
  · rintro ⟨p, there, is⟩
    by_contra out
    rw [h.others i out, job, Option.map_some, Option.some.injEq] at there
    exact live (by rw [← Job.afterEnds_state j, there, is])
  · exact fun mem => ⟨_, h.records i j job mem, rfl⟩

/-- The predecessor of a waiting job has ended if the disable ended it. -/
theorem State.Disabled.failed_iff (h : t.Disabled s g on flush ended c) (base : PlacesOff s o) (job : s.jobAt i = some j)
    (waits : j.state = .held ∨ j.state = .staging) :
    (∃ id p, j.predecessor = .job id ∧ t.jobAt id.slot = some p ∧ p.state = .ended) ↔
      ∃ id ∈ ended.map s.idAt, j.predecessor = .job id := by
  constructor
  · rintro ⟨id, p, named, there, is⟩
    obtain ⟨eq, ⟨d, was, live⟩, -⟩ := base.named job waits named
    exact ⟨id, eq ▸ List.mem_map_of_mem ((h.ended_iff was live).mp ⟨p, there, is⟩), named⟩
  · rintro ⟨id, is, named⟩
    obtain ⟨-, ⟨d, was, live⟩, -⟩ := base.named job waits named
    obtain ⟨m, mem, rfl⟩ := List.mem_map.mp is
    obtain ⟨p, there, done⟩ := (h.ended_iff was live).mpr mem
    exact ⟨_, p, named, there, done⟩

theorem State.Disabled.stays (h : t.Disabled s g on flush ended c) (job : s.jobAt i = some j) (other : j.state ≠ .staging)
    (out : i ∉ ended) : t.jobAt i = some j := by
  rw [h.others i out, job, Option.map_some, Job.afterEnds_of_not_staging other]

theorem State.Disabled.endedJob (h : t.Disabled s g on flush ended c) (job : s.jobAt i = some j) (was : j.state = .ended) :
    t.jobAt i = some j := by
  refine h.stays job (by simp [was]) fun mem => ?_
  rcases (h.mem i j job).mp mem with root | ⟨held, -⟩
  · exact root.live was
  · simp [was] at held

theorem State.Disabled.currentJob (h : t.Disabled s g on flush ended c) (job : s.jobAt i = some j)
    (is : j.state.isCurrent = true) :
    (on = true ∧ j.segment = g → t.jobAt i = some (j.ended .segmentDisabled (if j.state = .active then c else .nothing))) ∧
      (¬ (on = true ∧ j.segment = g) → t.jobAt i = some j) := by
  have held : j.state ≠ .held := fun held => by simp [held, JobState.isCurrent] at is
  have staging : j.state ≠ .staging := fun staging => by simp [staging, JobState.isCurrent] at is
  have flushed : j.flushed g = false := by
    cases state : j.state <;> simp_all [Job.flushed, JobState.isCurrent]
  have mem : i ∈ ended ↔ on = true ∧ j.segment = g := by
    simp [h.mem i j job, Job.disabled, is, held, flushed]
  refine ⟨fun root => ?_, fun other => h.stays job staging (mt mem.mp other)⟩
  rw [h.records i j job (mem.mpr root), Job.disabledAs, if_neg (by simp [held]), Job.afterEnds_of_not_staging staging]

theorem Job.flushed_of_waits (waits : j.state = .staging ∨ j.state = .held ∨ j.state = .queued) :
    j.flushed g = true ↔ j.segment = g := by
  unfold Job.flushed
  rcases waits with h | h | h <;> simp [h]

theorem Job.disabled_of_waits (waits : j.state = .staging ∨ j.state = .held ∨ j.state = .queued) :
    j.disabled g on flush ↔ flush = true ∧ j.segment = g := by
  have current : j.state.isCurrent = false := by
    rcases waits with h | h | h <;> simp [h, JobState.isCurrent]
  simp [Job.disabled, current, Job.flushed_of_waits waits]

theorem State.Disabled.queuedJob (h : t.Disabled s g on flush ended c) (job : s.jobAt i = some j) (queued : j.state = .queued) :
    (flush = true ∧ j.segment = g → t.jobAt i = some (j.endedAs .segmentDisabled 0 [])) ∧
      (¬ (flush = true ∧ j.segment = g) → t.jobAt i = some j) := by
  have mem : i ∈ ended ↔ flush = true ∧ j.segment = g := by
    simp [h.mem i j job, Job.disabled_of_waits (.inr (.inr queued)), queued]
  refine ⟨fun root => ?_, fun other => h.stays job (by simp [queued]) (mt mem.mp other)⟩
  rw [h.records i j job (mem.mpr root), Job.disabledAs, if_neg (by simp [queued]), if_neg (by simp [queued]),
    Job.afterEnds_of_not_staging (by simp [queued]), Job.endedAs_nothing]

/-- A HELD job whose predecessor has ended is PREDECESSOR_FAILED, whatever else would end it (R159). -/
theorem State.Disabled.heldJob (h : t.Disabled s g on flush ended c) (job : s.jobAt i = some j) (held : j.state = .held) :
    let failed := ∃ id ∈ ended.map s.idAt, j.predecessor = .job id
    (failed → t.jobAt i = some (j.endedAs .predecessorFailed 0 [])) ∧
      (¬ failed → flush = true ∧ j.segment = g → t.jobAt i = some (j.endedAs .segmentDisabled 0 [])) ∧
      (¬ failed → ¬ (flush = true ∧ j.segment = g) → t.jobAt i = some j) := by
  intro failed
  have mem : i ∈ ended ↔ (flush = true ∧ j.segment = g) ∨ failed := by
    rw [h.mem i j job, Job.disabled_of_waits (.inr (.inl held))]
    exact or_congr_right (and_iff_right held)
  have record (is : i ∈ ended) : t.jobAt i =
      some (j.ended (if failed then .predecessorFailed else .segmentDisabled) .nothing) := by
    rw [h.records i j job is, Job.disabledAs, if_neg (c := j.state = .active) (by simp [held]),
      Job.afterEnds_of_not_staging (by simp [held])]
    exact congrArg (fun st => some (j.ended st .nothing)) (if_congr (and_iff_right held) rfl rfl)
  refine ⟨fun fails => ?_, fun not root => ?_, fun not other => ?_⟩
  · rw [record (mem.mpr (.inr fails)), if_pos fails, Job.endedAs_nothing]
  · rw [record (mem.mpr (.inl root)), if_neg not, Job.endedAs_nothing]
  · exact h.stays job (by simp [held]) fun is => (mem.mp is).elim other not

theorem State.Disabled.stagingJob (h : t.Disabled s g on flush ended c) (job : s.jobAt i = some j) (staging : j.state = .staging) :
    let failed := ∃ id ∈ ended.map s.idAt, j.predecessor = .job id
    ∃ p, (failed → p = .failed) ∧ (¬ failed → p = j.predecessor) ∧
      (flush = true ∧ j.segment = g → t.jobAt i = some (({ j with predecessor := p } : Job).endedAs .segmentDisabled 0 [])) ∧
      (¬ (flush = true ∧ j.segment = g) → t.jobAt i = some { j with predecessor := p }) := by
  intro failed
  have mem : i ∈ ended ↔ flush = true ∧ j.segment = g := by
    simp [h.mem i j job, Job.disabled_of_waits (.inl staging), staging]
  have named := Job.afterEnds_eq j (ended.map s.idAt)
  refine ⟨(j.afterEnds (ended.map s.idAt)).predecessor, fun fails => ?_, fun not => ?_, fun root => ?_, fun other => ?_⟩
  · rw [Job.afterEnds, if_pos ⟨staging, fails⟩]
  · rw [Job.afterEnds, if_neg fun both => not both.2]
  · rw [h.records i j job (mem.mpr root), Job.disabledAs, if_neg (c := j.state = .active) (by simp [staging]),
      if_neg (by simp [staging]), ← named, Job.endedAs_nothing]
  · rw [h.others i (mt mem.mp other), job, Option.map_some, ← named]

/-! ### What becomes of the lists -/

/-- After a FLUSH no job of the segment waits (R159). -/
theorem State.Disabled.none_waits (h : t.Disabled s g on true ended c) {j' : Job} (job : t.jobAt i = some j')
    (here : j'.segment = g) : j'.state ≠ .staging ∧ j'.state ≠ .held ∧ j'.state ≠ .queued := by
  suffices never : ¬ j'.flushed g = true by
    refine ⟨fun is => never ?_, fun is => never ?_, fun is => never ?_⟩ <;> simp [Job.flushed, here, is]
  intro flushed
  by_cases mem : i ∈ ended
  · obtain ⟨j, was⟩ := Option.isSome_iff_exists.mp (h.used i mem)
    rw [h.records i j was mem, Option.some.injEq] at job
    exact (Job.flushed_waits flushed).1 (job ▸ rfl)
  · rw [h.others i mem, Option.map_eq_some_iff] at job
    obtain ⟨j, was, rfl⟩ := job
    rw [Job.afterEnds_flushed] at flushed
    exact mem ((h.mem i j was).mpr (.inl (.inr ⟨rfl, flushed⟩)))

/-- KEEP leaves the class lists of the segment, and FLUSH empties them (R159). -/
theorem State.Disabled.classList (h : t.Disabled s g on flush ended c) (base : PlacesOff s o) (cl : JobClass) :
    (t.seg g).classList cl = if flush then [] else (s.seg g).classList cl := by
  have mem (i : Slot) (is : i ∈ (s.seg g).classList cl) : i ∈ ended ↔ flush = true := by
    obtain ⟨j, job, queued, on, -⟩ := ((base.lists g cl).2 i).mp is
    simp [h.mem i j job, Job.disabled_of_waits (.inr (.inr queued)), queued, on]
  rw [h.lists]
  split
  · next flushes =>
    refine List.filter_eq_nil_iff.mpr fun i is => ?_
    simp [(mem i is).mpr flushes]
  · next keeps =>
    refine List.filter_eq_self.mpr fun i is => ?_
    simp [mt (mem i is).mp keeps]

theorem State.Disabled.heldSet_eq (h : t.Disabled s g on flush ended c) (base : PlacesOff s o) :
    t.heldSet = s.heldSet.filter fun x => (t.jobAt x.slot).any (·.state == .held) := by
  rw [h.heldSet]
  refine List.filter_congr fun e mem => ?_
  obtain ⟨j, job, held⟩ := (base.held.2 e.slot).mp (List.mem_map_of_mem mem)
  by_cases is : e.slot ∈ ended
  · rw [h.records _ j job is]
    simp [is, Job.disabledAs, Job.ended]
  · rw [h.stays job (by simp [held]) is]
    simp [is, held]

end Disabled

end Sys2Proof.Machine

/-!
The jobs of a disable as a whole: those that end for themselves, one after the other, with the claims in the order of the ends
(R158, R159).
-/

namespace Sys2Proof.Machine

variable {s u b : State} {o : Option Slot} {done : List Slot} {c : EndCounts} {g : Seg}

theorem EndOrder.append {roots roots' ended ended' : List Slot} (h : EndOrder s roots done ended)
    (k : EndOrder s roots' (done ++ ended) ended') : EndOrder s (roots ++ roots') done (ended ++ ended') := by
  induction h with
  | none done => simpa using k
  | passed i roots done rest mem _ ih => exact .passed i _ done _ mem (ih k)
  | ends i roots done deps rest fresh sub depends _ ih =>
    rw [List.append_assoc]
    exact .ends i _ done deps _ fresh sub depends (ih (by simpa using k))

/-- The current job ends, and what waits on it (R158). -/
theorem PlacesOff.endCurrent_disabled (base : PlacesOff b o) (g : Seg) (c : EndCounts) :
    ∃ ended : List Slot, EndOrder b (b.seg g).current.toList [] ended ∧ (b.endCurrent g c).DisabledIn b [] ended c ∧
      (b.QueueOk → State.EndsOn Segment.Left (b.endCurrent g c) b g (ended.map .jobEnded)) := by
  cases own : (b.seg g).current with
  | none =>
    have same : b.endCurrent g c = b := by simp only [State.endCurrent, own]
    rw [same]
    exact ⟨[], .none _, .refl b c, fun queue => .refl _ queue rfl⟩
  | some i =>
    obtain ⟨j, job, is, on⟩ := (base.current g i).mp own
    have live : j.state ≠ .ended := fun ended => by simp [ended, JobState.isCurrent] at is
    have rests : ¬ (j.state = .held ∨ j.state = .staging) := by
      rintro (held | staging)
      · simp [held, JobState.isCurrent] at is
      · simp [staging, JobState.isCurrent] at is
    have ends : b.endCurrent g c = b.endJob i .segmentDisabled (if j.state = .active then c else .nothing) := by
      simp only [State.endCurrent, own, job]
    obtain ⟨deps, sub, depends, disabled, run⟩ := (State.DisabledIn.refl b c).endJob base (before' := [])
      List.not_mem_nil job live nofun nofun fun waits => absurd waits rests
    rw [ends]
    refine ⟨i :: deps, ?_, disabled, fun queue => ?_⟩
    · exact List.append_nil (i :: deps) ▸ .ends i [] [] deps [] List.not_mem_nil sub depends (.none _)
    · have one := State.EndsOn.endOne (S := Segment.Left) (st := .segmentDisabled)
        (c := if j.state = .active then c else .nothing) queue job live (.inr on) (Segment.leaves_left _ i j) rfl
      have rest := (State.Ends.cascaded (P := Job.waitsOrHeld g)
        (u := b.endOne i .segmentDisabled (if j.state = .active then c else .nothing)) (fun _ held => .inl held) deps
        (sub.nodup base.accepted.1) fun m mem => by
          obtain ⟨d, there, held⟩ := ((depends m).mp mem).1.held
          exact ⟨d, State.endOne_held job live there held (((depends m).mp mem).1.ne base), held⟩).endsOn one.queue
      rw [run]
      exact (rest.mono Segment.Listed.left).trans (fun h k => h.trans k) one

/-- With FLUSH the jobs end that wait, and with KEEP none (R159). -/
theorem State.DisabledIn.flush_or_keep (base : PlacesOff b o) (g : Seg) (flush : Bool) (h : u.DisabledIn b [] done c) :
    ∃ ended before : List Slot,
      EndOrder b (if flush then b.accepted.filter fun i => (b.jobAt i).any (·.flushed g) else []) done ended ∧
      (if flush then u.flush g else u).DisabledIn b before (done ++ ended) c ∧
      (u.QueueOk → State.EndsOn Segment.Listed (if flush then u.flush g else u) u g (ended.map .jobEnded)) := by
  cases flush with
  | false => exact ⟨[], [], .none _, by simpa using h, fun queue => .refl _ queue rfl⟩
  | true =>
    obtain ⟨ended, order, disabled, ends⟩ := h.flush base g
    exact ⟨ended, b.accepted, order, disabled, ends.endsOn⟩

/-- The lines released, every place but that of what was handed is as it was. -/
theorem PlacesOk.released (h : PlacesOk s) (g : Seg) : ∃ o, PlacesOff (s.modSeg g (·.release)) o := by
  have left : (s.modSeg g (·.release)).JobsStand (s.withHanded g none) := .rehand s g rfl
  by_cases handed : ∃ i, (s.seg g).handed = some (.job i)
  · obtain ⟨i, handed⟩ := handed
    exact ⟨some i, (h.dropped handed left).1⟩
  · exact ⟨none, (h.droppedOther (not_exists.mp handed) left).off⟩

theorem State.released_sameJobs (s : State) (g : Seg) (cut : BusCut) :
    ((s.cutPresence g cut).modSeg g (·.release)).SameJobs s :=
  have left : ((s.cutPresence g cut).modSeg g (·.release)).JobsStand ((s.cutPresence g cut).withHanded g none) :=
    .rehand _ g rfl
  left.sameJobs.trans ((State.SameJobs.withHanded _ g none).trans (State.Calm.cutPresence s g cut).jobsStand.sameJobs)

/-- The jobs of a disable of an enabled segment. -/
theorem PlacesOk.jobsDisabled_disabled (h : PlacesOk s) (g : Seg) (flush : Bool) (cut : BusCut) :
    ∃ ended : List Slot, (s.jobsDisabled g flush cut).Disabled s g true flush ended (s.cutRun g cut) ∧
      ((s.cutPresence g cut).QueueOk → State.EndsOn Segment.Left (s.jobsDisabled g flush cut)
        ((s.cutPresence g cut).modSeg g (·.release)) g (ended.map .jobEnded)) := by
  obtain ⟨o, base⟩ := (h.stand (State.Calm.cutPresence s g cut).jobsStand).released g
  obtain ⟨first, order, current, claims⟩ := base.endCurrent_disabled g (s.cutRun g cut)
  obtain ⟨second, before, order', rest, claims'⟩ := current.flush_or_keep base g flush
  refine ⟨first ++ second, (rest.disabled base ?_).of_same (State.released_sameJobs s g cut), fun queue => ?_⟩
  · exact order.append order'
  · have one := claims queue
    rw [List.map_append]
    exact ((claims' one.queue).mono Segment.Listed.left).trans (fun h k => h.trans k) one

/-- The jobs of a disable of a segment that is disabled (R158). -/
theorem PlacesOk.flush_disabled (h : PlacesOk s) (g : Seg) (flush : Bool) (c : EndCounts) :
    ∃ ended : List Slot, (if flush then s.flush g else s).Disabled s g false flush ended c ∧
      (s.QueueOk → State.EndsOn Segment.Listed (if flush then s.flush g else s) s g (ended.map .jobEnded)) := by
  obtain ⟨ended, before, order, rest, claims⟩ := (State.DisabledIn.refl s c).flush_or_keep h.off g flush
  exact ⟨ended, rest.disabled h.off order, claims⟩

end Sys2Proof.Machine

/-!
Before and after the jobs of a disable: the Roster is told of the address bytes of the attempt cut off (log entry 7), and the
service is abandoned (R136), each with its claim.
-/

namespace Sys2Proof.Machine

/-! ### The receiver does not matter to a claim -/

section Hunting

variable {s : State} {j : Job} {r : TxRun} {g : Seg} {cut : BusCut}

theorem formReport_hunting (s : State) (c : Claimant) : formReport s.hunting c = formReport s c := by
  cases c <;> rfl

theorem clearClaim_hunting (s : State) (c : Claimant) : clearClaim s.hunting c = (clearClaim s c).hunting := by
  cases c with
  | notice g =>
    simp only [clearClaim, State.noticeChoice, State.markChoice]
    have seg (f : Segment → Segment) (k : Seg) : (s.hunting.modSeg g f).seg k = (s.modSeg g f).seg k := rfl
    have due (f : Segment → Segment) : (s.hunting.modSeg g f).choiceDue = (s.modSeg g f).choiceDue := rfl
    rw [seg, due]
    repeat' split
    all_goals rfl
  | _ => rfl

theorem takeOldestClaim_hunting (s : State) : takeOldestClaim s.hunting = (takeOldestClaim s).hunting := by
  unfold takeOldestClaim
  have claims : s.hunting.claims = s.claims := rfl
  rw [claims]
  cases s.claims with
  | nil => rfl
  | cons c rest =>
    have form : formReport s.hunting c = formReport s c := formReport_hunting s c
    simp only [form]
    cases formReport s c with
    | none => rfl
    | some r => exact congrArg (State.enqueueReport · c r.1 r.2) (clearClaim_hunting { s with claims := rest } c)

theorem takeClaims_hunting (n : Nat) (s : State) : takeClaims n s.hunting = (takeClaims n s).hunting := by
  induction n generalizing s with
  | zero => rfl
  | succ n ih =>
    unfold takeClaims
    rw [takeOldestClaim_hunting, ih, apply_ite State.hunting]
    rfl

theorem State.placeClaim_hunting (s : State) (c : Claimant) : s.hunting.placeClaim c = (s.placeClaim c).hunting :=
  takeClaims_hunting _ { s with claims := s.claims ++ [c] }

theorem State.entryBecomes_hunting (s : State) (h : Handle) (new : Entry) (old : EntryState) :
    s.hunting.entryBecomes h new old = (s.entryBecomes h new old).hunting := by
  unfold State.entryBecomes
  rw [apply_ite State.hunting, apply_ite State.hunting, ← State.placeClaim_hunting]
  rfl

theorem State.presenceAck_hunting (s : State) (j : Job) (r : TxRun) :
    s.hunting.presenceAck j r = (s.presenceAck j r).hunting := by
  have entry : s.hunting.presenceEntry j = s.presenceEntry j := rfl
  unfold State.presenceAck
  rw [entry]
  cases s.presenceEntry j with
  | none => rfl
  | some h =>
    simp only [apply_ite State.hunting]
    refine if_congr Iff.rfl rfl ?_
    cases there : s.entryAt h with
    | none =>
      have there' : s.hunting.entryAt h = none := there
      simp [State.ackSignal, there, there']
    | some e =>
      rw [State.ackSignal_eq there, State.ackSignal_eq (s := s.hunting) there, State.entryBecomes_hunting]

end Hunting

/-! ### The Roster is told -/

/-- In `t` the Roster has been told of something in `s`: its claims stand last, and no other claim has been placed. -/
structure State.Told (t s : State) : Prop where
  queue : t.QueueOk
  ahead : s.reports <+: t.reports
  owners : ∃ cs, t.owners = s.owners ++ cs ∧ ∀ g ix what, .station g ix what ∉ cs
  rest : t = { s with roster := t.roster, reports := t.reports, claims := t.claims, nextSeq := t.nextSeq, attn := t.attn }

section Told

variable {s : State} {j : Job} {r : TxRun} {h : Handle}

theorem State.Told.of_silent {t : State} (queue : s.QueueOk) (silent : t = { s with roster := t.roster }) : t.Told s := by
  rw [silent]
  exact ⟨queue, List.prefix_rfl, ⟨[], (List.append_nil _).symm, by simp⟩, rfl⟩

theorem State.entryBecomes_told (queue : s.QueueOk) (h : Handle) (new : Entry) (old : EntryState) :
    (s.entryBecomes h new old).Told s := by
  unfold State.entryBecomes
  split
  · exact .of_silent queue rfl
  · split
    · exact .of_silent queue rfl
    · generalize claimed : ({ new with claimWaiting := true, changes := 1, created := false, moved := false } : Entry) = e
      have form : formReport (s.putEntry h (some e)) (.roster h) = some (0x88, rosterChangedBody h e) := by
        simp only [formReport, State.entryAt_putEntry_self, Option.map_some]
      obtain ⟨queue', owners, ahead⟩ := State.placeClaim_owners (s := s.putEntry h (some e)) queue form
      refine ⟨queue', ahead, ⟨[.roster h], owners, by simp⟩, ?_⟩
      obtain ⟨-, -, placed⟩ | ⟨-, placed⟩ := State.placeClaim_cases (s := s.putEntry h (some e)) queue form
      · rw [placed]; rfl
      · rw [placed]; rfl

theorem State.presenceAck_told (queue : s.QueueOk) (j : Job) (r : TxRun) : (s.presenceAck j r).Told s := by
  unfold State.presenceAck
  split
  · next h _ =>
    split
    · exact .of_silent queue rfl
    · cases there : s.entryAt h with
      | none =>
        have same : s.ackSignal h = s := by simp only [State.ackSignal, there]
        rw [same]
        exact .of_silent queue rfl
      | some e => exact State.ackSignal_eq there ▸ State.entryBecomes_told queue h _ _
  · exact .of_silent queue rfl

theorem State.cutPresence_told (queue : s.QueueOk) (g : Seg) (cut : BusCut) : (s.cutPresence g cut).Told s := by
  unfold State.cutPresence
  repeat' split
  · exact State.presenceAck_told queue _ _
  · exact .of_silent queue rfl
  · exact .of_silent queue rfl

/-- A claim that has not been placed since waits if it waited. -/
theorem State.mem_claims_iff {t : State} {cs : List Claimant} {c : Claimant} (queue : s.QueueOk) (queue' : t.QueueOk)
    (owners : t.owners = s.owners ++ cs) (ahead : s.reports <+: t.reports) (other : c ∉ cs) : c ∈ t.claims ↔ c ∈ s.claims := by
  obtain ⟨more, reports⟩ := ahead
  have rest : more.map (·.owner) ++ t.claims = s.claims ++ cs := by
    rw [State.owners, State.owners, ← reports, List.map_append, List.append_assoc, List.append_assoc] at owners
    exact List.append_cancel_left owners
  by_cases none : s.claims = []
  · rw [none, List.nil_append] at rest
    rw [none]
    refine iff_of_false (fun mem => other ?_) List.not_mem_nil
    exact rest ▸ List.mem_append_right _ mem
  · have full := queue.claims none
    have most := queue'.reports.size
    rw [← reports, List.length_append] at most
    have nothing : more = [] := List.length_eq_zero_iff.mp (by omega)
    rw [nothing] at rest
    rw [show t.claims = s.claims ++ cs from rest, List.mem_append, or_iff_left other]

end Told

/-! ### The service is abandoned -/

/-- The READ_SERVED claim that the abandonment of a read places, unless the station has one waiting (R135, R136). -/
def State.readClaim (s : State) (g : Seg) : List Claimant :=
  match (s.seg g).service with
  | .reading ix _ _ => if .station g ix .served ∈ s.claims then [] else [.station g ix .served]
  | _ => []

/-- A station record after an abandoned read, whose count has gone with its claim unless that waits (R129, R135). -/
def Station.abandoned (st : Station) (p : PostedReply) (current : Bool) (n : Nat) (waits : Bool) : Station :=
  { st with
    served := if waits then min (st.served + 1) 255 else 0
    lastLength := min n 255
    lastOverread := min (n - p.bytes.length) 255
    posted := if current = true ∧ p.standing = false then none else st.posted }

/-- The pool with the blocks of a message discarded (R136). -/
def State.poolBack (s : State) (g : Seg) : Nat :=
  match (s.seg g).service with
  | .receiving m => s.poolFree + (m.bytes.length + 31) / 32
  | _ => s.poolFree

/-- In `v` the service of the segment `g` of `u` has been abandoned (R136). -/
structure State.Abandoned (v u : State) (g : Seg) (n : Nat) : Prop where
  queue : v.QueueOk
  owners : v.owners = u.owners ++ u.readClaim g
  ahead : u.reports <+: v.reports
  others : ∀ k, k ≠ g → v.seg k = u.seg k
  own : v.seg g = { u.seg g with service := .none, stations := (v.seg g).stations }
  rest : v = { u with
    segs := v.segs, poolFree := v.poolFree, reports := v.reports, claims := v.claims, nextSeq := v.nextSeq, attn := v.attn }
  station : ∀ ix, (v.seg g).station ix = match (u.seg g).service with
    | .reading k p current =>
      if ix = k then ((u.seg g).station ix).abandoned p current n (decide (.station g ix .served ∈ v.claims))
      else (u.seg g).station ix
    | _ => (u.seg g).station ix
  pool : v.poolFree = u.poolBack g

section Abandoned

variable {s : State} {g : Seg} {ix : StationIx} {p : PostedReply} {current : Bool} {n : Nat}

/-- The segment with a read recorded whose claim waits. -/
def Segment.readDone (sg : Segment) (ix : StationIx) (p : PostedReply) (current : Bool) (n : Nat) : Segment :=
  { sg.modStation ix (·.abandoned p current n true) with service := .passive }

/-- The segment after an abandoned read. -/
def Segment.readOver (sg : Segment) (ix : StationIx) (p : PostedReply) (current : Bool) (n : Nat) (waits : Bool) : Segment :=
  { sg.modStation ix (·.abandoned p current n waits) with service := .none }

/-- The count goes with the claim (R135). -/
theorem Segment.readDone_clear (sg : Segment) :
    ({ (sg.readDone ix p current n).modStation ix (·.clearCount .served) with service := .none } : Segment) =
      sg.readOver ix p current n false := by
  simp [Segment.readDone, Segment.readOver, Segment.modStation, Segment.station, Station.clearCount, Station.abandoned]

/-- An abandoned read: its claim waits already, or enters at once with the count, or waits now (R129, R135). -/
theorem State.serviceGone_reading (queue : s.QueueOk) (service : (s.seg g).service = .reading ix p current) (n : Nat) :
    (.station g ix .served ∈ s.claims ∧ s.serviceGone g n = s.modSeg g (·.readOver ix p current n true)) ∨
    (s.claims = [] ∧ ∃ body, s.serviceGone g n = { s.modSeg g (·.readOver ix p current n false) with
      reports := s.reports ++ [⟨0x84, s.nextSeq, body, .station g ix .served, false⟩]
      nextSeq := s.nextSeq + 1, attn := true }) ∨
    (.station g ix .served ∉ s.claims ∧ s.serviceGone g n = { s.modSeg g (·.readOver ix p current n true) with
      claims := s.claims ++ [.station g ix .served] }) := by
  have gone : s.serviceGone g n = ((s.modSeg g (·.readDone ix p current n)).placeClaimOnce (.station g ix .served)).modSeg g
      fun sg => { sg with service := .none } := by
    simp only [State.serviceGone, service]
    rfl
  have ended : (s.modSeg g (·.readDone ix p current n)).modSeg g (fun sg => { sg with service := .none }) =
      s.modSeg g (·.readOver ix p current n true) := State.modSeg_modSeg ..
  have queue' : (s.modSeg g (·.readDone ix p current n)).QueueOk := queue
  have claims : (s.modSeg g (·.readDone ix p current n)).claims = s.claims := rfl
  rw [gone, State.placeClaimOnce, claims]
  by_cases waits : .station g ix .served ∈ s.claims
  · rw [if_pos waits]
    exact .inl ⟨waits, ended⟩
  · rw [if_neg waits]
    obtain ⟨none, -, placed⟩ | ⟨-, placed⟩ := State.placeClaim_cases (c := .station g ix .served) queue' rfl
    · refine .inr (.inl ⟨none, stationBody g ((s.modSeg g (·.readDone ix p current n)).seg g) ix .served, ?_⟩)
      have cleared : ((s.modSeg g (·.readDone ix p current n)).modSeg g
          (·.modStation ix (·.clearCount .served))).modSeg g (fun sg => { sg with service := .none }) =
            s.modSeg g (·.readOver ix p current n false) := by
        rw [State.modSeg_modSeg, State.modSeg_modSeg]
        exact State.modSeg_congr s g (Segment.readDone_clear _)
      rw [placed, ← cleared]
      rfl
    · refine .inr (.inr ⟨waits, ?_⟩)
      rw [placed, ← ended]
      rfl

theorem Segment.readOver_station (sg : Segment) (waits : Bool) (k : StationIx) : (sg.readOver ix p current n waits).station k =
    if k = ix then (sg.station k).abandoned p current n waits else sg.station k := by
  refine (Segment.modStation_station sg ix k (·.abandoned p current n waits)).trans ?_
  split
  · next is => rw [is]
  · rfl

/-- The three cases in one: what has become of the queue and the claims. -/
theorem State.serviceGone_queue (queue : s.QueueOk) (service : (s.seg g).service = .reading ix p current) (n : Nat) :
    ∃ (rs : List Report) (cs : List Claimant) (q : BitVec 8) (a : Bool),
      s.serviceGone g n = { s.modSeg g (·.readOver ix p current n (decide (.station g ix .served ∈ cs))) with
        reports := rs, claims := cs, nextSeq := q, attn := a } ∧
      rs.map (·.owner) ++ cs = s.owners ++ s.readClaim g ∧ s.reports <+: rs := by
  have claim : s.readClaim g = if .station g ix .served ∈ s.claims then [] else [.station g ix .served] := by
    simp only [State.readClaim, service]
  obtain ⟨waits, gone⟩ | ⟨none, body, gone⟩ | ⟨quiet, gone⟩ := State.serviceGone_reading queue service n
  · refine ⟨s.reports, s.claims, s.nextSeq, s.attn, ?_, ?_, List.prefix_rfl⟩
    · rw [gone, decide_eq_true waits]
      rfl
    · simp [claim, waits, State.owners]
  · refine ⟨_, [], s.nextSeq + 1, true, ?_, ?_, List.prefix_append s.reports [⟨0x84, s.nextSeq, body, .station g ix .served, false⟩]⟩
    · rw [gone, decide_eq_false List.not_mem_nil, ← none]
      rfl
    · simp [claim, none, State.owners]
  · refine ⟨s.reports, s.claims ++ [.station g ix .served], s.nextSeq, s.attn, ?_, ?_, List.prefix_rfl⟩
    · rw [gone, decide_eq_true (List.mem_append_right _ (List.mem_singleton_self _))]
      rfl
    · simp [claim, quiet, State.owners]

theorem State.serviceGone_abandoned (queue : s.QueueOk) (g : Seg) (n : Nat) : (s.serviceGone g n).Abandoned s g n := by
  have queue' : (s.serviceGone g n).QueueOk :=
    State.abandonService_eq (s := s) n ▸ (State.Still.abandonService s g n).queue queue
  have silent (ends : s.serviceGone g n = { s.modSeg g fun sg => { sg with service := .none } with
        poolFree := (s.serviceGone g n).poolFree }) (other : ∀ ix p current, (s.seg g).service ≠ .reading ix p current)
      (pool : (s.serviceGone g n).poolFree = s.poolBack g) : (s.serviceGone g n).Abandoned s g n := by
    have seg (k : Seg) : (s.serviceGone g n).seg k = (s.modSeg g fun sg => { sg with service := .none }).seg k := by
      rw [ends]
      rfl
    have own : (s.serviceGone g n).seg g = { s.seg g with service := .none } := (seg g).trans (State.seg_modSeg_self _ _ _)
    refine ⟨queue', ?_, ?_, fun k away => ?_, ?_, ?_, fun ix => ?_, pool⟩
    · have claims : s.readClaim g = [] := by
        unfold State.readClaim
        split
        · next service => exact absurd service (other _ _ _)
        · rfl
      rw [claims, List.append_nil, ends]
      rfl
    · rw [ends]
      exact List.prefix_rfl
    · exact (seg k).trans (State.seg_modSeg_ne _ _ _ _ away)
    · rw [own]
    · rw [ends]
      rfl
    · rw [own]
      split
      · next service => exact absurd service (other _ _ _)
      · rfl
  cases service : (s.seg g).service with
  | reading ix p current =>
    obtain ⟨rs, cs, q, a, gone, owners, ahead⟩ := State.serviceGone_queue queue service n
    rw [gone] at queue' ⊢
    have own : (s.modSeg g (·.readOver ix p current n (decide (.station g ix .served ∈ cs)))).seg g =
        (s.seg g).readOver ix p current n (decide (.station g ix .served ∈ cs)) := State.seg_modSeg_self _ _ _
    have others (k : Seg) (away : k ≠ g) :
        (s.modSeg g (·.readOver ix p current n (decide (.station g ix .served ∈ cs)))).seg k = s.seg k :=
      State.seg_modSeg_ne _ _ _ _ away
    refine ⟨queue', owners, ahead, others, ?_, rfl, fun k => ?_, ?_⟩
    · refine own.trans ?_
      exact congrArg (fun st => { s.seg g with service := .none, stations := st }) (congrArg Segment.stations own).symm
    · rw [service]
      refine (congrArg (·.station k) own).trans ((Segment.readOver_station ..).trans ?_)
      refine if_ctx_congr Iff.rfl (fun is => ?_) fun _ => rfl
      rw [is]
    · simp only [State.poolBack, service]
      rfl
  | receiving m =>
    have gone : s.serviceGone g n = { s.modSeg g fun sg => { sg with service := .none } with
        poolFree := s.poolFree + (m.bytes.length + 31) / 32 } := by simp only [State.serviceGone, service]
    refine silent (by rw [gone]) (by simp [service]) ?_
    rw [gone]
    simp only [State.poolBack, service]
  | _ =>
    have gone : s.serviceGone g n = s.modSeg g fun sg => { sg with service := .none } := by
      simp only [State.serviceGone, service]
    refine silent (by rw [gone]) (by simp [service]) ?_
    rw [gone]
    simp only [State.poolBack, service]
    rfl

end Abandoned

end Sys2Proof.Machine

/-!
The disable of an enabled segment as a whole: what stays of the segment, of the Roster and of the pool, and the claims in the
order of R159.
-/

namespace Sys2Proof.Machine

/-- What a disable leaves of the segment `s`, where `t` tells of the lists, the sweep claim and the station records (R158). -/
def Segment.off (s t : Segment) : Segment :=
  { s with
    sc := .disabled, monitor := .off, stopSeen := false, stretch := none, recoverRequested := false
    handed := none, current := none, fairness := 0, backoffTimer := none, backoffExpired := false
    urgent := t.urgent, routine := t.routine, rollTimer := none, service := .none
    notice := ⟨.off, 0, s.notice.claim⟩
    engine := if s.engine.state = .none then s.engine else ⟨.none, .none, none, none, 0, 0, 0, 0, none⟩
    sweepClaim := t.sweepClaim, stations := t.stations }

theorem Segment.off_of {a b c s : Segment} (left : c.Left s.release)
    (aborted : b = { c with
      engine := if c.engine.state = .none then c.engine else Engine.reset, sweepClaim := b.sweepClaim })
    (gone : a = { b with service := .none, stations := a.stations }) : a.quiet = s.off a.quiet := by
  rw [Segment.Left] at left
  rw [gone, aborted, left]
  rfl

/-- In `t` the segment `g` of `s` has been disabled, the Roster told by `q`, and the jobs `ended` ended (R158, R159). -/
structure State.SwitchedOff (t s q : State) (g : Seg) (n : Nat) (ended : List Slot) : Prop where
  queue : t.QueueOk
  others : ∀ k, k ≠ g → t.seg k = s.seg k
  own : t.seg g = (s.seg g).off (t.seg g)
  due : ∀ k ∈ t.choiceDue, k ∈ s.choiceDue ∨ k = g
  rest : t = { s with
    slots := t.slots, heldSet := t.heldSet, segs := t.segs, roster := t.roster, poolFree := t.poolFree
    reports := t.reports, claims := t.claims, nextSeq := t.nextSeq, attn := t.attn, choiceDue := t.choiceDue }
  entry : ∀ h, t.entryAt h = (q.entryAt h).map fun d => if d.segment = g then { d with probeDue := false } else d
  station : ∀ ix, (t.seg g).station ix = match (s.seg g).service with
    | .reading k p current =>
      if ix = k then ((s.seg g).station ix).abandoned p current n (decide (.station g ix .served ∈ t.claims))
      else (s.seg g).station ix
    | _ => (s.seg g).station ix
  pool : t.poolFree = s.poolBack g
  merged : (s.seg g).engine.state ≠ .none → ∀ old, (s.seg g).sweepClaim = some old →
    (t.seg g).sweepClaim = some ⟨.aborted, (s.seg g).engine.assigned, min (old.ends + 1) 255⟩
  placed : (s.seg g).engine.state ≠ .none → (s.seg g).sweepClaim = none →
    (.sweepEnded g ∈ t.claims → (t.seg g).sweepClaim = some ⟨.aborted, (s.seg g).engine.assigned, 1⟩) ∧
    (.sweepEnded g ∉ t.claims → (t.seg g).sweepClaim = none ∧
      ∃ r, ⟨0x89, r, [byteOf g.val, 6, byteOf (s.seg g).engine.assigned, 1], .sweepEnded g, false⟩ ∈ t.reports)
  ahead : s.reports <+: t.reports
  owners : t.owners = q.owners ++ ended.map .jobEnded ++
    (if (s.seg g).engine.state ≠ .none ∧ (s.seg g).sweepClaim = none then [.sweepEnded g] else []) ++ s.readClaim g

section Whole

variable {s q d v w : State} {g : Seg} {n : Nat} {ended : List Slot}

theorem State.mem_readClaim {c : Claimant} (mem : c ∈ s.readClaim g) : ∃ ix, c = .station g ix .served := by
  unfold State.readClaim at mem
  split at mem
  · next ix _ _ _ =>
    split at mem
    · cases mem
    · exact ⟨ix, List.mem_singleton.mp mem⟩
  · cases mem

/-- The steps of a disable together. -/
theorem State.SwitchedOff.of_steps (queue : s.QueueOk) (told : q.Told s)
    (jobs : State.EndsOn Segment.Left d (q.modSeg g (·.release)) g (ended.map .jobEnded)) (aborted : v.Aborted d g)
    (gone : w.Abandoned v g n) :
    ((w.modSeg g (·.quiet)).mapEntries g fun e => { e with probeDue := false }).SwitchedOff s q g n ended := by
  have before (k : Seg) : q.seg k = s.seg k := by rw [told.rest]; rfl
  have released : (q.modSeg g (·.release)).seg g = (s.seg g).release := by rw [State.seg_modSeg_self, before]
  have others (k : Seg) (other : k ≠ g) : w.seg k = s.seg k := by
    rw [gone.others k other, aborted.others k other, jobs.others k other, State.seg_modSeg_ne _ _ _ _ other, before]
  have left : (d.seg g).Left (s.seg g).release := released ▸ jobs.own
  have works : (d.seg g).engine = (s.seg g).engine ∧ (d.seg g).sweepClaim = (s.seg g).sweepClaim := by
    rw [Segment.Left] at left
    rw [left]
    exact ⟨rfl, rfl⟩
  have serves : (v.seg g).service = (s.seg g).service ∧ (v.seg g).stations = (s.seg g).stations := by
    rw [Segment.Left] at left
    rw [aborted.own, left]
    exact ⟨rfl, rfl⟩
  have sweep := aborted.owners
  have own : ((w.modSeg g (·.quiet)).mapEntries g fun e => { e with probeDue := false }).seg g = (w.seg g).quiet :=
    State.seg_modSeg_self _ _ _
  have claim (ix : StationIx) : .station g ix .served ∈ v.claims ↔ .station g ix .served ∈ s.claims := by
    obtain ⟨cs, owners, none⟩ := told.owners
    have all : v.owners = s.owners ++ (cs ++ ended.map .jobEnded ++
        if (d.seg g).engine.state ≠ .none ∧ (d.seg g).sweepClaim = Option.none then [.sweepEnded g] else []) := by
      rw [sweep, jobs.owners, show (q.modSeg g (·.release)).owners = q.owners from rfl, owners]
      simp only [List.append_assoc]
    refine State.mem_claims_iff queue aborted.queue all (told.ahead.trans (jobs.ahead.trans aborted.ahead)) ?_
    simp only [List.mem_append, none, false_or, not_or]
    refine ⟨by simp, ?_⟩
    split <;> simp
  have read : v.readClaim g = s.readClaim g := by
    simp only [State.readClaim, serves, claim]
  have swept : .sweepEnded g ∈ w.claims ↔ .sweepEnded g ∈ v.claims := by
    refine State.mem_claims_iff aborted.queue gone.queue gone.owners gone.ahead fun mem => ?_
    obtain ⟨ix, is⟩ := State.mem_readClaim mem
    cases is
  have claims : (w.seg g).sweepClaim = (v.seg g).sweepClaim := by rw [gone.own]
  refine ⟨gone.queue, fun k other => ?_, ?_, fun k mem => ?_, ?_, fun h => ?_, fun ix => ?_, ?_, fun works' old is => ?_,
    fun works' none => ?_, told.ahead.trans (jobs.ahead.trans (aborted.ahead.trans gone.ahead)), ?_⟩
  · exact (State.seg_modSeg_ne _ _ _ _ other).trans (others k other)
  · rw [own]
    exact Segment.off_of left aborted.own gone.own
  · have due : w.choiceDue = d.choiceDue := by rw [gone.rest, aborted.rest]
    have mem' : k ∈ d.choiceDue := due ▸ mem
    have due' : (q.modSeg g (·.release)).choiceDue = s.choiceDue := by rw [told.rest]; rfl
    exact due' ▸ jobs.due k mem'
  · rw [gone.rest, aborted.rest, jobs.rest, told.rest]
    rfl
  · have roster : w.entryAt h = q.entryAt h := by
      rw [gone.rest, aborted.rest, jobs.rest]
      rfl
    rw [State.entryAt_mapEntries]
    exact congrArg (Option.map _) roster
  · have same : ((w.seg g).quiet).station ix = (w.seg g).station ix := rfl
    have was : (v.seg g).station ix = (s.seg g).station ix := congrArg (·[ix.val]) serves.2
    rw [own, same, gone.station, serves.1]
    simp only [was]
    rfl
  · have pool : v.poolFree = s.poolFree := by rw [aborted.rest, jobs.rest, told.rest]; rfl
    refine gone.pool.trans ?_
    simp only [State.poolBack, serves, pool]
  · rw [← works.1] at works'
    rw [← works.2] at is
    rw [own, ← works.1, ← aborted.merged works' old is]
    exact claims
  · rw [← works.1] at works'
    rw [← works.2] at none
    obtain ⟨waits, entered⟩ := aborted.placed works' none
    rw [own, ← works.1]
    refine ⟨fun mem => claims.trans (waits (swept.mp mem)), fun out => ?_⟩
    obtain ⟨cleared, r, mem⟩ := entered (mt swept.mpr out)
    exact ⟨claims.trans cleared, r, gone.ahead.subset mem⟩
  · refine gone.owners.trans ?_
    rw [sweep, jobs.owners, read, works.1, works.2]
    rfl

end Whole

end Sys2Proof.Machine

/-!
SEGMENT_ENABLE and SEGMENT_DISABLE as requests (R157, R158).
-/

namespace Sys2Proof.Machine

section Enable

variable {s : State} {g : Seg} {seg : Byte}

/-! ### Enable -/

/-- The segment after an enable, its notice service in WATCHING where the item is on (R157). -/
theorem State.enable_eq (quiet : (s.seg g).notice.retries = 0) : s.enable g = ((s.modSeg g fun sg => { sg with
    sc := .idle, monitor := .unknown, stopSeen := false
    rollTimer := if sg.config.rollInterval = 0 then none else some sg.config.rollInterval
    notice := if sg.config.noticeService then { sg.notice with state := .watching } else sg.notice }).markChoice g) := by
  have seg : ((s.modSeg g (·.enable)).markChoice g).seg g = (s.seg g).enable := by
    rw [State.markChoice_seg, State.seg_modSeg_self]
  have enabled (watches : Bool) (item : (s.seg g).config.noticeService = watches) :
      s.modSeg g (fun sg => { sg.enable with
        notice := if watches then { sg.notice with state := .watching } else sg.notice }) = s.modSeg g fun sg => { sg with
          sc := .idle, monitor := .unknown, stopSeen := false
          rollTimer := if sg.config.rollInterval = 0 then none else some sg.config.rollInterval
          notice := if sg.config.noticeService then { sg.notice with state := .watching } else sg.notice } :=
    State.modSeg_congr s g (by rw [item]; rfl)
  have watched : ((s.modSeg g (·.enable)).markChoice g).modSeg g (fun sg => { sg with
      notice := { sg.notice with state := .watching } }) = (s.modSeg g fun sg => { sg.enable with
        notice := { sg.notice with state := .watching } }).markChoice g := by
    rw [State.markChoice_modSeg, State.modSeg_modSeg]
    rfl
  have config : ((s.seg g).enable).config = (s.seg g).config := rfl
  unfold State.enable
  simp only [seg, config]
  cases item : (s.seg g).config.noticeService with
  | false =>
    rw [← enabled false item]
    rfl
  | true =>
    rw [← enabled true item, if_pos rfl]
    cases line : (s.seg g).noticeLine with
    | true =>
      rw [State.enterWatching_asserted (by rw [seg]; exact line), watched, State.markChoice_markChoice]
      rfl
    | false =>
      rw [State.enterWatching_quiet (by rw [seg]; exact line) (by rw [seg]; exact quiet), watched]
      rfl

theorem runEnable_badValue (h : 4 ≤ seg.toNat) : runEnable [seg] s = (s, .refused .badValue) := by
  simp [runEnable, byteAt, segOf_eq_none h]

theorem runEnable_enabled (h : seg.toNat = g.val) (on : (s.seg g).sc ≠ .disabled) :
    runEnable [seg] s = (s, .refused .segmentEnabled) := by
  simp [runEnable, byteAt, segOf_eq_some_iff.mpr h, Segment.enabled, on]

theorem runEnable_disabled (h : seg.toNat = g.val) (off : (s.seg g).sc = .disabled) :
    runEnable [seg] s = (s.enable g, .ok []) := by
  simp [runEnable, byteAt, segOf_eq_some_iff.mpr h, Segment.enabled, off]

end Enable

/-! ### Disable -/

section Disable

variable {s : State} {g : Seg} {seg mode : Byte} {cut : BusCut}

/-- The state that a SEGMENT_DISABLE leaves (R158). -/
def State.disabledAt (s : State) (g : Seg) (flush : Bool) (cut : BusCut) : State :=
  if (s.seg g).enabled then s.disable g flush cut else if flush then s.flush g else s

theorem runDisable_badSegment (h : 4 ≤ seg.toNat) : runDisable [seg, mode] cut s = (s, .refused .badValue) := by
  simp [runDisable, byteAt, segOf_eq_none h]

theorem flushOf_eq_some (small : mode.toNat < 2) : flushOf mode = some (decide (mode = 1)) :=
  boolOf_eq_some_iff.mpr ⟨Nat.not_le.mpr small, rfl⟩

theorem flushOf_eq_none (h : 2 ≤ mode.toNat) : flushOf mode = none := by
  refine Option.eq_none_iff_forall_ne_some.mpr fun v is => ?_
  exact (boolOf_eq_some_iff.mp is).1 h

theorem runDisable_badMode (h : 2 ≤ mode.toNat) : runDisable [seg, mode] cut s = (s, .refused .badValue) := by
  have none : flushOf (byteAt [seg, mode] 1) = none := flushOf_eq_none h
  simp [runDisable, none]

theorem runDisable_eq (h : seg.toNat = g.val) (small : mode.toNat < 2) : runDisable [seg, mode] cut s =
    (s.disabledAt g (decide (mode = 1)) cut,
      .ok [byteOf ((s.disabledAt g (decide (mode = 1)) cut).endedCount - s.endedCount)]) := by
  have flush : flushOf (byteAt [seg, mode] 1) = some (decide (mode = 1)) := flushOf_eq_some small
  have here : segOf (byteAt [seg, mode] 0) = some g := segOf_eq_some_iff.mpr h
  simp only [runDisable, here, flush]
  rfl

/-- The rest of a disable leaves the jobs where they are. -/
theorem State.restDisabled_sameJobs (s : State) (g : Seg) (cut : BusCut) (free : (s.seg g).current = none) :
    (s.restDisabled g cut).SameJobs s := by
  have gone : ((s.abortSweep g).abandonService g cut.sent).JobsStand s :=
    (State.JobsStand.abandonService _ g _).trans (State.Calm.abortSweep _ g).jobsStand
  have none : (((s.abortSweep g).abandonService g cut.sent).seg g).current = none :=
    (congrArg (·.2.2.1) (gone.places g)).trans free
  refine State.SameJobs.trans (State.JobsStand.sameJobs ?_) gone.sameJobs
  refine State.JobsStand.trans (State.Calm.mapEntries_probeDue _ g false).jobsStand (.modSeg _ g ?_)
  simp only [Segment.places, Segment.quiet, none]

/-- A disable of an enabled segment: its jobs, and while the laws of the Report Queue hold all the rest. -/
theorem PlacesOk.disable_whole (h : PlacesOk s) (g : Seg) (flush : Bool) (cut : BusCut) :
    ∃ ended : List Slot, (s.disable g flush cut).Disabled s g true flush ended (s.cutRun g cut) ∧
      (s.QueueOk → (s.disable g flush cut).SwitchedOff s (s.cutPresence g cut) g cut.sent ended) := by
  obtain ⟨ended, jobs, claims⟩ := h.jobsDisabled_disabled g flush cut
  refine ⟨ended, jobs.stand (State.restDisabled_sameJobs _ g cut (h.jobsDisabled g flush cut).2), fun queue => ?_⟩
  have told := State.cutPresence_told queue g cut
  have ends := claims told.queue
  have aborted := State.abortSweep_aborted (g := g) ends.queue
  rw [State.disable_eq, State.restDisabled, State.abandonService_eq]
  exact .of_steps queue told ends aborted (State.serviceGone_abandoned aborted.queue g cut.sent)

/-! ### What holds of a disabled segment whatever the Report Queue -/

theorem State.serviceGone_engine (s : State) (g : Seg) (n : Nat) : ((s.serviceGone g n).seg g).engine = (s.seg g).engine := by
  have ended : ((s.modSeg g fun sg => { sg with service := .none }).seg g).engine = (s.seg g).engine := by
    rw [State.seg_modSeg_self]
  unfold State.serviceGone
  split
  · exact ended
  · rw [State.seg_modSeg_self, State.readTaken, ((State.placeClaimOnce_same _ _).seg g).engine, State.seg_modSeg_self]
    rfl
  · exact ended

theorem State.abortSweep_engine (s : State) (g : Seg) : ((s.abortSweep g).seg g).engine.state = .none := by
  unfold State.abortSweep
  split
  · unfold State.endSweep
    simp only
    split
    · rw [State.seg_modSeg_self]; rfl
    · rw [((State.placeClaim_same _ _).seg g).engine, State.seg_modSeg_self]; rfl
  · next idle => simpa [Engine.busy] using idle

/-- The segment after a disable is off and has nothing in hand (R158). -/
theorem State.disable_segment (s : State) (g : Seg) (flush : Bool) (cut : BusCut) :
    let sg := (s.disable g flush cut).seg g
    sg.sc = .disabled ∧ sg.monitor = .off ∧ sg.handed = none ∧ sg.current = none ∧ sg.service = .none ∧
      sg.engine.state = .none ∧ sg.notice.state = .off ∧ sg.rollTimer = none ∧ sg.fairness = 0 ∧
      sg.config = (s.seg g).config := by
  have jobs := State.CalmJobs.jobsDisabled s g flush cut
  have aborted := State.Calm.abortSweep (s.jobsDisabled g flush cut) g
  have off := aborted.toSteady.steadySeg g |>.trans (jobs.toSteady.steadySeg g)
  have gone := State.Alike.abandonService ((s.jobsDisabled g flush cut).abortSweep g) g cut.sent g
  have still := (State.Still.abandonService ((s.jobsDisabled g flush cut).abortSweep g) g cut.sent).trans
    (aborted.toStill.trans jobs.toStill)
  have config := (still.stillSeg g).config
  rw [State.seg_modSeg_self] at off gone config
  have own : (s.disable g flush cut).seg g =
      ((((s.jobsDisabled g flush cut).abortSweep g).abandonService g cut.sent).seg g).quiet := State.seg_modSeg_self _ _ _
  have engine : ((((s.jobsDisabled g flush cut).abortSweep g).abandonService g cut.sent).seg g).engine.state = .none := by
    rw [State.abandonService_eq, State.serviceGone_engine]
    exact State.abortSweep_engine _ g
  have handed : ((((s.jobsDisabled g flush cut).abortSweep g).abandonService g cut.sent).seg g).handed.isSome = false := by
    rw [gone.handed, off.handed]
    rfl
  have before : ((s.cutPresence g cut).seg g).config = (s.seg g).config :=
    ((State.Calm.cutPresence s g cut).toStill.stillSeg g).config
  generalize (((s.jobsDisabled g flush cut).abortSweep g).abandonService g cut.sent).seg g = last at own gone config engine handed
  intro sg
  simp only [sg, own]
  exact ⟨gone.sc.trans off.sc, gone.monitor.trans off.monitor,
    Option.isNone_iff_eq_none.mp (Option.isSome_eq_false_iff.mp handed), rfl, gone.service.mpr rfl, engine, rfl, rfl, rfl,
    config.trans before⟩

/-- No entry of a segment disabled is due for a probe (R158). -/
theorem State.disable_probeDue {h : Handle} {d : Entry} {flush : Bool} (entry : (s.disable g flush cut).entryAt h = some d)
    (here : d.segment = g) : d.probeDue = false := by
  rw [State.disable_eq, State.restDisabled, State.entryAt_mapEntries, Option.map_eq_some_iff] at entry
  obtain ⟨e, -, rfl⟩ := entry
  split
  · rfl
  · next other =>
    rw [if_neg other] at here
    exact absurd here other

/-- Every entry keeps its segment, its address and its kind. -/
theorem State.disabledAt_place (s : State) (g : Seg) (flush : Bool) (cut : BusCut) (h : Handle) :
    ((s.disabledAt g flush cut).entryAt h).map Entry.place = (s.entryAt h).map Entry.place := by
  unfold State.disabledAt
  split
  · have still := (State.Still.afterAbort (s.jobsDisabled g flush cut) g cut).trans
      ((State.Calm.abortSweep _ g).toStill.trans (State.CalmJobs.jobsDisabled s g flush cut).toStill)
    exact ((still.entry h).place).trans ((State.Calm.cutPresence s g cut).toStill.entry h).place
  · split
    · exact ((State.CalmJobs.flush s g).toStill.entry h).place
    · rfl

/-! ### The request as a whole -/

theorem State.disabledAt_on {flush : Bool} (on : (s.seg g).sc ≠ .disabled) : s.disabledAt g flush cut = s.disable g flush cut :=
  if_pos (by simp [Segment.enabled, on])

theorem State.disabledAt_off {flush : Bool} (off : (s.seg g).sc = .disabled) :
    s.disabledAt g flush cut = if flush then s.flush g else s := if_neg (by simp [Segment.enabled, off])

/-- Of a segment enabled or disabled, the jobs, and while the laws of the Report Queue hold the rest. -/
theorem PlacesOk.disabledAt_whole (h : PlacesOk s) (g : Seg) (flush : Bool) (cut : BusCut) :
    ∃ ended : List Slot,
      (s.disabledAt g flush cut).Disabled s g (decide ((s.seg g).sc ≠ .disabled)) flush ended (s.cutRun g cut) ∧
      ((s.seg g).sc ≠ .disabled → s.QueueOk →
        (s.disabledAt g flush cut).SwitchedOff s (s.cutPresence g cut) g cut.sent ended) ∧
      ((s.seg g).sc = .disabled → s.QueueOk →
        State.EndsOn Segment.Listed (s.disabledAt g flush cut) s g (ended.map .jobEnded)) := by
  by_cases off : (s.seg g).sc = .disabled
  · obtain ⟨ended, jobs, claims⟩ := h.flush_disabled g flush (s.cutRun g cut)
    rw [State.disabledAt_off off, decide_eq_false (not_not.mpr off)]
    exact ⟨ended, jobs, fun on => absurd off on, fun _ => claims⟩
  · obtain ⟨ended, jobs, claims⟩ := h.disable_whole g flush cut
    rw [State.disabledAt_on off, decide_eq_true off]
    exact ⟨ended, jobs, fun _ => claims, fun is => absurd is off⟩

/-- The record of the current job: an attempt on the bus counts what it had done, with its flags clear and no check byte
(R84, R158). -/
theorem PlacesOk.cut_record (h : PlacesOk s) {i : Slot} {j : Job} (job : s.jobAt i = some j) (here : j.segment = g)
    {attempt : Nat × List Byte} (counts : attempt = if j.state = .active ∧ (s.seg g).sc = .controlling then
      ((runTx (jobDesc j) cut.answers).written, (runTx (jobDesc j) cut.answers).read) else (0, [])) :
    j.ended .segmentDisabled (if j.state = .active then s.cutRun g cut else .nothing) =
      j.endedAs .segmentDisabled attempt.1 attempt.2 := by
  subst counts
  by_cases active : j.state = .active
  · have handed := (h.handed g i).mpr ⟨j, job, active, here⟩
    have desc : s.descOf g (.job i) = jobDesc j := by simp only [State.descOf, job]
    simp only [active, if_true, true_and, State.cutRun, handed, State.runSoFar, desc]
    split <;> simp only [TxRun.partialCounts, TxRun.afterStretch_written, TxRun.afterStretch_read] <;> rfl
  · simp only [active, if_false, false_and]
    rfl

/-- The address bytes that the attempt cut off had acknowledged (log entry 7). -/
theorem State.cutPresence_attempt {i : Slot} {j : Job} (handed : (s.seg g).handed = some (.job i)) (job : s.jobAt i = some j) :
    s.cutPresence g cut = if (s.seg g).sc = .controlling then s.presenceAck j (runTx (jobDesc j) cut.answers) else s := by
  have desc : s.descOf g (.job i) = jobDesc j := by simp only [State.descOf, job]
  simp only [State.cutPresence, handed, job, State.runSoFar, desc]
  split
  · exact State.presenceAck_afterStretch ..
  · unfold State.presenceAck
    split <;> rfl

theorem State.cutPresence_other (other : ∀ i j, (s.seg g).handed = some (.job i) → s.jobAt i ≠ some j) :
    s.cutPresence g cut = s := by
  unfold State.cutPresence
  split
  · next i handed =>
    split
    · next j job => exact absurd job (other i j handed)
    · rfl
  · rfl

end Disable

end Sys2Proof.Machine

/-!
SEGMENT_ENABLE and SEGMENT_DISABLE settled.
-/

namespace Sys2Proof.Machine

section Host

variable {s t q : State} {g : Seg} {n : Nat} {ended : List Slot}

/-- The pool with nothing to return. -/
theorem State.poolBack_other (other : ∀ m, (s.seg g).service ≠ .receiving m) : s.poolBack g = s.poolFree := by
  unfold State.poolBack
  split
  · next m message => exact absurd message (other m)
  · rfl

theorem State.poolBack_receiving {m : Message} (message : (s.seg g).service = .receiving m) :
    s.poolBack g = s.poolFree + (m.bytes.length + 31) / 32 := by
  simp only [State.poolBack, message]

theorem Segment.Listed.station {a b : Segment} (h : a.Listed b) (ix : StationIx) : a.station ix = b.station ix := by
  rw [Segment.Listed] at h
  rw [h]
  rfl

/-- The jobs that have ended since are those that the disable ended. -/
theorem State.Disabled.mem_ended_iff {on flush : Bool} {c : EndCounts} (h : t.Disabled s g on flush ended c) (i : Slot) :
    i ∈ ended ↔ ∃ j j', s.jobAt i = some j ∧ j.state ≠ .ended ∧ t.jobAt i = some j' ∧ j'.state = .ended := by
  constructor
  · intro mem
    obtain ⟨j, job⟩ := Option.isSome_iff_exists.mp (h.used i mem)
    refine ⟨j, _, job, ?_, h.records i j job mem, rfl⟩
    rcases (h.mem i j job).mp mem with root | ⟨held, -⟩
    · exact root.live
    · simp [held]
  · rintro ⟨j, j', job, live, there, done⟩
    exact (h.ended_iff job live).mp ⟨j', there, done⟩

end Host

/-- Settles O59, by the checks of the two requests in order, and for a disable by what becomes of the jobs, of the segment, and
of the Report Queue. -/
theorem enableAndDisableSegment : Obligations.EnableAndDisableSegment := by
  unfold Obligations.EnableAndDisableSegment
  intro s tag seg takes
  have enables := answered_of_takes takes 0x11 (sizeIs 1 [seg]) (runEnable [seg]) rfl
  have disables (mode : Byte) (cut : BusCut) : Answered (exec (.segmentDisable tag [seg, mode] cut) s) 0x12 tag
      (runDisable [seg, mode] cut s.hunting).2 (runDisable [seg, mode] cut s.hunting).1 :=
    answered_of_takes takes 0x12 (sizeIs 2 [seg, mode]) (runDisable [seg, mode] cut) rfl
  refine ⟨fun none => ⟨?noSegment, fun mode cut => ?noSegment'⟩, fun g here => ⟨fun on => ?enabled, fun off quiet => ?enable,
    fun mode cut => ⟨fun bad => ?badMode, fun keep off => ?keeps, fun small places => ?disable⟩⟩⟩
  case noSegment => rwa [runEnable_badValue none] at enables
  case noSegment' =>
    have run := disables mode cut
    rwa [runDisable_badSegment none] at run
  case enabled => rwa [runEnable_enabled (s := s.hunting) here on] at enables
  case enable =>
    rw [runEnable_disabled (s := s.hunting) here off, State.enable_eq (s := s.hunting) quiet] at enables
    exact enables
  case badMode =>
    have run := disables mode cut
    rwa [runDisable_badMode bad] at run
  case keeps =>
    have run := disables mode cut
    have none : byteOf (s.hunting.endedCount - s.hunting.endedCount) = 0 := by rw [Nat.sub_self]; rfl
    have same : s.hunting.disabledAt g (decide (mode = 1)) cut = s.hunting := by
      rw [State.disabledAt_off (s := s.hunting) off, keep]
      rfl
    rwa [runDisable_eq (s := s.hunting) here (by simp [keep]), same, none] at run
  case disable =>
    intro count
    have run := disables mode cut
    rw [runDisable_eq (s := s.hunting) here small] at run
    have places' : PlacesOk s.hunting := places.stand ⟨rfl, rfl, rfl, fun _ => rfl⟩
    obtain ⟨ended, jobs, switched, flushed⟩ := places'.disabledAt_whole g (decide (mode = 1)) cut
    refine ⟨s.hunting.disabledAt g (decide (mode = 1)) cut, ?answer, fun on => ?segment, fun flush i j => ?flushed, fun i => ?slots,
      fun i j job => ?records, ?lists, fun h => ?entries, fun host => ?host⟩
    case answer =>
      rw [State.endedCount_eq, State.endedCount_eq] at run
      exact run
    case segment =>
      rw [State.disabledAt_on (s := s.hunting) on]
      obtain ⟨sc, monitor, handed, current, service, engine, notice, roll, fairness, config⟩ :=
        s.hunting.disable_segment g (decide (mode = 1)) cut
      exact ⟨sc, monitor, handed, current, service, engine, notice, roll, fairness, config,
        fun h d entry here => State.disable_probeDue entry here⟩
    case flushed =>
      rw [decide_eq_true flush] at jobs ⊢
      exact jobs.none_waits
    case slots =>
      refine ⟨jobs.gen i, fun none => ?_⟩
      have none' : s.hunting.jobAt i = Option.none := none
      rw [jobs.others i fun mem => by simpa [none'] using jobs.used i mem, none']
      rfl
    case records =>
      have job' : s.hunting.jobAt i = some j := job
      intro flushed failed attempt
      refine ⟨jobs.endedJob job', fun current => ?_, fun queued => ?_, fun held => ?_, fun staging => ?_⟩
      · obtain ⟨ends, stays⟩ := jobs.currentJob job' current
        refine ⟨fun here on => ?_, fun other => stays fun both => ?_⟩
        · rw [ends ⟨decide_eq_true on, here⟩]
          exact congrArg some (places'.cut_record job' here rfl)
        · exact other.elim (fun away => away both.2) fun off => of_decide_eq_true both.1 off
      · simpa only [decide_eq_true_eq] using jobs.queuedJob job' queued
      · have fails : failed ↔ _ := jobs.failed_iff places'.off job' (.inl held)
        simpa only [decide_eq_true_eq, ← fails] using jobs.heldJob job' held
      · have fails : failed ↔ _ := jobs.failed_iff places'.off job' (.inr staging)
        simpa only [decide_eq_true_eq, ← fails] using jobs.stagingJob job' staging
    case lists =>
      have lists := jobs.classList places'.off
      have keeps : mode = 0 ↔ ¬ mode = 1 := by bv_omega
      simp only [decide_eq_true_eq] at lists
      refine ⟨?_, ?_, jobs.heldSet_eq places'.off⟩
      · rw [if_congr keeps rfl rfl, ite_not]
        exact lists .urgent
      · rw [if_congr keeps rfl rfl, ite_not]
        exact lists .routine
    case entries => exact State.disabledAt_place s.hunting g _ cut h
    case host =>
      generalize s.hunting.disabledAt g (decide (mode = 1)) cut = t at jobs switched flushed ⊢
      have queue : s.hunting.QueueOk := host.queueOk
      intro enabled acked read swept
      have order : EndOrder s ((if (s.seg g).sc = .disabled then [] else (s.seg g).current.toList) ++
          if mode = 1 then s.accepted.filter fun i => (s.jobAt i).any (·.flushed g) else []) [] ended := by
        have order := jobs.order.congr (t := s.hunting) (s := s) rfl rfl
        simp only [State.disableRoots, decide_eq_true_eq, ne_eq, ite_not] at order
        exact order
      have done (i : Slot) := jobs.mem_ended_iff i
      by_cases disabled : (s.seg g).sc = .disabled
      · have not : ¬ enabled := fun h => h disabled
        have ends := flushed disabled queue
        have same : acked = s := by
          simp only [acked, not, false_and, if_false]
          repeat' split
          all_goals rfl
        have none : read = [] := by
          simp only [read, not, false_and, if_false]
          split <;> rfl
        have idle : ¬ swept := fun h => not h.1
        have roster : t.roster = s.hunting.roster := by rw [ends.rest]
        have pool : t.poolFree = s.hunting.poolFree := by rw [ends.rest]
        refine ⟨ends.others, fun h => absurd h not, fun _ => ends.own, ends.due, ?_, fun h => ?_, fun ix => ?_,
          fun _ _ h => absurd h not, fun _ => pool, fun h => absurd h idle, ends.ahead, ends.queue.claims, ended, ?_, done, order⟩
        · rw [roster, pool]
          exact ends.rest
        · have entry : t.entryAt h = s.entryAt h := congrArg (·[h.val]) roster
          simp [entry, same, not]
        · have station : (t.seg g).station ix = (s.seg g).station ix := ends.own.station ix
          simp only [not, false_and, if_false, station]
          split <;> rfl
        · rw [same, none, List.append_nil, if_neg fun h => idle h.1, List.append_nil]
          exact ends.owners
      · have yes : enabled := disabled
        have ends := switched disabled queue
        have same : s.hunting.cutPresence g cut = acked.hunting := by
          by_cases attempt : ∃ i j, (s.seg g).handed = some (.job i) ∧ s.jobAt i = some j
          · obtain ⟨i, j, handed, job⟩ := attempt
            simp only [acked, handed, job, yes, true_and]
            rw [State.cutPresence_attempt (s := s.hunting) handed job, State.presenceAck_hunting, apply_ite State.hunting]
            rfl
          · rw [State.cutPresence_other (s := s.hunting) fun i j handed job => attempt ⟨i, j, handed, job⟩]
            have own : acked = s := by
              simp only [acked]
              split
              · next i handed =>
                cases job : s.jobAt i with
                | none => rfl
                | some j => exact absurd ⟨i, j, handed, job⟩ attempt
              · rfl
            rw [own]
        have claims : read = s.hunting.readClaim g := by
          have line : (s.hunting.seg g).service = (s.seg g).service := rfl
          simp only [read, State.readClaim, line, yes, true_and]
          cases (s.seg g).service with
          | reading ix p current => exact ite_not ..
          | _ => rfl
        have swept' : swept ↔ (s.seg g).engine.state ≠ .none := and_iff_right yes
        rw [same] at ends
        refine ⟨ends.others, fun _ => ends.own, fun not => absurd yes not, ends.due, ends.rest, fun h => ?_, fun ix => ?_,
          fun m message _ => ends.pool.trans (State.poolBack_receiving (s := s.hunting) message),
          fun other => ends.pool.trans (State.poolBack_other (s := s.hunting) other), fun works => ?_, ends.ahead,
          ends.queue.claims, ended, ?_, done, order⟩
        · simp only [yes, true_and]
          exact ends.entry h
        · refine (ends.station ix).trans ?_
          have line : (s.hunting.seg g) = s.seg g := rfl
          simp only [line, yes, true_and]
          cases (s.seg g).service with
          | reading k p current => simp only [Station.abandoned, decide_eq_true_eq]
          | _ => rfl
        · exact ⟨ends.merged works.2, ends.placed works.2⟩
        · refine ends.owners.trans ?_
          rw [claims, if_congr (and_congr_left' swept') rfl rfl]
          rfl

end Sys2Proof.Machine
